-- ==== Sys2Proof/Word.lean ====
section
/-! DEFINITION. The word types of the ZW96 and the shape of its sparse tables (R10, R12). -/

namespace Sys2Proof

/-- A 32-bit register word (R12). -/
abbrev Word := BitVec 32

/-- One byte of memory, of a frame or of a message. -/
abbrev Byte := BitVec 8

/-- A physical address of the 40-bit address space (R10). -/
abbrev Addr := BitVec 40

/-- A sparse table: pairs of a key and a value, keys strictly rising, no pair that holds the value an
unlisted key reads as. -/
abbrev SMap (α : Type) := List (Nat × α)

/-- A reading of the network time (R68): seconds, nanoseconds, and the fraction in units of 2⁻¹⁶ ns. -/
structure NTime where
  sec : Nat := 0
  ns : Nat := 0
  frac : Nat := 0
  deriving DecidableEq, Repr, Inhabited

/-- A reading in units of 2⁻¹⁶ ns. -/
def NTime.t16 (t : NTime) : Nat := (t.sec * 1000000000 + t.ns) * 65536 + t.frac

/-- The reading of a number of 2⁻¹⁶ ns (R68). -/
def NTime.ofT16 (t : Nat) : NTime :=
  { sec := t / 65536 / 1000000000 % 2 ^ 64, ns := t / 65536 % 1000000000, frac := t % 65536 }

/-- A timestamp (R72): the time in units of 2⁻¹⁶ ns, the epoch, and whether it is valid and the time base was
traceable. -/
structure Stamp where
  t : Nat := 0
  epoch : Nat := 0
  valid : Bool := false
  traceable : Bool := false
  deriving DecidableEq, Repr, Inhabited

end Sys2Proof
end

