-- ==== Sys2Proof/Syntax.lean ====
section
/-! DEFINITION. The commands of the ZW96: one constructor of `Instr` for each row of the table of
operations and events, with the operands its rule names. -/

namespace Sys2Proof

/-! ## Who and what a command names -/

/-- The masters of R9. -/
inductive Master where
  | apc (k : Fin 8) | gp (g : Fin 2) | cdc (n : Fin 16) | cmp (n : Fin 16) | grd (n : Fin 16)
  | ing | dpi (n : Fin 8) | enc | ng (p : Fin 3) | dma (e : Fin 2) | pci | mge | eth (p : Fin 2)
  | kib | mig | tch | bst | debug
  deriving DecidableEq, Repr, Inhabited

/-- The atomics of the A extension (R338). -/
inductive AtomicOp where
  | swap | add | and | or | xor | min | max | minu | maxu | lr | sc
  deriving DecidableEq, Repr, Inhabited

/-- What an access does (R339, R360): a read or fetch of some bytes, a write of bytes, an atomic, or the write-back of
a cache line, with the PRIV of each store that has dirtied it since it was filled. -/
inductive Access where
  | read (len : Nat)
  | write (data : List Byte)
  | fetch (len : Nat)
  | atomic (op : AtomicOp) (data : List Byte)
  | writeBack (data : List Byte) (stores : List Bool)
  deriving DecidableEq, Repr, Inhabited

/-- The monitored rails of R427. -/
inductive Rail where
  | core | aon | ser | ddr | io18 | io33
  deriving DecidableEq, Repr, Inhabited

/-- The wake sources of R441: WAKE with how long it was high and then held low, in µs (R476). -/
inductive WakeSource where
  | touch
  | pin (highUs lowUs : Nat)
  | perst
  deriving DecidableEq, Repr, Inhabited

/-- The Ethernet ports that own rings (R106, R465). -/
inductive EthPort where
  | eta | etb | mge
  deriving DecidableEq, Repr, Inhabited

/-- The processors that take interrupts (R337, R341). -/
inductive Proc where
  | apc (k : Fin 8) | gp (g : Fin 2)
  deriving DecidableEq, Repr, Inhabited

/-- The two interrupt controllers (R344). -/
inductive Controller where
  | ica | ics
  deriving DecidableEq, Repr, Inhabited

/-- The three paths of the Kibiter (R289). -/
inductive KibPath where
  | ng | net | tether
  deriving DecidableEq, Repr, Inhabited

/-- The clock domains with a PLL (R21, R414). -/
inductive Domain where
  | apc | gpd | fab | cdc | cmp | dfi | tim
  deriving DecidableEq, Repr, Inhabited

/-! ## What arrives from the network -/

/-- A received Ethernet frame: its bytes from the destination address to the last before the FCS, and what the
stream it belongs to declares outside them. -/
structure EthFrame where
  bytes : List Byte
  /-- a packet of its stream carries DONL (R111) -/
  donl : Bool := false
  /-- the sender protected it as SRTP or SRTCP (R113) -/
  secured : Bool := false
  deriving DecidableEq, Repr, Inhabited

/-! ## Video input -/

/-- What the main stream attributes of a DisplayPort stream say (R118, R119). -/
structure DpFormat where
  width : Nat
  height : Nat
  hTotal : Nat
  vTotal : Nat
  /-- pixel rate in kHz -/
  pixelKhz : Nat
  bpc : Nat
  ycc : Bool
  /-- interlaced, sub-sampled, compressed or protected: outside R118 -/
  other : Bool
  deriving DecidableEq, Repr, Inhabited

/-- A request on a sink port's AUX channel (R119). -/
inductive DpAux where
  | nativeRead (addr len : Nat)
  | nativeWrite (addr : Nat) (data : List Byte)
  | i2cWrite (addr : Nat) (data : List Byte)
  | i2cRead (addr len : Nat)
  deriving DecidableEq, Repr, Inhabited

/-- The active parameter sets of a stream, as R125 judges them. -/
structure StreamParams where
  h265 : Bool
  profileIdc : Nat
  /-- constraint_set1_flag, or general_profile_compatibility_flag[1] or [2] -/
  compat : Bool
  highTier : Bool
  levelIdc : Nat
  chromaFormat : Nat
  separatePlanes : Bool
  depthLuma : Nat
  depthChroma : Nat
  field : Bool
  width : Nat
  height : Nat
  sliceGroups : Bool
  redundant : Bool
  /-- a picture-size, buffer or rate limit of level 5.1 is broken -/
  overLevel : Bool
  cropLeft : Nat
  cropTop : Nat
  cropW : Nat
  cropH : Nat
  /-- the reorder bound carried in the stream, when it carries one -/
  reorder : Option Nat
  /-- the latency count of an H.265 stream, when it sets one (R139) -/
  latency : Option Nat := none
  maxFrameNum : Nat
  /-- gaps_in_frame_num_allowed_flag -/
  gapsAllowed : Bool
  deriving DecidableEq, Repr, Inhabited

inductive PicKind where
  /-- an IDR; an IRAP with NoRaslOutputFlag 1; another IRAP; a RASL picture of a CRA; any other -/
  | idr | irapNoRasl | irap | rasl | other
  deriving DecidableEq, Repr, Inhabited

/-- What the H.264 or H.265 standard says of the NAL units of an access unit that an engine starts, those of R126
apart (R125 to R147). (DEDUCED, DESIGN CHOICE: log entries 47, 92) -/
structure AuFacts where
  params : StreamParams
  /-- some slice has a good header and names only parameter sets that are held -/
  paramsHeld : Bool
  /-- parameter sets that fail parsing, slices that name a parameter set not held, slices with a bad header (classes
  0x2, 0x3 and 0x4) -/
  badSets : Nat := 0
  missingSets : Nat := 0
  badSlices : Nat := 0
  kind : PicKind
  frameNum : Nat
  poc : Int
  isRef : Bool
  outputFlag : Bool
  /-- recovery_frame_cnt or recovery_poc_cnt of a recovery point SEI -/
  recovery : Option Int
  /-- a reference it names is not in the decoded picture buffer -/
  missingRef : Bool
  deriving DecidableEq, Repr, Inhabited

/-- What the standard gives for a 16×16 block (R149): the vector of the prediction covering its sample (8, 8) in
quarter samples, none for an intra block, and its luma QP and type. -/
structure BlockStat where
  mv : Option (Int × Int) := none
  qp : Int := 0
  skip : Bool := false
  bi : Bool := false
  list1 : Bool := false
  deriving DecidableEq, Repr, Inhabited

/-- The coding facts of a picture for its statistics slot (R149): CTU size, blocks and CTU bits in raster order. -/
structure DecStats where
  ctuSize : Nat := 16
  blocks : List BlockStat := []
  ctuBits : List Nat := []
  phantomUsed : Bool := false
  deriving DecidableEq, Repr, Inhabited

/-- What an engine has when a picture's decoding ends: the samples as the standard gives them where a slice was
decoded, the decoder's findings, and which earlier pictures reference marking removes. -/
structure DecResult where
  luma : List (List Nat)
  chroma : List (List Nat)
  /-- it has P slices; it has B slices -/
  hasP : Bool := false
  hasB : Bool := false
  /-- error class and unit of what decoding found, in the order found (R143) -/
  errors : List (Nat × Nat) := []
  /-- 16×16 areas to conceal, column and row: of failing slices, and of units that no decoded slice covers (R143, R144) -/
  areas : List (Nat × Nat) := []
  missing : List (Nat × Nat) := []
  /-- block, reference buffer and block read there by inter prediction (R145) -/
  inter : List ((Nat × Nat) × Nat × (Nat × Nat)) := []
  /-- block and neighbouring block read by intra prediction (R145) -/
  intra : List ((Nat × Nat) × (Nat × Nat)) := []
  /-- buffers that reference marking removes (R136) -/
  unref : List Nat := []
  stats : DecStats := {}
  decodeUs : Nat := 0
  deriving DecidableEq, Repr, Inhabited

/-! ## Links -/

inductive CrcState where
  | good | bad | stomped
  deriving DecidableEq, Repr, Inhabited

/-- A Ngurelo flit as received (R267). -/
structure Flit where
  type : Nat
  seq : Nat := 0
  ack : Nat := 0
  credit0 : Nat := 0
  credit1 : Nat := 0
  hops : Nat := 32
  dst : Nat := 0xFFFF
  orig : Nat := 0
  tag : Nat := 0
  payload : List Byte := []
  crc : CrcState := .good
  deriving DecidableEq, Repr, Inhabited

/-- How a Kibiter message reaches KIB (R289): a flit at a Ngurelo port, the payload of a frame on the NET path, or the
bytes of a tendril frame after its delimiter. -/
inductive KibArrival where
  | ng (port : Fin 3) (f : Flit) | net (msg : List Byte) | tether (msg : List Byte)
  deriving DecidableEq, Repr, Inhabited

/-- Why a source port trains (R241). -/
inductive TrainCause where
  | write (m : Master) | plug | laneFailure
  deriving DecidableEq, Repr, Inhabited

/-- An AUX reply (R243). -/
inductive AuxAnswer where
  | ack (data : List Byte) (count : Nat) | nack (count : Nat) | defer
  deriving DecidableEq, Repr, Inhabited

/-- A CTU row as coded: its bits and the slice data that hold them. -/
structure CodedRow where
  bits : Nat
  data : List Byte := []
  deriving DecidableEq, Repr, Inhabited

/-- What the engine's coding makes of each CTU row of a mirror picture: coded in full, with every CU a merge skip of
the reference, and flat, each CU DC-predicted without residual (R255). -/
structure EncRows where
  rows : List CodedRow
  skip : List CodedRow := []
  flat : List (List Byte) := []
  encodeUs : Nat := 0
  deriving DecidableEq, Repr, Inhabited

/-- Where session keys belong (R420). -/
inductive KeyUser where
  | ctx (c : Fin 128) | channel (c : Fin 4)
  deriving DecidableEq, Repr, Inhabited

/-- A rank that fails a step of R310 (step 1 is 0): where, and on which lane; none for the whole rank. -/
structure TrainFailure where
  rank : Fin 4
  step : Fin 9
  subch : Bool
  lane : Option (Fin 40)
  deriving DecidableEq, Repr, Inhabited

/-- What a DMC line read returns from the devices: the symbols in error and what each is off by (R313). -/
abbrev SymErrs := List (Nat × Byte)

/-- The capacitances that a touch scan measures, in attofarads (R393): per key, and the surface matrix row by row. -/
structure TouchRaw where
  keys : List (Nat × Nat)
  surface : List (List Nat)
  deriving DecidableEq, Repr, Inhabited

/-- What a touch diagnostic run finds (R406): the capacitance of pins in attofarads, the pins that read low and high,
and the pairs of pins that are shorted. -/
structure TouchDiagRaw where
  open_ : List (Nat × Nat)
  readLow : List Nat
  readHigh : List Nat
  pairs : List (Nat × Nat)
  deriving DecidableEq, Repr, Inhabited

/-- A BAR of the PCIe function: two map into the fabric, BAR4 holds the MSI-X table, the PBA and the doorbells (R455). -/
inductive Bar where
  | bar0 | bar2 | bar4
  deriving DecidableEq, Repr, Inhabited

/-- What a PCIe read of a command returns (R456). -/
inductive HostRead where
  | data (d : List Byte) | error
  deriving DecidableEq, Repr, Inhabited

/-! ## The commands -/

/-- One constructor per row of the table of operations and events. -/
inductive Instr where
  -- register pages (chapter 1)
  | registerWrite (m : Master) (priv : Bool) (addr : Addr) (size : Nat) (v : BitVec 64)
  | pairHighWrite (m : Master) (priv : Bool) (addr : Addr) (v : Word)
  | pairLowRead (m : Master) (addr : Addr)
  | rcRead (m : Master) (addr : Addr)
  | softReset (m : Master) (page : Fin 141)
  | softResetDone (page : Fin 141)
  | blockEnable (m : Master) (page : Fin 141)
  | blockDisable (m : Master) (page : Fin 141)
  | errClear (m : Master) (page : Fin 141)
  | fabricAccess (m : Master) (priv : Bool) (addr : Addr) (a : Access)
  -- power, reset and boot (chapter 17)
  | powerOn
  | supplyReset (rail : Rail) (mv ns : Nat)
  | brownoutWarning (rail : Rail) (mv ns : Nat)
  | brownoutEnd (coreMv ioMv ns : Nat)
  | resetPin (lowNs : Nat)
  | softwareReset (m : Master) (key : Word)
  | debugReset
  | deviceResetRelease (bootXspi : Bool)
  | bootImageVerify (copy : Fin 2) (header image : List Byte) (readOk : Bool)
  | apcRun (m : Master) (mask : BitVec 8)
  | bootDone (m : Master)
  | sysWithdraw (m : Master) (priv : Bool) (key : Word)
  | watchEntry (m : Master)
  | watchWake (src : WakeSource)
  | testEntry (m : Master) (enter : BitVec 8) (readBackZero : Bool)
  | vbatMeasure (mv : Nat)
  -- network time (chapter 3)
  | ptpSet (m : Master) (ns : Word)
  | ptpStep (m : Master) (hi : Word)
  | ptpSlew (m : Master) (amount : Word)
  | slewDone
  | ptpRateAdj (m : Master) (v : Word)
  | ptpTimeSnapshot (m : Master)
  | syncWindowExpire
  | vbatTimeCopy
  | vbatTrimUpdate (ticks : Nat)
  | tsqPop (m : Master)
  | tsqLostRead (m : Master)
  | ttuArm (m : Master) (u : Fin 8) (ctrl : Word)
  | ttuDisarm (m : Master) (u : Fin 8) (ctrl : Word)
  | ttuPulseStart (u : Fin 8)
  | ttuPulseEnd (u : Fin 8)
  | capinEdge (i : Fin 4) (rising : Bool) (heldQns : Nat)
  | capPop (m : Master) (i : Fin 4)
  -- ingest (chapter 4)
  | ethFrameReceive (port : Fin 2) (f : EthFrame)
  | prpEntryForget
  | jbGapRelease (c : Fin 128)
  | srExpire (c : Fin 128)
  | ethTxRequest (port : EthPort)
  | ethRingOff (m : Master) (port : EthPort) (tx : Bool)
  | srcCtxEnable (m : Master) (ctrl : Word)
  | srcCtxDisable (m : Master) (ctrl : Word)
  | srcPageDisable (m : Master)
  | srcStatClear (m : Master)
  | srcTimeoutCheck
  | dpiFrameStart (p : Fin 8) (f : DpFormat)
  | dpiFrameEnd (p : Fin 8) (lines : List (Option (List Word)))
  | dpiLockLoss (p : Fin 8)
  | dpiLinkEnable (m : Master) (p : Fin 8)
  | dpiIrqHpd (m : Master) (p : Fin 8)
  | dpiAuxRequest (p : Fin 8) (r : DpAux)
  -- decoding (chapter 5)
  | dspCtxEnable (m : Master) (n : Fin 16) (ctrl : Word)
  | dspCtxDisable (m : Master) (n : Fin 16) (ctrl : Word)
  | dspCtxFlush (m : Master) (n : Fin 16) (ctrl : Word)
  | decodeStart (n : Fin 16) (f : AuFacts)
  | decodeComplete (n : Fin 16) (r : DecResult)
  | decodeOverrun (n : Fin 16)
  | contextMove (c : Fin 128)
  | bstRotationInterval
  | engineDrained
  | cdcEngineDisable (m : Master) (n : Fin 16)
  | bufHoldSet (m : Master) (n : Fin 16)
  | bufHoldClear (m : Master) (n : Fin 16)
  -- composition (chapter 6)
  | latchPoint (n : Fin 16)
  | tfDataWrite (m : Master) (n : Fin 16) (v : Word)
  | coefDataWrite (m : Master) (n : Fin 16) (v : Word)
  | cmpRowDelivered (n : Fin 16)
  | cmpFrameComplete (n : Fin 16)
  | cmpDisable (m : Master) (n : Fin 16)
  -- guard stage (chapter 7)
  | frameStart (n : Fin 16)
  | petalRowEvaluate (n : Fin 16)
  | rowLate (n : Fin 16) (r : Nat)
  | pmapHeaderWrite (n : Fin 16)
  | refRenderComplete (n : Fin 16) (v : Fin 4)
  | grdCntRead (m : Master) (n : Fin 16)
  -- scan-out (chapter 8)
  | outEnable (m : Master) (n : Fin 16)
  | outDisable (m : Master) (n : Fin 16)
  | outRelease (m : Master) (n : Fin 16)
  | releaseLatchPoint (n : Fin 16)
  | outHold (m : Master) (n : Fin 16)
  | slipLine (n : Fin 16)
  | synthLockLoss (n : Fin 16)
  | linkTrain (n : Fin 16) (c : TrainCause)
  | linkTrainDone (n : Fin 16)
  | hpdIrq (n : Fin 16)
  | hpdUnplug (n : Fin 16)
  | hpdPlug (n : Fin 16)
  | auxI2cWrite (m : Master) (n : Fin 16) (len : BitVec 4) (addr : BitVec 20)
  | auxI2cRead (m : Master) (n : Fin 16) (len : BitVec 4) (addr : BitVec 20)
  | auxI2cWriteMot (m : Master) (n : Fin 16) (len : BitVec 4) (addr : BitVec 20)
  | auxI2cReadMot (m : Master) (n : Fin 16) (len : BitVec 4) (addr : BitVec 20)
  | auxNativeWrite (m : Master) (n : Fin 16) (len : BitVec 4) (addr : BitVec 20)
  | auxNativeRead (m : Master) (n : Fin 16) (len : BitVec 4) (addr : BitVec 20)
  | auxReply (n : Fin 16) (r : AuxAnswer)
  | auxReplyTimeout (n : Fin 16)
  | auxDeferRetry (n : Fin 16)
  -- mirror streams (chapter 9)
  | encChEnable (m : Master) (c : Fin 4) (ctrl : Word)
  | encChDisable (m : Master) (c : Fin 4) (ctrl : Word)
  | encForceIdr (m : Master) (c : Fin 4)
  | encFrameCopy (c : Fin 4)
  | encPictureComplete (c : Fin 4) (r : EncRows)
  | encPacketSend (c : Fin 4)
  | encSenderReport (c : Fin 4)
  -- Ngurelo and Kibiter (chapter 10)
  | ngLinkEnable (m : Master) (p : Fin 3)
  | ngRetrain (m : Master) (p : Fin 3)
  | ngTrainPhaseDone (p : Fin 3)
  | ngTrainTimeout (p : Fin 3)
  | ngTrainRetry (p : Fin 3)
  | trainFlitReceive (p : Fin 3) (f : Flit)
  | idleFlitReceive (p : Fin 3) (f : Flit)
  | linkAckReceive (p : Fin 3) (f : Flit)
  | linkNakReceive (p : Fin 3) (f : Flit)
  | picStartReceive (p : Fin 3) (f : Flit)
  | picDataReceive (p : Fin 3) (f : Flit)
  | picEndReceive (p : Fin 3) (f : Flit)
  | ngReplayTimeout (p : Fin 3)
  | ngGiveUp (p : Fin 3)
  | ngBlockLockLoss (p : Fin 3)
  | ngAckSend (p : Fin 3)
  | ngPicSendStart (p : Fin 3) (duty : Fin 128)
  | ngPicSendEnd (p : Fin 3)
  | ngPicTimeout (c : Fin 128)
  | picHistoryForget (orig stream : Nat)
  | gateRelease (c : Fin 128)
  | kibHeartbeatSend
  | kibClaimNoticeSend
  | heartbeatReceive (a : KibArrival)
  | claimNoticeReceive (a : KibArrival)
  | kibPathTimeout (peer : Fin 64) (path : KibPath)
  | dutyTake (m : Master)
  | dutyYield (m : Master)
  | dutyForce (m : Master)
  | dutyUnforce (m : Master)
  | dutyRoleWrite (m : Master) (v : Word)
  | kibResyncDone
  -- DDR5 (chapter 11)
  | dmcInit (m : Master) (n : Fin 6)
  | dmcInitDone (n : Fin 6) (fails : List TrainFailure)
  | dmcZqCal (n : Fin 6) (rank : Fin 4)
  | dmcDqsOsc (n : Fin 6) (rank : Fin 4)
  | dramRead (m : Master) (priv : Bool) (line : Addr) (e : SymErrs)
  | dramWrite (m : Master) (priv : Bool) (line : Addr) (data : List Byte)
  | dramPartialWrite (m : Master) (priv : Bool) (addr : Addr) (data : List Byte) (e : SymErrs)
  | dramReadRetry (m : Master) (line : Addr) (retries : List SymErrs)
  | poisonQueuePop (m : Master) (n : Fin 6)
  | scrubRead (n : Fin 6) (e : SymErrs)
  | ceWindowEnd (n : Fin 6)
  | caParityAlert (n : Fin 6) (rank : Fin 4)
  | refreshDue (n : Fin 6) (rank : Fin 4) (pending : List (Fin 16 × Nat))
  | refreshMakeup (n : Fin 6) (rank : Fin 4)
  | mr4Poll (n : Fin 6) (hot : List (Fin 4))
  | selfRefreshEntry (n : Fin 6)
  | selfRefreshExit (n : Fin 6) (ok : Bool)
  | migStart (m : Master) (n : Fin 6) (ctrl : Word)
  | migUnitCopy (n : Fin 6) (e0 e1 : SymErrs)
  -- processors and interrupt controllers (chapter 12)
  | timerCompare (p : Proc)
  | interruptOffer (c : Controller) (enabled : List Proc)
  | interruptAccept (p : Proc)
  | interruptDecline (p : Proc)
  | icaEoi (m : Master)
  | swiSet (m : Master) (c : Controller) (src : Word)
  | cntClear (m : Master) (c : Controller) (src : Word)
  | icaPmrWrite (m : Master) (k : Fin 8) (v : Word)
  | icsThreshWrite (m : Master) (g : Fin 2) (v : Word)
  | lockstepMismatch (g : Fin 2)
  -- access gates (chapter 13)
  | regionEnable (m : Master) (g : Fin 32) (r : Fin 16) (ctrl : Word)
  | gateLock (m : Master) (g : Fin 32)
  | gateFaultClear (m : Master) (g : Fin 32)
  | gateDrainRead (m : Master) (g : Fin 32)
  | gateDrainAnswer (g : Fin 32)
  -- DMA and check-value units (chapter 14)
  | dmaDescFetch (e : Fin 2) (c : Fin 8)
  | dmaCopy (e : Fin 2) (c : Fin 8)
  | dmaFill (e : Fin 2) (c : Fin 8)
  | dmaCrc (e : Fin 2) (c : Fin 8)
  | dmaCopyCrc (e : Fin 2) (c : Fin 8)
  | dmaDescComplete (e : Fin 2) (c : Fin 8) (i : Fin 4)
  | dmaCqWrite (e : Fin 2)
  | dmaResume (m : Master) (e : Fin 2) (c : Fin 8)
  | dmaChDisable (m : Master) (e : Fin 2) (c : Fin 8)
  | dmaRingConfig (m : Master) (e : Fin 2) (c : Fin 8) (v : Word)
  | crcStart (m : Master) (u : Fin 8)
  | crcFinish (m : Master) (u : Fin 8)
  | crcData (m : Master) (u : Fin 8) (v : Word)
  | crcData8 (m : Master) (u : Fin 8) (v : Word)
  | crcCfgWrite (m : Master) (u : Fin 8) (v : Word)
  -- touch (chapter 15)
  | touchScanEnable (m : Master)
  | touchScanDisable (m : Master)
  | touchScanStart
  | touchScanEnd (r : TouchRaw)
  | touchDiag (m : Master)
  | touchDiagDone (r : TouchDiagRaw)
  | touchWatchRequest
  -- self-test and keys (chapter 16)
  | bstRun (m : Master) (readBackZero : Bool)
  | bstRunEnd (part : Fin 25) (execCount : Nat) (sig : Word)
  | bstAbort (m : Master)
  | bstRunTimeout (part : Fin 25)
  | seqFirmwareCheck (n : Fin 16)
  | keyZeroise (m : Master) (readBackZero : Bool)
  | loadPlain (m : Master) (len256 : Bool)
  | loadWrapped (m : Master) (wrap len256 : Bool)
  | slotClear (m : Master)
  | vstoreLoad (m : Master)
  | vstoreClear (m : Master)
  | rngRead (m : Master)
  | sessionKeyDerived (u : KeyUser)
  | fuseSvWrite (m : Master) (sv : BitVec 8)
  -- MRAM
  | mramStore
  | mramRead (m : Master) (priv : Bool) (word : Fin 524288) (bitErrors : List (Fin 72))
  -- host (chapter 18)
  | pciLinkEnable (m : Master)
  | perstAssert
  | hostBarAccess (bar : Bar) (offset : Nat) (a : Access)
  | pciCmdFetch (q : Fin 16) (r : HostRead)
  | hostDoorbell (q : Fin 16) (completion : Bool) (v : Word)
  | pciCplPost (m : Master) (v : Word)
  | msixMessageDue (q : Fin 16)
  | hostD3hot (pmeEn pmeClear : Bool)
  | hostD0 (busMaster pmeEn pmeClear : Bool)
  | aspmL1Entry
  | functionLevelReset
  | mgeFrameReceive (bytes : List Byte)
  | mdioRead (m : Master) (phy reg : BitVec 5)
  | mdioWrite (m : Master) (phy reg : BitVec 5) (data : BitVec 16)
  | mdioDone (data : BitVec 16)
  | i2cGo (m : Master) (i : Fin 4) (cmd : Word)
  | i2cDone (i : Fin 4) (result : Fin 3) (data : List Byte)
  | uartTx (m : Master) (u : Fin 2) (v : Word)
  | uartRxByte (u : Fin 2) (b : Byte)
  | uartRxPop (m : Master) (u : Fin 2)
  | gpioEdge (p : Fin 32) (rising : Bool)
  | dbgChallengeRead
  | dbgResponse (level : Byte) (pubkey sig : List Byte)
  -- events of links, pins and supplies
  | ethLinkUp (p : Fin 2)
  | ethLinkDown (p : Fin 2)
  | mgeLinkChange (up : Bool)
  | pcieLinkUp (width : Nat) (speed : Nat)
  | pcieLinkDown
  | perstRelease
  | msixVectorUnmask (v : Fin 32)
  | dpiLockGained (p : Fin 8) (f : DpFormat)
  | ngCrcError (p : Fin 3) (f : Flit)
  | mramStoreComplete
  | bstRerun
  | pllLockLoss (d : Domain)
  | vbatSupplyLoss (aonMv : Nat)
  | rngHealthFail
  | uartTxEmpty (u : Fin 2)
  deriving DecidableEq, Repr, Inhabited

end Sys2Proof
end

