-- ==== Sys2Proof/Decode.lean ====
section
/-! DEFINITION. The commands that words spell: the table of operations and events gives its rows no bits. -/

namespace Sys2Proof

/-- The command that a word spells by the bits of the table: none, since no row has bits.
(DESIGN CHOICE: log entry 1) -/
def decodeTableWord (_nbits _w : Nat) : Option Instr := none

end Sys2Proof
end

