-- ==== Sys2Proof/Config.lean ====
section
/-! DEFINITION. What an implementation fixes and the free values of the manual: constants without a body. -/

namespace Sys2Proof.Config

/-- The free values: what the manual leaves open where the machine goes on (NOTES.md, Assumptions). The
step applies it to a counter of the state, so every use is a value of its own. (DESIGN CHOICE: log entry 6) -/
opaque freeWord : Nat → Word

/-- The expected signature of a self-test partition, held in the boot ROM (R413, R425).
(DESIGN CHOICE: log entry 8) -/
opaque bstExpect : Nat → Word

/-- The N of the 10 N operations that March C− makes on system SRAM (R410); the manual does not say which cells it counts.
(DESIGN CHOICE: log entry 110) -/
opaque sramCells : Nat

/-- The contents of the boot ROM (R10); the manual does not give them. (DESIGN CHOICE: log entry 8) -/
opaque bootRom : Nat → Byte

/-- Whether a write discarded with a block-specific code of R18 gets an error response, where the chapter
does not say. (DESIGN CHOICE: log entry 7) -/
opaque codeErrors (page code : Nat) : Bool

/-- The glyph rows of the text font, bit 7 leftmost (R206); the manual does not give them.
(DESIGN CHOICE: log entry 8) -/
opaque font (char row : Nat) : Byte

/-- The random byte behind the boot tag of each device reset (R277). (DESIGN CHOICE: log entry 8) -/
opaque bootTag : Nat → Byte

/-- The fused security version at manufacture (R422). (DESIGN CHOICE: log entry 8) -/
opaque fuseSv : Byte

/-- The fused 256-bit device wrapping key, byte by byte (R418). (DESIGN CHOICE: log entry 8) -/
opaque wrapKeyByte : Nat → Byte

/-- Whether a master salt of 96 bits stands at the low end of the 112 bits of the key derivation (R420).
(PRESUMED: log entry 9) -/
opaque saltLow : Bool

/-- What an SRTP engine makes of session keys that the suite's key length does not fit (R113, R262), sealing and opening.
(PRESUMED: log entry 9) -/
opaque oddSeal (keys : List (List Byte)) (suite index : Nat) (rtcp : Bool) (head plain : List Byte) : List Byte
/-- The same of opening (R113). (PRESUMED: log entry 9) -/
opaque oddOpen (keys : List (List Byte)) (suite index : Nat) (rtcp : Bool) (head sealed : List Byte) :
    Option (List Byte)

/-- What the parameter sets of a mirror stream say (R250, R252); every other element is the encoder's. -/
structure StreamHead where
  profileIdc : Nat
  highTier : Bool
  levelIdc : Nat
  chromaIdc : Nat
  depth : Nat
  ctuSize : Nat
  minCb : Nat
  decPicBufMinus1 : Nat
  reorder : Nat
  layers : Nat
  tiles : Bool
  wavefront : Bool
  scalingLists : Bool
  temporalMv : Bool
  deblocking : Bool
  sao : Bool
  primaries : Nat
  transfer : Nat
  matrix : Nat
  fullRange : Bool
  /-- coded size, and what the conformance window takes off at the right and at the bottom -/
  width : Nat
  height : Nat
  cropRight : Nat
  cropBottom : Nat
  deriving DecidableEq, Repr, Inhabited

/-- What the header of a slice segment of a mirror stream says (R252). -/
structure SegmentHead where
  /-- IDR_N_LP, else a P picture with the one reference before it -/
  idr : Bool
  poc : Nat
  /-- the first CTU of the segment -/
  address : Nat
  qp : Nat
  deriving DecidableEq, Repr, Inhabited

/-- VPS, SPS and PPS of a stream, and a slice segment of one CTU row with its coded data: H.265 gives their bits, and
the manual does not. (PRESUMED: log entry 9) -/
opaque parameterSets (h : StreamHead) : List (List Byte)
/-- A slice segment (R252). (PRESUMED: log entry 9) -/
opaque sliceSegment (h : SegmentHead) (data : List Byte) : List Byte

/-- The fused 128-bit device identifier, byte by byte (R469). (DESIGN CHOICE: log entry 8) -/
opaque deviceIdByte : Nat → Byte

/-- The fused key hashes and whether a key is revoked (R422). (DESIGN CHOICE: log entry 8) -/
opaque fusedHash (i : Nat) : List Byte
/-- Whether a fused key is revoked (R422). (DESIGN CHOICE: log entry 8) -/
opaque fusedRevoked (i : Nat) : Bool

end Sys2Proof.Config
end

