-- ==== Sys2Proof/Machine/Tables.lean ====
section
/-! DEFINITION. The registers of every kind of page, as the tables of the manual give them: offset,
reset value and, per access type of R6, the bits that have it. -/

namespace Sys2Proof.Machine

/-- Which selection a register address goes through (R16, R150, R303, R425, R426, R463). (DEDUCED: log entry 24) -/
inductive Win where
  | page | master | ctx | dspCtx | dspBuf | duty | peer | gateCtx | part | slot | qp
  deriving DecidableEq, Repr

/-- Half of a 64-bit pair of R13, or neither. -/
inductive Half where
  | single | low | high
  deriving DecidableEq, Repr

/-- One register of a page, or `count` of them `stride` bytes apart. The masks give the bits of each
access type; bits of no mask are RO fields. `resv` are the reserved bits (R5). -/
structure RegRow where
  name : String
  off : Nat
  count : Nat := 1
  stride : Nat := 4
  reset : Word := 0
  rw : Word := 0
  w1c : Word := 0
  w1s : Word := 0
  rc : Word := 0
  wo : Word := 0
  resv : Word := 0
  win : Win := .page
  pair : Half := .single
  /-- guard-owned (R7) -/
  guard : Bool := false
  /-- its fields are LATCH fields (R6, R186) -/
  latch : Bool := false
  /-- a timing register of R224 -/
  timing : Bool := false
  deriving DecidableEq, Repr

/-- The common header (R17). (DEDUCED: log entry 4) -/
def tabHdr : List RegRow := [
  { name := "BLK_ID", off := 0x000 },
  { name := "BLK_CAPS", off := 0x004 },
  { name := "BLK_CTRL", off := 0x008, rw := 0x1, w1s := 0x2, resv := 0xFFFFFFF8 },
  { name := "BLK_STAT", off := 0x00C, resv := 0xFFF0 },
  { name := "IRQ_RAW", off := 0x010, w1c := 0xFFFFFFFF },
  { name := "IRQ_EN", off := 0x014, rw := 0xFFFFFFFF },
  { name := "IRQ_STATUS", off := 0x018 },
  { name := "ERR_CODE", off := 0x01C, wo := 0x8000, resv := 0x7F00 },
  { name := "ERR_ADDR_LO", off := 0x020, pair := .low },
  { name := "ERR_ADDR_HI", off := 0x024, resv := 0xFFFFFF00, pair := .high },
  { name := "OWNER", off := 0x028, resv := 0xFFFFFFFC }]

/-- The SYS page (R30, R449). -/
def tabSys : List RegRow := [
  { name := "SYS_DEV_STATE", off := 0x040, reset := 0x2, resv := 0xFFFFF8F8 },
  { name := "SYS_BOOT_CTRL", off := 0x044, w1s := 0xFF01, resv := 0xFFFF00FE },
  { name := "SYS_DRAM_TOP", off := 0x048, rw := 0x3FF, resv := 0xFFFFFC00 },
  { name := "SYS_WITHDRAW", off := 0x04C, wo := 0xFFFF, resv := 0xFFFF0000 },
  { name := "SYS_WD_CAUSE", off := 0x050, resv := 0xFFFF0F00 },
  { name := "SYS_RESET_REQ", off := 0x054, wo := 0xFFFF, resv := 0xFFFF0000 },
  { name := "SYS_WD_TIME_LO", off := 0x058, pair := .low },
  { name := "SYS_WD_TIME_HI", off := 0x05C, pair := .high }]

/-- The PTP page (R80). Part 0. -/
def tabPtp0 : List RegRow := [
  { name := "PTP_TIME_SEC_LO", off := 0x040 },
  { name := "PTP_TIME_SEC_HI", off := 0x044 },
  { name := "PTP_TIME_NS", off := 0x048, resv := 0xC0000000 },
  { name := "PTP_TIME_FRAC", off := 0x04C, resv := 0xFF00 },
  { name := "PTP_SET_SEC_LO", off := 0x050, rw := 0xFFFFFFFF, pair := .low },
  { name := "PTP_SET_SEC_HI", off := 0x054, rw := 0xFFFFFFFF, pair := .high },
  { name := "PTP_SET_NS", off := 0x058, rw := 0x3FFFFFFF, resv := 0xC0000000 },
  { name := "PTP_STEP_LO", off := 0x060, rw := 0xFFFFFFFF, pair := .low },
  { name := "PTP_STEP_HI", off := 0x064, rw := 0xFFFFFFFF, pair := .high },
  { name := "PTP_RATE_ADJ", off := 0x068, rw := 0xFFFFFFFF },
  { name := "PTP_SLEW", off := 0x06C, rw := 0xFFFFFFFF },
  { name := "PTP_SLEW_CFG", off := 0x070, reset := 0x11, rw := 0x1F, resv := 0xFFFFFFE0 }]

/-- The PTP page (R80). Part 1. -/
def tabPtp1 : List RegRow := [
  { name := "PTP_EPOCH_CFG", off := 0x074, reset := 0x2710, rw := 0xFFFFF, resv := 0xFFF00000 },
  { name := "PTP_STAT", off := 0x078, resv := 0xFFFF00F0 },
  { name := "PTP_TRACE", off := 0x07C, reset := 0x13880000, rw := 0xFFFFFF01, resv := 0xFE },
  { name := "PTP_GM_ID_LO", off := 0x080, rw := 0xFFFFFFFF, pair := .low },
  { name := "PTP_GM_ID_HI", off := 0x084, rw := 0xFFFFFFFF, pair := .high },
  { name := "PTP_ETA_TX_LAT", off := 0x088, rw := 0xFFFFF, resv := 0xFFF00000 },
  { name := "PTP_ETA_RX_LAT", off := 0x08C, rw := 0xFFFFF, resv := 0xFFF00000 },
  { name := "PTP_ETB_TX_LAT", off := 0x090, rw := 0xFFFFF, resv := 0xFFF00000 },
  { name := "PTP_ETB_RX_LAT", off := 0x094, rw := 0xFFFFF, resv := 0xFFF00000 },
  { name := "PTP_TSQ_ID", off := 0x0A0, resv := 0x30FF0000 },
  { name := "PTP_TSQ_SEC_LO", off := 0x0A4 },
  { name := "PTP_TSQ_SEC_HI", off := 0x0A8 }]

/-- The PTP page (R80). Part 2. -/
def tabPtp2 : List RegRow := [
  { name := "PTP_TSQ_NS", off := 0x0AC, resv := 0xC0000000 },
  { name := "PTP_TSQ_FRAC", off := 0x0B0, resv := 0xFF00 },
  { name := "PTP_TSQ_STAT", off := 0x0B4, resv := 0xFFFFFFE0 },
  { name := "PTP_TSQ_LOST", off := 0x0B8, rc := 0xFFFF, resv := 0xFFFF0000 },
  { name := "PTP_TSQ_LOST_FIRST", off := 0x0BC, resv := 0x3FFF0000 },
  { name := "PTP_TSQ_LOST_LAST", off := 0x0C0, resv := 0x3FFF0000 }]

/-- The PTP page (R80). -/
def tabPtp : List RegRow := tabPtp0 ++ tabPtp1 ++ tabPtp2

/-- The SRC page (R62, R102, R124). Part 0. -/
def tabSrc0 : List RegRow := [
  { name := "SRC_SEL", off := 0x040, rw := 0x7F, resv := 0xFFFFFF80, win := .master },
  { name := "SRC_EVT_PEND", off := 0x044, count := 4, stride := 0x4 },
  { name := "SRC_CTX_CTRL", off := 0x100, rw := 0xF3F, resv := 0xFFFFF0C0, win := .ctx },
  { name := "SRC_RX_MATCH", off := 0x104, rw := 0xF7F3FFFF, resv := 0x80C0000, win := .ctx },
  { name := "SRC_RX_SSRC", off := 0x108, rw := 0xFFFFFFFF, win := .ctx },
  { name := "SRC_PEER_STREAM", off := 0x10C, rw := 0xFFFF, resv := 0xFFFF0000, win := .ctx },
  { name := "SRC_JB_BASE_LO", off := 0x110, rw := 0xFFFF0000, resv := 0xFFFF, win := .ctx, pair := .low },
  { name := "SRC_JB_BASE_HI", off := 0x114, rw := 0xFF, resv := 0xFFFFFF00, win := .ctx, pair := .high },
  { name := "SRC_JB_CFG", off := 0x118, reset := 0x4E20, rw := 0xFFFFFFFF, win := .ctx },
  { name := "SRC_SRTP_CFG", off := 0x11C, rw := 0xFF07, resv := 0xFFFF00F8, win := .ctx },
  { name := "SRC_CT_CFG", off := 0x120, reset := 0x322710, rw := 0xC7FFFFFF, resv := 0x38000000, win := .ctx, guard := true },
  { name := "SRC_CT_LAT", off := 0x128, rw := 0xFFFFFFFF, win := .ctx, guard := true }]

/-- The SRC page (R62, R102, R124). Part 1. -/
def tabSrc1 : List RegRow := [
  { name := "SRC_TOKEN_POS", off := 0x12C, rw := 0xFFFFFFFF, win := .ctx, guard := true },
  { name := "SRC_TOKEN_SIZE", off := 0x130, rw := 0xFFFFFFFF, win := .ctx, guard := true },
  { name := "SRC_TIMEOUT", off := 0x134, reset := 0x3E8, rw := 0xFFFF, resv := 0xFFFF0000, win := .ctx },
  { name := "SRC_CTX_STAT", off := 0x138, resv := 0xFFFFF8F8, win := .ctx },
  { name := "SRC_CTX_EVT", off := 0x13C, w1c := 0x1FF, resv := 0xFFFFFE00, win := .ctx },
  { name := "SRC_CTX_EVT_EN", off := 0x140, rw := 0x1FF, resv := 0xFFFFFE00, win := .ctx },
  { name := "SRC_STAT_CLR", off := 0x144, wo := 0x1, resv := 0xFFFFFFFE, win := .ctx },
  { name := "ST_PKTS", off := 0x150, win := .ctx },
  { name := "ST_KBYTES", off := 0x154, win := .ctx },
  { name := "ST_LOST", off := 0x158, win := .ctx },
  { name := "ST_LATE", off := 0x15C, win := .ctx },
  { name := "ST_DUP", off := 0x160, win := .ctx }]

/-- The SRC page (R62, R102, R124). Part 2. -/
def tabSrc2 : List RegRow := [
  { name := "ST_AUTH", off := 0x164, win := .ctx },
  { name := "ST_UNSUP", off := 0x168, win := .ctx },
  { name := "ST_AU_OUT", off := 0x16C, win := .ctx },
  { name := "ST_AU_PART", off := 0x170, win := .ctx },
  { name := "ST_AU_DROP", off := 0x174, win := .ctx },
  { name := "ST_TIMEOUTS", off := 0x178, win := .ctx },
  { name := "ST_SR", off := 0x17C, win := .ctx },
  { name := "SRC_REC_BASE_LO", off := 0x1F0, rw := 0xFFF00000, resv := 0xFFFFF, pair := .low, guard := true },
  { name := "SRC_REC_BASE_HI", off := 0x1F4, rw := 0xFF, resv := 0xFFFFFF00, pair := .high, guard := true },
  { name := "SRC_REC_SIZE", off := 0x1F8, rw := 0xFFFF, resv := 0xFFFF0000, guard := true },
  { name := "SRC_LV_CFG", off := 0x200, reset := 0x640001, rw := 0xFFFF0003, resv := 0xFFFC, win := .ctx, guard := true },
  { name := "SRC_WILT_LIMIT", off := 0x204, reset := 0x7A120, rw := 0xFFFFFFFF, win := .ctx, guard := true }]

/-- The SRC page (R62, R102, R124). Part 3. -/
def tabSrc3 : List RegRow := [
  { name := "SRC_PRESS_LIMIT", off := 0x208, reset := 0x19, rw := 0xFFFF, resv := 0xFFFF0000, win := .ctx, guard := true },
  { name := "SRC_TOKEN_LIMIT", off := 0x20C, reset := 0x7D0, rw := 0xFFFF, resv := 0xFFFF0000, win := .ctx, guard := true },
  { name := "SRC_LV_STAT", off := 0x210, win := .ctx },
  { name := "SRC_LAST_CT_SEC_LO", off := 0x214, win := .ctx },
  { name := "SRC_LAST_CT_SEC_HI", off := 0x218, win := .ctx },
  { name := "SRC_LAST_CT_NS", off := 0x21C, resv := 0xC0000000, win := .ctx },
  { name := "SRC_LAST_CT_FRAC", off := 0x220, resv := 0xFF00, win := .ctx },
  { name := "SRC_LAST_TOKEN_HOLD", off := 0x224, win := .ctx }]

/-- The SRC page (R62, R102, R124). -/
def tabSrc : List RegRow := tabSrc0 ++ tabSrc1 ++ tabSrc2 ++ tabSrc3

/-- An ETA or ETB page, and the ring part of MGE (R106, R465). Part 0. -/
def tabEth0 : List RegRow := [
  { name := "ETx_MODE", off := 0x040, rw := 0x3, resv := 0xFFFFFFEC },
  { name := "ETx_MAC_LO", off := 0x044, rw := 0xFFFFFFFF, pair := .low },
  { name := "ETx_MAC_HI", off := 0x048, rw := 0xFFFF, resv := 0xFFFF0000, pair := .high },
  { name := "ETx_RXR_BASE_LO", off := 0x050, rw := 0xFFFFFFFF, pair := .low },
  { name := "ETx_RXR_BASE_HI", off := 0x054, rw := 0xFFFFFFFF, pair := .high },
  { name := "ETx_RXR_CFG", off := 0x058, rw := 0xF, resv := 0xFFFFFFF0 },
  { name := "ETx_RXR_HEAD", off := 0x05C },
  { name := "ETx_RXR_TAIL", off := 0x060, rw := 0xFFFFFFFF },
  { name := "ETx_TXR_BASE_LO", off := 0x070, rw := 0xFFFFFFFF, pair := .low },
  { name := "ETx_TXR_BASE_HI", off := 0x074, rw := 0xFFFFFFFF, pair := .high },
  { name := "ETx_TXR_CFG", off := 0x078, rw := 0xF, resv := 0xFFFFFFF0 },
  { name := "ETx_TXR_HEAD", off := 0x07C }]

/-- An ETA or ETB page, and the ring part of MGE (R106, R465). Part 1. -/
def tabEth1 : List RegRow := [
  { name := "ETx_TXR_TAIL", off := 0x080, rw := 0xFFFFFFFF }]

/-- An ETA or ETB page, and the ring part of MGE (R106, R465). -/
def tabEth : List RegRow := tabEth0 ++ tabEth1

/-- The ING page (R109). -/
def tabIng : List RegRow := [
  { name := "ING_PRP_CFG", off := 0x040, reset := 0x1401, rw := 0xFF01, resv := 0xFFFF00FE },
  { name := "ING_PRP_DUP", off := 0x044, rc := 0xFFFFFFFF },
  { name := "ING_PRP_WRONG_LAN", off := 0x048, rc := 0xFFFFFFFF },
  { name := "ING_RING_FULL", off := 0x04C, rc := 0xFFFFFFFF },
  { name := "ING_OVERSIZE", off := 0x050, rc := 0xFFFFFFFF },
  { name := "ING_ADDR_CFG", off := 0x100, count := 16, stride := 0x20, rw := 0xFFF0007, resv := 0xF000FFF8 },
  { name := "ING_ADDR_W0", off := 0x104, count := 16, stride := 0x20, rw := 0xFFFFFFFF },
  { name := "ING_ADDR_W1", off := 0x108, count := 16, stride := 0x20, rw := 0xFFFFFFFF },
  { name := "ING_ADDR_W2", off := 0x10C, count := 16, stride := 0x20, rw := 0xFFFFFFFF },
  { name := "ING_ADDR_W3", off := 0x110, count := 16, stride := 0x20, rw := 0xFFFFFFFF }]

/-- A DPI page (R119). -/
def tabDpi : List RegRow := [
  { name := "DPI_CTRL", off := 0x040, rw := 0x3, w1s := 0x4, resv := 0xFFFFFFF8 },
  { name := "DPI_CFG", off := 0x044, reset := 0x8, rw := 0xFF, resv := 0xFFFFFF00 },
  { name := "DPI_STAT", off := 0x048, resv := 0xFFFFF000 },
  { name := "DPI_GEOM", off := 0x04C },
  { name := "DPI_TRAIN_FAIL", off := 0x050, rc := 0xFFFFFFFF },
  { name := "DPI_EDID", off := 0x100, count := 64, stride := 0x4, rw := 0xFFFFFFFF }]

/-- A CDC page and the dispatcher window (R150). Part 0. -/
def tabCdc0 : List RegRow := [
  { name := "CDC_ENG_STAT", off := 0x040, reset := 0xFF000001, resv := 0xFFFFFC },
  { name := "CDC_ENG_LOAD", off := 0x044, resv := 0xFFF00000 },
  { name := "CDC_ENG_PICS", off := 0x048, rc := 0xFFFFFFFF },
  { name := "CDC_ENG_BUSY", off := 0x04C, rc := 0xFFFFFFFF },
  { name := "DSP_STAT", off := 0x800, reset := 0x1F0000, resv := 0xFFE00000 },
  { name := "DSP_COMMIT", off := 0x804, resv := 0xFF800000 },
  { name := "DSP_POOL_BASE_LO", off := 0x808, rw := 0xFFFFFFC0, resv := 0x3F, pair := .low },
  { name := "DSP_POOL_BASE_HI", off := 0x80C, rw := 0xFF, resv := 0xFFFFFF00, pair := .high },
  { name := "DSP_POOL_CFG", off := 0x810, rw := 0x1FFF, resv := 0xFFFFE000 },
  { name := "DSP_STATE_BASE_LO", off := 0x814, rw := 0xFF800000, resv := 0x7FFFFF, pair := .low },
  { name := "DSP_STATE_BASE_HI", off := 0x818, rw := 0xFF, resv := 0xFFFFFF00, pair := .high },
  { name := "DSP_SEL", off := 0x81C, rw := 0x7F, resv := 0xFFFFFF80, win := .master }]

/-- A CDC page and the dispatcher window (R150). Part 1. -/
def tabCdc1 : List RegRow := [
  { name := "DSP_BUF_SEL", off := 0x820, rw := 0xFFF, resv := 0xFFFFF000, win := .master },
  { name := "DSP_EVT_PEND", off := 0x824, count := 4, stride := 0x4 },
  { name := "DSP_CTX_CTRL", off := 0x840, reset := 0x400, rw := 0x7FF03, wo := 0x4, resv := 0xFFF800F8, win := .dspCtx },
  { name := "DSP_CTX_RATE", off := 0x844, rw := 0xFFFFF, resv := 0xFFF00000, win := .dspCtx },
  { name := "DSP_CTX_STAT", off := 0x848, resv := 0xF00F0000, win := .dspCtx },
  { name := "DSP_CTX_ERR_LAST", off := 0x84C, win := .dspCtx },
  { name := "DSP_CTX_ERRCNT", off := 0x850, count := 6, stride := 0x4, rc := 0xFFFFFFFF, win := .dspCtx },
  { name := "DSP_CTX_CONCEAL", off := 0x868, rc := 0xFFFFFFFF, win := .dspCtx },
  { name := "DSP_CTX_EVT", off := 0x86C, w1c := 0xFF, resv := 0xFFFFFF00, win := .dspCtx },
  { name := "DSP_CTX_EVT_EN", off := 0x870, rw := 0xFF, resv := 0xFFFFFF00, win := .dspCtx },
  { name := "DSP_STATS_BASE_LO", off := 0x874, rw := 0xFFFF0000, resv := 0xFFFF, win := .dspCtx, pair := .low },
  { name := "DSP_STATS_BASE_HI", off := 0x878, rw := 0xFF, resv := 0xFFFFFF00, win := .dspCtx, pair := .high }]

/-- A CDC page and the dispatcher window (R150). Part 2. -/
def tabCdc2 : List RegRow := [
  { name := "DSP_STATS_CFG", off := 0x87C, rw := 0xFFFF, resv := 0xFFFF0000, win := .dspCtx },
  { name := "DSP_STATS_HEAD", off := 0x880, resv := 0xFFFFFF00, win := .dspCtx },
  { name := "DSP_STATS_TAIL", off := 0x884, rw := 0xFF, resv := 0xFFFFFF00, win := .dspCtx },
  { name := "DSP_STATS_LOST", off := 0x888, rc := 0xFFFFFFFF, win := .dspCtx },
  { name := "DSP_BUF_MARKS", off := 0x890, win := .dspBuf },
  { name := "DSP_BUF_HOLD", off := 0x894, rw := 0x1, resv := 0xFFFFFFFE, win := .dspBuf },
  { name := "DSP_BUF_GEOM", off := 0x898, win := .dspBuf },
  { name := "DSP_BUF_CROP_LT", off := 0x89C, win := .dspBuf },
  { name := "DSP_BUF_CROP_WH", off := 0x8A0, win := .dspBuf },
  { name := "DSP_BUF_INFO", off := 0x8A4, reset := 0xFF000000, resv := 0xFFFEFF, win := .dspBuf },
  { name := "DSP_BUF_SEQ", off := 0x8A8, win := .dspBuf }]

/-- A CDC page and the dispatcher window (R150). -/
def tabCdc : List RegRow := tabCdc0 ++ tabCdc1 ++ tabCdc2

/-- A CMP page (R179). Part 0. -/
def tabCmp0 : List RegRow := [
  { name := "CMP_BG0", off := 0x040, rw := 0xFFFFFFF, resv := 0xF0000000, latch := true },
  { name := "CMP_BG1", off := 0x044, rw := 0x3FFF, resv := 0xFFFFC000, latch := true },
  { name := "CMP_OUT_CFG", off := 0x048, reset := 0x2, rw := 0x7, resv := 0xFFFFFFF8, latch := true },
  { name := "CMP_FRAME", off := 0x04C },
  { name := "CMP_SEQ", off := 0x050 },
  { name := "CMP_TBL_USE", off := 0x054, resv := 0xFFFFF0C0 },
  { name := "CMP_TF_IDX", off := 0x060, rw := 0x7FFF, resv := 0xFFFF8000 },
  { name := "CMP_TF_DATA", off := 0x064, rw := 0x3FFF, resv := 0xFFFFC000 },
  { name := "CMP_COEF_IDX", off := 0x068, rw := 0x3FE7, resv := 0xFFFFC018 },
  { name := "CMP_COEF_DATA", off := 0x06C, rw := 0x3FF, resv := 0xFFFFFC00 },
  { name := "CMP_LAYER_FAULT", off := 0x070, resv := 0xFFFFFF00 },
  { name := "Lk_CTRL", off := 0x100, count := 8, stride := 0x80, reset := 0x3080000, rw := 0xE7F87FF0, resv := 0x1807800F, latch := true }]

/-- A CMP page (R179). Part 1. -/
def tabCmp1 : List RegRow := [
  { name := "Lk_ALPHA", off := 0x104, count := 8, stride := 0x80, reset := 0x3FFF, rw := 0x3FFF, resv := 0xFFFFC000, latch := true },
  { name := "Lk_FADDR_LO", off := 0x108, count := 8, stride := 0x80, rw := 0xFFFFFFC0, resv := 0x3F, pair := .low, latch := true },
  { name := "Lk_FADDR_HI", off := 0x10C, count := 8, stride := 0x80, rw := 0xFF, resv := 0xFFFFFF00, pair := .high, latch := true },
  { name := "Lk_PLANES", off := 0x110, count := 8, stride := 0x80, rw := 0xFFFFFFFF, latch := true },
  { name := "Lk_STRIDE", off := 0x114, count := 8, stride := 0x80, rw := 0x1FFC0, resv := 0xFFFE003F, latch := true },
  { name := "Lk_SRC_SIZE", off := 0x118, count := 8, stride := 0x80, rw := 0xFFFFFFFF, latch := true },
  { name := "Lk_CROP_POS", off := 0x11C, count := 8, stride := 0x80, rw := 0xFFFFFFFF, latch := true },
  { name := "Lk_CROP_SIZE", off := 0x120, count := 8, stride := 0x80, rw := 0xFFFFFFFF, latch := true },
  { name := "Lk_DST_POS", off := 0x124, count := 8, stride := 0x80, rw := 0xFFFFFFFF, latch := true },
  { name := "Lk_DST_SIZE", off := 0x128, count := 8, stride := 0x80, rw := 0xFFFFFFFF, latch := true },
  { name := "Lk_REC_LO", off := 0x12C, count := 8, stride := 0x80, rw := 0xFFFFFFC0, resv := 0x3F, pair := .low, guard := true, latch := true },
  { name := "Lk_REC_HI", off := 0x130, count := 8, stride := 0x80, rw := 0xFF, resv := 0xFFFFFF00, pair := .high, guard := true, latch := true }]

/-- A CMP page (R179). Part 2. -/
def tabCmp2 : List RegRow := [
  { name := "Lk_STAT", off := 0x140, count := 8, stride := 0x80, resv := 0x1FF },
  { name := "Lk_BUF", off := 0x144, count := 8, stride := 0x80, resv := 0x7FFFF000 },
  { name := "Lk_REPEAT", off := 0x148, count := 8, stride := 0x80, rc := 0xFFFFFFFF },
  { name := "Lk_FADDR_TAKEN", off := 0x14C, count := 8, stride := 0x80, reset := 0xFFFFFFFF },
  { name := "Lk_MB_ERR", off := 0x150, count := 8, stride := 0x80, rc := 0xFFFFFFFF }]

/-- A CMP page (R179). -/
def tabCmp : List RegRow := tabCmp0 ++ tabCmp1 ++ tabCmp2

/-- A GRD page (R214). Part 0. -/
def tabGrd0 : List RegRow := [
  { name := "GRD_LIVE_DECL", off := 0x040, rw := 0xFF, resv := 0xFFFFFF00, guard := true, latch := true },
  { name := "GRD_TEXT_CFG", off := 0x044, reset := 0x1, rw := 0x3, resv := 0xFFFFFFFC, guard := true, latch := true },
  { name := "GRD_PMAP_BASE_LO", off := 0x048, rw := 0xFFFFF000, resv := 0xFFF, pair := .low, guard := true },
  { name := "GRD_PMAP_BASE_HI", off := 0x04C, rw := 0xFF, resv := 0xFFFFFF00, pair := .high, guard := true },
  { name := "GRD_PMAP_CFG", off := 0x050, reset := 0x204, rw := 0x1FFFF, resv := 0xFFFE0000, guard := true },
  { name := "GRD_PMAP_HEAD", off := 0x054, resv := 0xFFFFFFF0, guard := true },
  { name := "GRD_SEQ_LAST", off := 0x058, guard := true },
  { name := "GRD_STALL_CNT", off := 0x05C, rc := 0xFFFFFFFF, guard := true },
  { name := "GRD_SKIP_CNT", off := 0x060, rc := 0xFFFFFFFF, guard := true },
  { name := "GRD_LATE_CNT", off := 0x064, rc := 0xFFFFFFFF, guard := true },
  { name := "GRD_CNT_A", off := 0x068, guard := true },
  { name := "GRD_CNT_B", off := 0x06C, guard := true }]

/-- A GRD page (R214). Part 1. -/
def tabGrd1 : List RegRow := [
  { name := "GRD_CNT_C", off := 0x070, guard := true },
  { name := "GRD_FRAME", off := 0x074, guard := true },
  { name := "GRD_WORD_LO", off := 0x080, count := 4, stride := 0x8, rw := 0xFFFFFFFF, pair := .low, guard := true, latch := true },
  { name := "GRD_WORD_HI", off := 0x084, count := 4, stride := 0x8, rw := 0xFFFFFFFF, pair := .high, guard := true, latch := true },
  { name := "GRD_FONT_IDX", off := 0x0A0, reset := 0x2000, rw := 0x7F0F, resv := 0xFFFF80F0, guard := true },
  { name := "GRD_FONT_DATA", off := 0x0A4, resv := 0xFFFFFF00, guard := true },
  { name := "GRD_VR_CTRL", off := 0x100, count := 4, stride := 0x20, reset := 0x2, rw := 0xFF07, resv := 0xFFFF00F8, guard := true, latch := true },
  { name := "GRD_VR_POS", off := 0x104, count := 4, stride := 0x20, rw := 0xFFFFFFFF, guard := true, latch := true },
  { name := "GRD_VR_SIZE", off := 0x108, count := 4, stride := 0x20, reset := 0x400040, rw := 0xFFFFFFFF, guard := true, latch := true },
  { name := "GRD_VR_EXPECT", off := 0x10C, count := 4, stride := 0x20, rw := 0xFFFFFFFF, guard := true, latch := true },
  { name := "GRD_VR_ACTUAL", off := 0x110, count := 4, stride := 0x20, guard := true },
  { name := "GRD_VR_REF", off := 0x114, count := 4, stride := 0x20, guard := true }]

/-- A GRD page (R214). Part 2. -/
def tabGrd2 : List RegRow := [
  { name := "GRD_VR_STAT", off := 0x118, count := 4, stride := 0x20, resv := 0xFFFF00F8, guard := true },
  { name := "GRD_VR_MISS", off := 0x11C, count := 4, stride := 0x20, rc := 0xFFFFFFFF, guard := true }]

/-- A GRD page (R214). -/
def tabGrd : List RegRow := tabGrd0 ++ tabGrd1 ++ tabGrd2

/-- An OUT page (R244). Part 0. -/
def tabOut0 : List RegRow := [
  { name := "OUT_CTRL", off := 0x040, w1s := 0x3, resv := 0xFFFFFFFC },
  { name := "OUT_STAT", off := 0x044, resv := 0xF1FC },
  { name := "OUT_FRAME", off := 0x048, reset := 0xFFFFFFFF },
  { name := "OUT_H_TIMING0", off := 0x04C, reset := 0xF001130, rw := 0xFFFFFFFF, timing := true },
  { name := "OUT_H_TIMING1", off := 0x050, reset := 0x805800B0, rw := 0x83FF1FFF, resv := 0x7C00E000, timing := true },
  { name := "OUT_V_TIMING0", off := 0x054, reset := 0x87008CA, rw := 0xFFFFFFFF, timing := true },
  { name := "OUT_V_TIMING1", off := 0x058, reset := 0x800A0008, rw := 0x803F1FFF, resv := 0x7FC0E000, timing := true },
  { name := "OUT_FMT", off := 0x05C, reset := 0x1, rw := 0x1, resv := 0xFFFFFFFE, timing := true },
  { name := "OUT_FL_T0_SEC_LO", off := 0x060, rw := 0xFFFFFFFF, pair := .low, timing := true },
  { name := "OUT_FL_T0_SEC_HI", off := 0x064, rw := 0xFFFFFFFF, pair := .high, timing := true },
  { name := "OUT_FL_T0_NS", off := 0x068, rw := 0x3FFFFFFF, resv := 0xC0000000, timing := true },
  { name := "OUT_FL_T0_FRAC", off := 0x06C, rw := 0xFFFF0000, resv := 0xFFFF, timing := true }]

/-- An OUT page (R244). Part 1. -/
def tabOut1 : List RegRow := [
  { name := "OUT_FL_PER_NS", off := 0x070, reset := 0xFE502A, rw := 0xFFFFFFFF, timing := true },
  { name := "OUT_FL_PER_FRAC", off := 0x074, reset := 0xAAAAAAAA, rw := 0xFFFFFFFF, timing := true },
  { name := "OUT_FL_CYC_N", off := 0x078, reset := 0x3, rw := 0xFFFF, resv := 0xFFFF0000, timing := true },
  { name := "OUT_FL_CYC_NS", off := 0x07C, reset := 0x2FAF080, rw := 0xFFFFFFFF, timing := true },
  { name := "OUT_FL_CYC_FRAC", off := 0x080, rw := 0xFFFF0000, resv := 0xFFFF, timing := true },
  { name := "OUT_FL_STAT", off := 0x084, resv := 0xFFFF },
  { name := "OUT_FL_SKIP", off := 0x088, rc := 0xFFFFFFFF },
  { name := "OUT_FL_STRETCH", off := 0x08C, rc := 0xFFFFFFFF },
  { name := "OUT_GROUP", off := 0x090, rw := 0x3, resv := 0xFFFFFFFC, timing := true },
  { name := "OUT_LINK_CFG", off := 0x094, reset := 0xE3, rw := 0xF0F7, resv := 0xFFFF0F08, timing := true },
  { name := "OUT_LINK_CTRL", off := 0x098, rw := 0x1, w1s := 0x2, resv := 0xFFFFFFFC },
  { name := "OUT_LINK_STAT", off := 0x09C, resv := 0xFFFFF0E0 }]

/-- An OUT page (R244). Part 2. -/
def tabOut2 : List RegRow := [
  { name := "OUT_LINK_FAIL", off := 0x0A0, rc := 0xFFFFFFFF },
  { name := "OUT_UF_CNT", off := 0x0A4, rc := 0xFFFFFFFF },
  { name := "OUT_GUARD", off := 0x0A8, rw := 0xFF, resv := 0xFFFFFF00, guard := true },
  { name := "OUT_AUX_CMD", off := 0x0B0, rw := 0xFF0FFFFF, resv := 0xF00000 },
  { name := "OUT_AUX_STAT", off := 0x0B4, resv := 0xFFFF00F0 },
  { name := "OUT_AUX_DATA", off := 0x0B8, count := 4, stride := 0x4, rw := 0xFFFFFFFF },
  { name := "OUT_CRC_CTRL", off := 0x100, count := 4, stride := 0x20, rw := 0x1, resv := 0xFFFFFFFE, latch := true },
  { name := "OUT_CRC_POS", off := 0x104, count := 4, stride := 0x20, rw := 0xFFFFFFFF, latch := true },
  { name := "OUT_CRC_SIZE", off := 0x108, count := 4, stride := 0x20, reset := 0x400040, rw := 0xFFFFFFFF, latch := true },
  { name := "OUT_CRC_EXPECT", off := 0x10C, count := 4, stride := 0x20, rw := 0xFFFFFFFF, latch := true },
  { name := "OUT_CRC_ACTUAL", off := 0x110, count := 4, stride := 0x20 },
  { name := "OUT_CRC_STAT", off := 0x114, count := 4, stride := 0x20, resv := 0xFFFFFFF8 }]

/-- An OUT page (R244). Part 3. -/
def tabOut3 : List RegRow := [
  { name := "OUT_CRC_MISS", off := 0x118, count := 4, stride := 0x20, rc := 0xFFFFFFFF }]

/-- An OUT page (R244). -/
def tabOut : List RegRow := tabOut0 ++ tabOut1 ++ tabOut2 ++ tabOut3

/-- The ENC page (R263). Part 0. -/
def tabEnc0 : List RegRow := [
  { name := "ENC_CFG", off := 0x040, reset := 0x3E8, rw := 0xFFFF, resv := 0xFFFF0000 },
  { name := "ENC_STAT", off := 0x044, resv := 0xFFFFFFF0 },
  { name := "ENC_CH_CTRL", off := 0x100, count := 4, stride := 0x80, rw := 0x1, w1s := 0x2, resv := 0xFFFFFFFC },
  { name := "ENC_CH_SRC", off := 0x104, count := 4, stride := 0x80, rw := 0xF37, resv := 0xFFFFF0C8 },
  { name := "ENC_CH_GOP", off := 0x108, count := 4, stride := 0x80, reset := 0x3C2D14, rw := 0xFFFF3F3F, resv := 0xC0C0 },
  { name := "ENC_CH_RATE", off := 0x10C, count := 4, stride := 0x80, reset := 0x4004E20, rw := 0xFF00FFFF, resv := 0xFF0000 },
  { name := "ENC_CH_VBV", off := 0x110, count := 4, stride := 0x80, reset := 0xC8, rw := 0x3FF, resv := 0xFFFFFC00 },
  { name := "ENC_CH_WORK_LO", off := 0x114, count := 4, stride := 0x80, rw := 0xFFF00000, resv := 0xFFFFF, pair := .low },
  { name := "ENC_CH_WORK_HI", off := 0x118, count := 4, stride := 0x80, rw := 0xFF, resv := 0xFFFFFF00, pair := .high },
  { name := "ENC_CH_WORK_SIZE", off := 0x11C, count := 4, stride := 0x80, rw := 0xFFFF, resv := 0xFFFF0000 },
  { name := "ENC_CH_HDR_LO", off := 0x120, count := 4, stride := 0x80, rw := 0xFFFFFFC0, resv := 0x3F, pair := .low },
  { name := "ENC_CH_HDR_HI", off := 0x124, count := 4, stride := 0x80, rw := 0xFF, resv := 0xFFFFFF00, pair := .high }]

/-- The ENC page (R263). Part 1. -/
def tabEnc1 : List RegRow := [
  { name := "ENC_CH_HDR_CFG", off := 0x128, count := 4, stride := 0x80, reset := 0x578702A, rw := 0xFFFFFFFF },
  { name := "ENC_CH_SSRC", off := 0x12C, count := 4, stride := 0x80, rw := 0xFFFFFFFF },
  { name := "ENC_CH_SRTP", off := 0x130, count := 4, stride := 0x80, rw := 0xFF07, resv := 0xFFFF00F8 },
  { name := "ENC_CH_STAT", off := 0x134, count := 4, stride := 0x80, resv := 0x7F000F8 },
  { name := "ENC_CH_LAST_BITS", off := 0x138, count := 4, stride := 0x80 },
  { name := "ENC_CH_PICS", off := 0x13C, count := 4, stride := 0x80, rc := 0xFFFFFFFF },
  { name := "ENC_CH_KBITS", off := 0x140, count := 4, stride := 0x80, rc := 0xFFFFFFFF },
  { name := "ENC_CH_SKIP_PICS", off := 0x144, count := 4, stride := 0x80, rc := 0xFFFFFFFF },
  { name := "ENC_CH_SKIP_ROWS", off := 0x148, count := 4, stride := 0x80, rc := 0xFFFFFFFF },
  { name := "ENC_CH_DROPS", off := 0x14C, count := 4, stride := 0x80, rc := 0xFFFFFFFF },
  { name := "ENC_CH_PKTS", off := 0x150, count := 4, stride := 0x80, rc := 0xFFFFFFFF },
  { name := "ENC_CH_IDRS", off := 0x154, count := 4, stride := 0x80, rc := 0xFFFFFFFF }]

/-- The ENC page (R263). -/
def tabEnc : List RegRow := tabEnc0 ++ tabEnc1

/-- An NGP, NGQ or NGR page (R301). -/
def tabNg : List RegRow := [
  { name := "NG_CTRL", off := 0x040, rw := 0x1, w1s := 0x2, resv := 0xFFFFFFFC },
  { name := "NG_STAT", off := 0x044, reset := 0xC000, resv := 0x3FF8 },
  { name := "NG_FWD", off := 0x048, rw := 0x7, resv := 0xFFFFFFF8 },
  { name := "NG_REPLAY_CFG", off := 0x04C, reset := 0x40C, rw := 0xFFF, resv := 0xFFFFF000 },
  { name := "NG_REPLAYS", off := 0x050, rc := 0xFFFFFFFF },
  { name := "NG_GIVEUPS", off := 0x054, rc := 0xFFFFFFFF },
  { name := "NG_CRC_ERR", off := 0x058, rc := 0xFFFFFFFF },
  { name := "NG_STOMPED", off := 0x05C, rc := 0xFFFFFFFF },
  { name := "NG_TRAIN_FAIL", off := 0x060, rc := 0xFFFFFFFF },
  { name := "NG_RX_DISCARD", off := 0x064, rc := 0xFFFFFFFF },
  { name := "NG_TX_SKIP", off := 0x068, rc := 0xFFFFFFFF },
  { name := "NG_PIC_DROP", off := 0x06C, rc := 0xFFFFFFFF }]

/-- The KIB page (R303). Part 0. -/
def tabKib0 : List RegRow := [
  { name := "KIB_DEVICE", off := 0x040, rw := 0xFFFF, resv := 0xFF0000 },
  { name := "KIB_HB_CFG", off := 0x044, reset := 0xBB80000, rw := 0xFFFF03FF, resv := 0xFC00, guard := true },
  { name := "KIB_HB_PATHS", off := 0x048, reset := 0xBB, rw := 0xFF, resv := 0xFFFFFF00, guard := true },
  { name := "KIB_GATE_HOLD", off := 0x04C, reset := 0x3E8, rw := 0xFFFF, resv := 0xFFFF0000, guard := true },
  { name := "KIB_RESYNC", off := 0x050, reset := 0x64, rw := 0xFFFF, resv := 0xFFFF0000 },
  { name := "KIB_NET_MAC_LO", off := 0x054, rw := 0xFFFFFFFF, pair := .low },
  { name := "KIB_NET_MAC_HI", off := 0x058, rw := 0xFFFF, resv := 0xFFFF0000, pair := .high },
  { name := "KIB_NET_CFG", off := 0x05C, reset := 0x88B50000, rw := 0xFFFF1FFF, resv := 0xE000 },
  { name := "KIB_STAT", off := 0x060, resv := 0xFFFFFFF8 },
  { name := "KIB_HB_SEQ", off := 0x064 },
  { name := "KIB_TETHER_CFG", off := 0x068, rw := 0xFFFF, resv := 0xFFFF0000 },
  { name := "KIB_DUTY_SEL", off := 0x070, rw := 0x7F, resv := 0xFFFFFF80, win := .master }]

/-- The KIB page (R303). Part 1. -/
def tabKib1 : List RegRow := [
  { name := "KIB_PEER_SEL", off := 0x074, rw := 0x3F, resv := 0xFFFFFFC0, win := .master },
  { name := "KIB_GATE_SEL", off := 0x078, rw := 0x7F, resv := 0xFFFFFF80, win := .master },
  { name := "KIB_EVT_PEND", off := 0x080, count := 4, stride := 0x4 },
  { name := "KIB_DUTY_CFG", off := 0x100, rw := 0xFFFFE07F, resv := 0x1F80, win := .duty },
  { name := "KIB_DUTY_PARTNER", off := 0x104, rw := 0xFFFF, resv := 0xFFFF0000, win := .duty },
  { name := "KIB_DUTY_ROLE", off := 0x108, rw := 0xFFFF0103, resv := 0xFEFC, win := .duty, guard := true },
  { name := "KIB_DUTY_CMD", off := 0x10C, wo := 0x7, resv := 0xFFFFFFF8, win := .duty, guard := true },
  { name := "KIB_DUTY_STAT", off := 0x110, resv := 0xFF88, win := .duty },
  { name := "KIB_DUTY_EVT", off := 0x114, w1c := 0x1F, resv := 0xFFFFFFE0, win := .duty },
  { name := "KIB_DUTY_EVT_EN", off := 0x118, rw := 0x1F, resv := 0xFFFFFFE0, win := .duty },
  { name := "KIB_DUTY_TAKEOVERS", off := 0x11C, rc := 0xFFFFFFFF, win := .duty },
  { name := "KIB_PEER_ID", off := 0x140, resv := 0x7FFC0000, win := .peer }]

/-- The KIB page (R303). Part 2. -/
def tabKib2 : List RegRow := [
  { name := "KIB_PEER_PATHS", off := 0x144, resv := 0xFFFFFFF8, win := .peer },
  { name := "KIB_PEER_SEQ", off := 0x148, win := .peer },
  { name := "KIB_PEER_MISS", off := 0x14C, rc := 0xFFFFFFFF, win := .peer },
  { name := "KIB_GATE_STAT", off := 0x180, win := .gateCtx },
  { name := "KIB_GATE_AGE", off := 0x184, reset := 0xFFFFFFFF, win := .gateCtx },
  { name := "KIB_GATE_SWITCH", off := 0x188, rc := 0xFFFFFFFF, win := .gateCtx },
  { name := "KIB_GATE_REFUSED", off := 0x18C, rc := 0xFFFFFFFF, win := .gateCtx }]

/-- The KIB page (R303). -/
def tabKib : List RegRow := tabKib0 ++ tabKib1 ++ tabKib2

/-- A DMC page (R334). Part 0. -/
def tabDmc0 : List RegRow := [
  { name := "DMC_CTRL", off := 0x040, reset := 0x4, rw := 0x6, w1s := 0x1, resv := 0xFFFFFFF8 },
  { name := "DMC_STAT", off := 0x044, resv := 0xFFFF03F8 },
  { name := "DMC_GEOM", off := 0x048, rw := 0xFB, resv := 0xFFFFFF04 },
  { name := "DMC_RANK", off := 0x04C, resv := 0xFFFF0000 },
  { name := "DMC_TRAIN_STAT", off := 0x050, resv := 0xFFFF01C0 },
  { name := "DMC_REF_CFG", off := 0x054, reset := 0x18, rw := 0x1F, resv := 0xFFFFFFE0 },
  { name := "DMC_SCRUB_CFG", off := 0x058, reset := 0x18, rw := 0xFF, resv := 0xFFFFFF00 },
  { name := "DMC_SCRUB_STAT", off := 0x05C, resv := 0xFF80 },
  { name := "DMC_RETRY_CFG", off := 0x060, reset := 0x21F4, rw := 0x33FF, resv := 0xFFFFCC00 },
  { name := "DMC_CE_CFG", off := 0x064, reset := 0x3C03E8, rw := 0x80FFFFFF, resv := 0x7F000000 },
  { name := "DMC_CE_CNT", off := 0x068, count := 4, stride := 0x4, rc := 0xFFFFFFFF },
  { name := "DMC_CE_LAST", off := 0x078, resv := 0xFFFC007F }]

/-- A DMC page (R334). Part 1. -/
def tabDmc1 : List RegRow := [
  { name := "DMC_UE_CNT", off := 0x07C, rc := 0xFFFFFF },
  { name := "DMC_POISON_POP", off := 0x080, resv := 0x1FFFFF00 },
  { name := "DMC_POISON_ADDR", off := 0x084, resv := 0x3F },
  { name := "DMC_POISON_LOST", off := 0x088, rc := 0xFFFF, resv := 0xFFFF0000 },
  { name := "DMC_MIG_CTRL", off := 0x090, reset := 0x800, rw := 0xFF0C, w1s := 0x1, resv := 0xFFFF00F2 },
  { name := "DMC_MIG_STAT", off := 0x094, resv := 0xC07FFF80 },
  { name := "DMC_MIG_WMARK", off := 0x098 },
  { name := "DMC_PORT_QOS", off := 0x100, count := 16, stride := 0x4, rw := 0x7FFFF, resv := 0xFFF00000 },
  { name := "DMC_PORT_MAXLAT", off := 0x140, count := 16, stride := 0x4, rc := 0xFFFFFFFF }]

/-- A DMC page (R334). -/
def tabDmc : List RegRow := tabDmc0 ++ tabDmc1

/-- The ICA page (R355). Part 0. -/
def tabIca0 : List RegRow := [
  { name := "ICA_VBASE_LO", off := 0x040, rw := 0xFFFFE000, resv := 0x1FFF, pair := .low },
  { name := "ICA_VBASE_HI", off := 0x044, rw := 0xFF, resv := 0xFFFFFF00, pair := .high },
  { name := "ICA_EOI", off := 0x048, wo := 0xFFFFFFFF },
  { name := "ICA_SWI_SET", off := 0x04C, wo := 0x1FF, resv := 0xFFFFFE00 },
  { name := "ICA_CNT_CLR", off := 0x050, wo := 0x1FF, resv := 0xFFFFFE00 },
  { name := "ICA_TIME_LO", off := 0x054, pair := .low },
  { name := "ICA_TIME_HI", off := 0x058, pair := .high },
  { name := "ICA_DECLINES", off := 0x05C, rc := 0xFFFFFFFF },
  { name := "ICA_SPURIOUS", off := 0x060, rc := 0xFFFFFFFF },
  { name := "ICA_CORE_STAT", off := 0x100, count := 8, stride := 0x20, resv := 0x7FE00000 },
  { name := "ICA_PMR", off := 0x104, count := 8, stride := 0x20, rw := 0x3F, resv := 0xFFFFFFC0 },
  { name := "ICA_CMP_LO", off := 0x108, count := 8, stride := 0x20, reset := 0xFFFFFFFF, rw := 0xFFFFFFFF, pair := .low }]

/-- The ICA page (R355). Part 1. -/
def tabIca1 : List RegRow := [
  { name := "ICA_CMP_HI", off := 0x10C, count := 8, stride := 0x20, reset := 0xFFFFFFFF, rw := 0xFFFFFFFF, pair := .high },
  { name := "ICA_BERR_LO", off := 0x110, count := 8, stride := 0x20, pair := .low },
  { name := "ICA_BERR_HI", off := 0x114, count := 8, stride := 0x20, resv := 0xFFFFFF00, pair := .high },
  { name := "ICA_CNT", off := 0x400, count := 128, stride := 0x4 },
  { name := "ICA_OVF", off := 0x600, count := 16, stride := 0x4, w1c := 0xFFFFFFFF },
  { name := "ICA_PEND", off := 0x640, count := 16, stride := 0x4 },
  { name := "ICA_SRC", off := 0x800, count := 512, stride := 0x4, rw := 0xFF003F, resv := 0x7F00FFC0 }]

/-- The ICA page (R355). -/
def tabIca : List RegRow := tabIca0 ++ tabIca1

/-- The ICS page (R356). Part 0. -/
def tabIcs0 : List RegRow := [
  { name := "ICS_VBASE_LO", off := 0x040, rw := 0xFFFFE000, resv := 0x1FFF, pair := .low, guard := true },
  { name := "ICS_VBASE_HI", off := 0x044, rw := 0xFF, resv := 0xFFFFFF00, pair := .high, guard := true },
  { name := "ICS_SWI_SET", off := 0x04C, wo := 0x1FF, resv := 0xFFFFFE00, guard := true },
  { name := "ICS_CNT_CLR", off := 0x050, wo := 0x1FF, resv := 0xFFFFFE00, guard := true },
  { name := "ICS_TIME_LO", off := 0x054, pair := .low, guard := true },
  { name := "ICS_TIME_HI", off := 0x058, pair := .high, guard := true },
  { name := "ICS_DECLINES", off := 0x05C, rc := 0xFFFFFFFF, guard := true },
  { name := "ICS_SPURIOUS", off := 0x060, rc := 0xFFFFFFFF, guard := true },
  { name := "ICS_GP_STAT", off := 0x100, count := 2, stride := 0x20, resv := 0x7FE00FFF, guard := true },
  { name := "ICS_THRESH", off := 0x104, count := 2, stride := 0x20, reset := 0xF, rw := 0xF, resv := 0xFFFFFFF0, guard := true },
  { name := "ICS_CMP_LO", off := 0x108, count := 2, stride := 0x20, reset := 0xFFFFFFFF, rw := 0xFFFFFFFF, pair := .low, guard := true },
  { name := "ICS_CMP_HI", off := 0x10C, count := 2, stride := 0x20, reset := 0xFFFFFFFF, rw := 0xFFFFFFFF, pair := .high, guard := true }]

/-- The ICS page (R356). Part 1. -/
def tabIcs1 : List RegRow := [
  { name := "ICS_CNT", off := 0x400, count := 128, stride := 0x4, guard := true },
  { name := "ICS_OVF", off := 0x600, count := 16, stride := 0x4, w1c := 0xFFFFFFFF, guard := true },
  { name := "ICS_PEND", off := 0x640, count := 16, stride := 0x4, guard := true },
  { name := "ICS_SRC", off := 0x800, count := 512, stride := 0x4, rw := 0x3010F, resv := 0xFFFCFEF0, guard := true }]

/-- The ICS page (R356). -/
def tabIcs : List RegRow := tabIcs0 ++ tabIcs1

/-- A GTE page (R370). -/
def tabGte : List RegRow := [
  { name := "GTE_CTRL", off := 0x040, reset := 0x2, rw := 0x3, w1s := 0x4, resv := 0xFFFFFFF8 },
  { name := "GTE_MASTERS", off := 0x044, resv := 0xFFFF0000 },
  { name := "GTE_DRAIN", off := 0x048, resv := 0xFFFF0000 },
  { name := "GTE_STAT", off := 0x04C, resv := 0xFFF00000 },
  { name := "GTE_FAULT_INFO", off := 0x050, reset := 0x1F00, resv := 0x7F00E000 },
  { name := "GTE_FAULT_ADDR_LO", off := 0x054, pair := .low },
  { name := "GTE_FAULT_ADDR_HI", off := 0x058, resv := 0xFFFFFF00, pair := .high },
  { name := "GTE_FAULT_CNT", off := 0x05C, rc := 0xFFFFFFFF },
  { name := "GTE_FAULT_CLR", off := 0x060, wo := 0x1, resv := 0xFFFFFFFE },
  { name := "GTE_RGN_BASE", off := 0x100, count := 16, stride := 0x10, rw := 0xFFFFFFF, resv := 0xF0000000 },
  { name := "GTE_RGN_LIMIT", off := 0x104, count := 16, stride := 0x10, rw := 0xFFFFFFF, resv := 0xF0000000 },
  { name := "GTE_RGN_CTRL", off := 0x108, count := 16, stride := 0x10, rw := 0x7D, resv := 0xFFFFFF82 }]

/-- A DMA page (R387). Part 0. -/
def tabDma0 : List RegRow := [
  { name := "DMA_CQ_BASE_LO", off := 0x040, rw := 0xFFFFFFC0, resv := 0x3F, pair := .low },
  { name := "DMA_CQ_BASE_HI", off := 0x044, rw := 0xFF, resv := 0xFFFFFF00, pair := .high },
  { name := "DMA_CQ_CFG", off := 0x048, rw := 0xF, resv := 0xFFFFFFF0 },
  { name := "DMA_CQ_HEAD", off := 0x04C },
  { name := "DMA_CQ_TAIL", off := 0x050, rw := 0xFFFFFFFF },
  { name := "DMA_STAT", off := 0x054, resv := 0xFFFE0000 },
  { name := "DMA_CHc_CTRL", off := 0x100, count := 8, stride := 0x40, rw := 0x9, w1s := 0x4, resv := 0xFFFFFFF2 },
  { name := "DMA_CHc_RING_LO", off := 0x104, count := 8, stride := 0x40, rw := 0xFFFFFFE0, resv := 0x1F, pair := .low },
  { name := "DMA_CHc_RING_HI", off := 0x108, count := 8, stride := 0x40, rw := 0xFF, resv := 0xFFFFFF00, pair := .high },
  { name := "DMA_CHc_RING_CFG", off := 0x10C, count := 8, stride := 0x40, rw := 0xF, resv := 0xFFFFFFF0 },
  { name := "DMA_CHc_HEAD", off := 0x110, count := 8, stride := 0x40 },
  { name := "DMA_CHc_TAIL", off := 0x114, count := 8, stride := 0x40, rw := 0xFFFFFFFF }]

/-- A DMA page (R387). Part 1. -/
def tabDma1 : List RegRow := [
  { name := "DMA_CHc_STAT", off := 0x118, count := 8, stride := 0x40, resv := 0xFFFFF08C },
  { name := "DMA_CHc_DONE", off := 0x11C, count := 8, stride := 0x40, rc := 0xFFFFFFFF }]

/-- A DMA page (R387). -/
def tabDma : List RegRow := tabDma0 ++ tabDma1

/-- A CRC page (R389). Part 0. -/
def tabCrc0 : List RegRow := [
  { name := "CRC_CFG", off := 0x040, reset := 0x11A, rw := 0xF1B, resv := 0xFFFFF0E4 },
  { name := "CRC_POLY", off := 0x044, reset := 0x1EDC6F41, rw := 0xFFFFFFFF },
  { name := "CRC_INIT", off := 0x048, reset := 0xFFFFFFFF, rw := 0xFFFFFFFF },
  { name := "CRC_XOROUT", off := 0x04C, reset := 0xFFFFFFFF, rw := 0xFFFFFFFF },
  { name := "CRC_CTRL", off := 0x050, rw := 0x4, w1s := 0x3, resv := 0xFFFFFFF8 },
  { name := "CRC_BIND", off := 0x054, rw := 0x80000107, resv := 0x7FFFFEF8 },
  { name := "CRC_VALUE", off := 0x058, reset := 0xFFFFFFFF, rw := 0xFFFFFFFF },
  { name := "CRC_DATA", off := 0x05C, wo := 0xFFFFFFFF },
  { name := "CRC_DATA8", off := 0x060, wo := 0xFF, resv := 0xFFFFFF00 },
  { name := "CRC_EXPECT", off := 0x064, rw := 0xFFFFFFFF },
  { name := "CRC_RESULT", off := 0x068 },
  { name := "CRC_BYTES_LO", off := 0x06C, rw := 0xFFFFFFFF, pair := .low }]

/-- A CRC page (R389). Part 1. -/
def tabCrc1 : List RegRow := [
  { name := "CRC_BYTES_HI", off := 0x070, rw := 0xFFFFFFFF, pair := .high },
  { name := "CRC_STAT", off := 0x074, resv := 0xFFFFFFE0 }]

/-- A CRC page (R389). -/
def tabCrc : List RegRow := tabCrc0 ++ tabCrc1

/-- The TCH page (R408). Part 0. -/
def tabTch0 : List RegRow := [
  { name := "TCH_CTRL", off := 0x040, rw := 0x1, w1s := 0x4, resv := 0xFFFFFFFA },
  { name := "TCH_SCAN_CFG", off := 0x044, reset := 0xFA05100, rw := 0xFFFFF7FF, resv := 0x800 },
  { name := "TCH_STAT", off := 0x048, resv := 0xFF08 },
  { name := "TCH_SCAN_NO", off := 0x04C },
  { name := "TCH_RING_LO", off := 0x050, rw := 0xFFFFFFC0, resv := 0x3F, pair := .low },
  { name := "TCH_RING_HI", off := 0x054, rw := 0xFF, resv := 0xFFFFFF00, pair := .high },
  { name := "TCH_RING_CFG", off := 0x058, rw := 0xF, resv := 0xFFFFFFF0 },
  { name := "TCH_RING_HEAD", off := 0x05C },
  { name := "TCH_RING_TAIL", off := 0x060, rw := 0xFFFFFFFF },
  { name := "TCH_RING_LOST", off := 0x064, rc := 0xFFFFFFFF },
  { name := "TCH_BL_CFG", off := 0x068, reset := 0x801, rw := 0xFF0F, resv := 0xFFFF00F0 },
  { name := "TCH_SURF_CFG0", off := 0x070, reset := 0x20012C, rw := 0xFFFF3FFF, resv := 0xC000 }]

/-- The TCH page (R408). Part 1. -/
def tabTch1 : List RegRow := [
  { name := "TCH_SURF_CFG1", off := 0x074, reset := 0x3C0800C8, rw := 0xFFFF3FFF, resv := 0xC000 },
  { name := "TCH_SURF_SIZE", off := 0x078, resv := 0xFFFF0000 },
  { name := "TCH_PIN_MODE", off := 0x080, count := 12, stride := 0x4, rw := 0xFFFFFFFF },
  { name := "TCH_DIAG_CFG", off := 0x0C0, reset := 0x190, rw := 0x3FFF, resv := 0xFFFFC000 },
  { name := "TCH_DIAG_FAULT", off := 0x0C4, count := 3, stride := 0x4 },
  { name := "TCH_REBASE", off := 0x0D0, rc := 0xFFFFFFFF },
  { name := "TCH_STUCK", off := 0x0D4, rc := 0xFFFFFFFF },
  { name := "TCH_EXCESS", off := 0x0D8, rc := 0xFFFFFFFF },
  { name := "TCH_WAKE_CFG", off := 0x0E0, reset := 0xA00, rw := 0xFF0F, resv := 0xFFFF00F0 },
  { name := "TCH_WAKE_KEYS", off := 0x0E4, rw := 0x3F3F3F3F, resv := 0xC0C0C0C0 },
  { name := "TCH_WAKE_TIME", off := 0x0E8, reset := 0x7D003E8, rw := 0xFFFFFFFF },
  { name := "TCH_WAKE_SWIPE", off := 0x0EC, reset := 0x4000000, rw := 0xFFFF0003, resv := 0xFFFC }]

/-- The TCH page (R408). Part 2. -/
def tabTch2 : List RegRow := [
  { name := "TCH_WAKE_STAT", off := 0x0F0, resv := 0x7FFFFFFC },
  { name := "KEY_CFG0", off := 0x400, count := 64, stride := 0x10, reset := 0x11, rw := 0xE07F7FFF, resv := 0x1F808000 },
  { name := "KEY_CFG1", off := 0x404, count := 64, stride := 0x10, reset := 0x640190, rw := 0x3FFF3FFF, resv := 0xC000C000 },
  { name := "KEY_CFG2", off := 0x408, count := 64, stride := 0x10, reset := 0x3C0000C8, rw := 0xFF003FFF, resv := 0xFFC000 },
  { name := "KEY_STAT", off := 0x40C, count := 64, stride := 0x10 }]

/-- The TCH page (R408). -/
def tabTch : List RegRow := tabTch0 ++ tabTch1 ++ tabTch2

/-- The BST page (R425). -/
def tabBst : List RegRow := [
  { name := "BST_CTRL", off := 0x040, reset := 0x1, rw := 0x1, w1s := 0x6, resv := 0xFFFFFFF8 },
  { name := "BST_ROT_CFG", off := 0x044, reset := 0x3E8, rw := 0xFFFF, resv := 0xFFFF0000 },
  { name := "BST_STAT", off := 0x048, reset := 0xFF0000, resv := 0xFF00F0FC },
  { name := "BST_SEL", off := 0x04C, rw := 0x1F, resv := 0xFFFFFFE0, win := .master },
  { name := "BST_TEST", off := 0x050, wo := 0xFF, resv := 0xFFFFFF00 },
  { name := "BST_PART_STAT", off := 0x060, resv := 0xFFFFFF00, win := .part },
  { name := "BST_PART_COUNT", off := 0x064, win := .part },
  { name := "BST_PART_EXEC", off := 0x068, win := .part },
  { name := "BST_PART_SIG", off := 0x06C, win := .part },
  { name := "BST_PART_EXPECT", off := 0x070, win := .part },
  { name := "BST_PART_US", off := 0x074, win := .part },
  { name := "BST_PART_RUNS", off := 0x078, rc := 0xFFFFFFFF, win := .part }]

/-- The KEY page (R426). -/
def tabKey : List RegRow := [
  { name := "KEY_STAT", off := 0x040, resv := 0xFE00FFE0 },
  { name := "KEY_SLOT_SEL", off := 0x044, rw := 0xFF, resv := 0xFFFFFF00, win := .master },
  { name := "KEY_SLOT_CMD", off := 0x048, wo := 0x303, resv := 0xFFFFFCFC, win := .slot },
  { name := "KEY_SLOT_STAT", off := 0x04C, resv := 0xFFFFFFFC, win := .slot },
  { name := "KEY_VSTORE_CMD", off := 0x050, wo := 0x3, resv := 0xFFFFFFFC },
  { name := "KEY_ZEROISE", off := 0x054, wo := 0x1, resv := 0xFFFFFFFE },
  { name := "KEY_RNG", off := 0x058 },
  { name := "KEY_BOOT_STAT", off := 0x05C, resv := 0xFF0000C0 },
  { name := "KEY_FUSE_SV", off := 0x060, wo := 0xFF, resv := 0xFFFFFF00 },
  { name := "KEY_DATA", off := 0x080, count := 14, stride := 0x4, wo := 0xFFFFFFFF }]

/-- The PMU page (R451). Part 0. -/
def tabPmu0 : List RegRow := [
  { name := "PMU_STAT", off := 0x040, resv := 0xFFFFFFE0 },
  { name := "PMU_BO_COUNT", off := 0x044, rc := 0xFFFFFFFF },
  { name := "PMU_BO_MIN", off := 0x048, reset := 0xFFFFFFFF, rc := 0xFFFFFFFF },
  { name := "PMU_BO_DUR", off := 0x04C, rc := 0xFFFFFFFF },
  { name := "PMU_RST_CAUSE", off := 0x050, resv := 0xFFFFFFF0 },
  { name := "PMU_WATCH", off := 0x054, w1s := 0x1, resv := 0xFFFFFFFE },
  { name := "PMU_WAKE_CFG", off := 0x058, reset := 0x3, rw := 0x7, resv := 0xFFFFFFF8 },
  { name := "PMU_WAKE_STAT", off := 0x05C, resv := 0xFFFFFFFC },
  { name := "PMU_VBT_SEC_LO", off := 0x060, pair := .low },
  { name := "PMU_VBT_SEC_HI", off := 0x064, resv := 0xFFFF0000, pair := .high },
  { name := "PMU_VBT_TICK", off := 0x068, resv := 0xFFFF8000 },
  { name := "PMU_VBT_TRIM", off := 0x06C, resv := 0xFFFF0000 }]

/-- The PMU page (R451). Part 1. -/
def tabPmu1 : List RegRow := [
  { name := "PMU_VBT_EPOCH", off := 0x070, resv := 0xFFFFFF00 }]

/-- The PMU page (R451). -/
def tabPmu : List RegRow := tabPmu0 ++ tabPmu1

/-- The MRM page (R452). -/
def tabMrm : List RegRow := [
  { name := "MRM_STAT", off := 0x040, resv := 0xFFFFFFC0 },
  { name := "MRM_CE_CNT", off := 0x044, rc := 0xFFFFFFFF },
  { name := "MRM_UE_CNT", off := 0x048, rc := 0xFFFFFFFF },
  { name := "MRM_UE_ADDR", off := 0x04C, resv := 0xFFC00007 },
  { name := "MRM_STORES", off := 0x050, rc := 0xFFFFFFFF }]

/-- The PCI page (R463). Part 0. -/
def tabPci0 : List RegRow := [
  { name := "PCI_ID", off := 0x040, rw := 0xFFFFFFFF },
  { name := "PCI_CLASS", off := 0x044, reset := 0x38000, rw := 0xFFFFFF, resv := 0xFF000000 },
  { name := "PCI_BAR2", off := 0x048, reset := 0x1E, rw := 0x3F, resv := 0xFFFFFFC0 },
  { name := "PCI_BAR2_XLAT_LO", off := 0x04C, rw := 0xFFF00000, resv := 0xFFFFF, pair := .low },
  { name := "PCI_BAR2_XLAT_HI", off := 0x050, rw := 0xFF, resv := 0xFFFFFF00, pair := .high },
  { name := "PCI_CTRL", off := 0x054, rw := 0x1, resv := 0xFFFFFFFE },
  { name := "PCI_STAT", off := 0x058, resv := 0xFFFF000E },
  { name := "PCI_QSEL", off := 0x05C, rw := 0xF, resv := 0xFFFFFFF0, win := .master },
  { name := "PCI_QPEND", off := 0x060, resv := 0xFFFF0000 },
  { name := "QP_HSQ_LO", off := 0x080, rw := 0xFFFFFFFF, win := .qp, pair := .low },
  { name := "QP_HSQ_HI", off := 0x084, rw := 0xFFFFFFFF, win := .qp, pair := .high },
  { name := "QP_HCQ_LO", off := 0x088, rw := 0xFFFFFFFF, win := .qp, pair := .low }]

/-- The PCI page (R463). Part 1. -/
def tabPci1 : List RegRow := [
  { name := "QP_HCQ_HI", off := 0x08C, rw := 0xFFFFFFFF, win := .qp, pair := .high },
  { name := "QP_LSQ_LO", off := 0x090, rw := 0xFFFFFFFF, win := .qp, pair := .low },
  { name := "QP_LSQ_HI", off := 0x094, rw := 0xFFFFFFFF, win := .qp, pair := .high },
  { name := "QP_CFG", off := 0x098, reset := 0x404, rw := 0x801F0F0F, resv := 0x7FE0F0F0, win := .qp },
  { name := "QP_MOD", off := 0x09C, reset := 0x1000000, rw := 0xFF00FFFF, resv := 0xFF0000, win := .qp },
  { name := "QP_LSQ_TAIL", off := 0x0A0, win := .qp },
  { name := "QP_LSQ_HEAD", off := 0x0A4, rw := 0xFFFFFFFF, win := .qp },
  { name := "QP_HOST", off := 0x0A8, win := .qp },
  { name := "QP_STAT", off := 0x0AC, reset := 0x1, resv := 0xFF0000FE, win := .qp },
  { name := "PCI_CPL_DATA0", off := 0x0C0, rw := 0xFFFFFFFF, win := .master },
  { name := "PCI_CPL_DATA1", off := 0x0C4, rw := 0xFFFFFFFF, win := .master },
  { name := "PCI_CPL_DATA2", off := 0x0C8, rw := 0x7FFFFFFF, resv := 0x80000000, win := .master }]

/-- The PCI page (R463). Part 2. -/
def tabPci2 : List RegRow := [
  { name := "PCI_CPL_POST", off := 0x0CC, wo := 0xF, resv := 0xFFFFFFF0 },
  { name := "PCI_FETCH_ERR", off := 0x0D0, rc := 0xFFFFFFFF },
  { name := "PCI_HOLD_LOST", off := 0x0D4, rc := 0xFFFFFFFF }]

/-- The PCI page (R463). -/
def tabPci : List RegRow := tabPci0 ++ tabPci1 ++ tabPci2

/-- The MGE page (R470). Part 0. -/
def tabMge0 : List RegRow := [
  { name := "MGE_MODE", off := 0x040, reset := 0xC, rw := 0xF, resv := 0xFFFFFFE0 },
  { name := "MGE_MDIO", off := 0x090, rw := 0x43FFFFFF, w1s := 0x80000000, resv := 0x3C000000 },
  { name := "MGE_RX_DROP", off := 0x094, rc := 0xFFFFFFFF },
  { name := "I2C_CTRL", off := 0x100, count := 4, stride := 0x40, reset := 0x2, rw := 0x7, resv := 0xFFFFFFF8 },
  { name := "I2C_CMD", off := 0x104, count := 4, stride := 0x40, rw := 0x1F1F7F, w1s := 0x80000000, resv := 0x7FE0E080 },
  { name := "I2C_STAT", off := 0x108, count := 4, stride := 0x40, resv := 0xFFFFFFF8 },
  { name := "I2C_TX0", off := 0x10C, count := 4, stride := 0x40, rw := 0xFFFFFFFF },
  { name := "I2C_TX1", off := 0x110, count := 4, stride := 0x40, rw := 0xFFFFFFFF },
  { name := "I2C_TX2", off := 0x114, count := 4, stride := 0x40, rw := 0xFFFFFFFF },
  { name := "I2C_TX3", off := 0x118, count := 4, stride := 0x40, rw := 0xFFFFFFFF },
  { name := "I2C_RX0", off := 0x11C, count := 4, stride := 0x40 },
  { name := "I2C_RX1", off := 0x120, count := 4, stride := 0x40 }]

/-- The MGE page (R470). Part 1. -/
def tabMge1 : List RegRow := [
  { name := "I2C_RX2", off := 0x124, count := 4, stride := 0x40 },
  { name := "I2C_RX3", off := 0x128, count := 4, stride := 0x40 },
  { name := "UART_CFG", off := 0x200, count := 2, stride := 0x40, reset := 0x360000, rw := 0xFFFF0001, resv := 0xFFFE },
  { name := "UART_TX", off := 0x204, count := 2, stride := 0x40, wo := 0xFF, resv := 0xFFFFFF00 },
  { name := "UART_RX", off := 0x208, count := 2, stride := 0x40, resv := 0x7FFFFF00 },
  { name := "UART_STAT", off := 0x20C, count := 2, stride := 0x40, resv := 0xFFFFC0C0 },
  { name := "UART_OVR", off := 0x210, count := 2, stride := 0x40, rc := 0xFFFFFFFF },
  { name := "GPIO_DIR", off := 0x300, rw := 0xFFFFFFFF },
  { name := "GPIO_OUT", off := 0x304, rw := 0xFFFFFFFF },
  { name := "GPIO_SET", off := 0x308, w1s := 0xFFFFFFFF },
  { name := "GPIO_CLR", off := 0x30C, w1c := 0xFFFFFFFF },
  { name := "GPIO_IN", off := 0x310 }]

/-- The MGE page (R470). Part 2. -/
def tabMge2 : List RegRow := [
  { name := "GPIO_RISE", off := 0x314, rw := 0xFFFFFFFF },
  { name := "GPIO_FALL", off := 0x318, rw := 0xFFFFFFFF },
  { name := "GPIO_EVT", off := 0x31C, w1c := 0xFFFFFFFF },
  { name := "DBG_PERMIT", off := 0x380, rw := 0x3, resv := 0xFFFFFFFC },
  { name := "DBG_STAT", off := 0x384, resv := 0xFFFFFFF0 }]

/-- The MGE page (R470). -/
def tabMge : List RegRow := tabMge0 ++ tabMge1 ++ tabMge2

/-- The TTU page (R92, R96). Part 0. -/
def tabTtu0 : List RegRow := [
  { name := "TTU_CTRL", off := 0x100, count := 8, stride := 0x40, reset := 0x8, rw := 0xF, resv := 0xFFFFFFF0 },
  { name := "TTU_STAT", off := 0x104, count := 8, stride := 0x40, resv := 0xFFFE },
  { name := "TTU_START_SEC_LO", off := 0x108, count := 8, stride := 0x40, rw := 0xFFFFFFFF, pair := .low },
  { name := "TTU_START_SEC_HI", off := 0x10C, count := 8, stride := 0x40, rw := 0xFFFFFFFF, pair := .high },
  { name := "TTU_START_NS", off := 0x110, count := 8, stride := 0x40, rw := 0x3FFFFFFF, resv := 0xC0000000 },
  { name := "TTU_START_FRAC", off := 0x114, count := 8, stride := 0x40, rw := 0xFFFF0000, resv := 0xFFFF },
  { name := "TTU_PER_NS", off := 0x118, count := 8, stride := 0x40, rw := 0xFFFFFFFF },
  { name := "TTU_PER_FRAC", off := 0x11C, count := 8, stride := 0x40, rw := 0xFFFFFFFF },
  { name := "TTU_CYC_N", off := 0x120, count := 8, stride := 0x40, rw := 0xFFFF, resv := 0xFFFF0000 },
  { name := "TTU_CYC_NS", off := 0x124, count := 8, stride := 0x40, rw := 0xFFFFFFFF },
  { name := "TTU_CYC_FRAC", off := 0x128, count := 8, stride := 0x40, rw := 0xFFFF0000, resv := 0xFFFF },
  { name := "TTU_WIDTH", off := 0x12C, count := 8, stride := 0x40, rw := 0xFFFFFFFF }]

/-- The TTU page (R92, R96). Part 1. -/
def tabTtu1 : List RegRow := [
  { name := "TTU_COUNT", off := 0x130, count := 8, stride := 0x40, rw := 0xFFFFFFFF },
  { name := "TTU_DONE", off := 0x134, count := 8, stride := 0x40 },
  { name := "CAP_CTRL", off := 0x300, count := 4, stride := 0x20, rw := 0xFF03, resv := 0xFFFF00FC },
  { name := "CAP_STAT", off := 0x304, count := 4, stride := 0x20, resv := 0xFFFFFFF8 },
  { name := "CAP_POP", off := 0x308, count := 4, stride := 0x20, resv := 0x3FFFFF00 },
  { name := "CAP_SEC_LO", off := 0x30C, count := 4, stride := 0x20 },
  { name := "CAP_SEC_HI", off := 0x310, count := 4, stride := 0x20 },
  { name := "CAP_NS", off := 0x314, count := 4, stride := 0x20, resv := 0xC0000000 },
  { name := "CAP_FRAC", off := 0x318, count := 4, stride := 0x20, resv := 0xFFFF },
  { name := "CAP_LOST", off := 0x31C, count := 4, stride := 0x20, rc := 0xFFFF, resv := 0xFFFF0000 }]

/-- The TTU page (R92, R96). -/
def tabTtu : List RegRow := tabTtu0 ++ tabTtu1

end Sys2Proof.Machine
end

