-- ==== Sys2Proof/Machine/Pages.lean ====
section
/-! DEFINITION. Masters, register pages and what a register of a page reads after reset (R9, R14, R17). -/

namespace Sys2Proof.Machine

/-! ## Masters (R9) -/

/-- The 8-bit master identifier (R9). -/
def masterId : Master → Nat
  | .apc k => k.val
  | .gp g => 0x08 + g.val
  | .cdc n => 0x10 + n.val
  | .cmp n => 0x20 + n.val
  | .grd n => 0x30 + n.val
  | .ing => 0x40
  | .dpi n => 0x41 + n.val
  | .enc => 0x49
  | .ng p => 0x4A + p.val
  | .dma e => 0x4D + e.val
  | .pci => 0x4F
  | .mge => 0x50
  | .eth p => 0x51 + p.val
  | .kib => 0x53
  | .mig => 0x54
  | .tch => 0x55
  | .bst => 0x56
  | .debug => 0x57

/-- GP0 and GP1, the masters of the guard-owned registers (R2, R7). -/
def isGuard : Master → Bool
  | .gp _ => true
  | _ => false

def isApc : Master → Bool
  | .apc _ => true
  | _ => false

/-! ## Kinds of page (R14) -/

inductive Kind where
  | sys | pmu | key | bst | mrm | tch | ica | ics | gte | dma | crc | dmc | cdc | ing | src | dpi
  | cmp | grd | out | enc | ng | kib | eth | ptp | ttu | pci | mge
  deriving DecidableEq, Repr

/-- The page allocation of R14: first page, pages, TYPE code, OWNER. -/
def pageTable : List (Kind × Nat × Nat × Nat × Nat) := [
  (.sys, 0, 1, 0x0001, 0), (.pmu, 1, 1, 0x0002, 0), (.key, 2, 1, 0x0003, 0), (.bst, 3, 1, 0x0004, 0),
  (.mrm, 4, 1, 0x0005, 0), (.tch, 5, 1, 0x0006, 0), (.ica, 6, 1, 0x0010, 0), (.ics, 7, 1, 0x0011, 1),
  (.gte, 8, 32, 0x0020, 0), (.dma, 40, 2, 0x0030, 0), (.crc, 42, 8, 0x0031, 0), (.dmc, 50, 6, 0x0040, 0),
  (.cdc, 56, 16, 0x0050, 0), (.ing, 72, 1, 0x0060, 0), (.src, 73, 1, 0x0061, 2), (.dpi, 74, 8, 0x0062, 0),
  (.cmp, 82, 16, 0x0070, 2), (.grd, 98, 16, 0x0071, 1), (.out, 114, 16, 0x0072, 2),
  (.enc, 130, 1, 0x0073, 0), (.ng, 131, 3, 0x0080, 0), (.kib, 134, 1, 0x0081, 2), (.eth, 135, 2, 0x0090, 0),
  (.ptp, 137, 1, 0x0091, 0), (.ttu, 138, 1, 0x0092, 0), (.pci, 139, 1, 0x00A0, 0), (.mge, 140, 1, 0x00A1, 0)]

/-- The row of R14 that holds page `p`. -/
def pageRow (p : Nat) : Kind × Nat × Nat × Nat × Nat :=
  (pageTable.find? fun r => r.2.1 ≤ p && p < r.2.1 + r.2.2.1).getD (.sys, 0, 1, 0x0001, 0)

def pageKind (p : Nat) : Kind := (pageRow p).1

/-- BLK_ID.INSTANCE (R14). -/
def pageInst (p : Nat) : Nat := p - (pageRow p).2.1

/-- First page of each kind (R14). -/
def firstPage (k : Kind) : Nat :=
  ((pageTable.find? fun r => r.1 = k).getD (.sys, 0, 1, 0x0001, 0)).2.1

/-- The pages whose every writable register is guard-owned: OWNER 0x1 (R14, R17). -/
def guardPage (p : Nat) : Bool := (pageRow p).2.2.2.2 = 1

/-- The pages whose ENABLE resets to 1 and is RO, and that discard SOFT_RESET (R17). -/
def enableFixed (p : Nat) : Bool :=
  match pageKind p with
  | .sys | .pmu | .key | .bst | .mrm | .tch | .ica | .ics | .ptp | .ttu | .dmc => true
  | _ => false

/-- The pages frozen in WITHDRAWN (R31). -/
def pixelPage (p : Nat) : Bool :=
  match pageKind p with
  | .cmp | .grd | .out | .enc | .cdc => true
  | _ => false

/-- BLK_CAPS.CAPS of a page; 0 where the chapter defines none (R17). -/
def pageCaps (p : Nat) : Nat :=
  match pageKind p with
  | .cmp => 8
  | .grd | .out | .dmc => 4
  | .kib => 0x80
  | .ica | .ics => 0x200
  | .gte => 0x10
  | .tch => 0x60
  | _ => 0

/-- The block-specific registers of a kind of page. -/
def rowsOf : Kind → List RegRow
  | .sys => tabSys | .pmu => tabPmu | .key => tabKey | .bst => tabBst | .mrm => tabMrm | .tch => tabTch
  | .ica => tabIca | .ics => tabIcs | .gte => tabGte | .dma => tabDma | .crc => tabCrc | .dmc => tabDmc
  | .cdc => tabCdc | .ing => tabIng | .src => tabSrc | .dpi => tabDpi | .cmp => tabCmp | .grd => tabGrd
  | .out => tabOut | .enc => tabEnc | .ng => tabNg | .kib => tabKib | .eth => tabEth | .ptp => tabPtp
  | .ttu => tabTtu | .pci => tabPci
  | .mge => tabMge ++ tabEth

/-- Whether an offset is one of the registers of a row. -/
def RegRow.covers (r : RegRow) (off : Nat) : Bool :=
  r.off ≤ off && (off - r.off) % r.stride = 0 && (off - r.off) / r.stride < r.count

/-- Which of a row's registers an offset is. -/
def RegRow.index (r : RegRow) (off : Nat) : Nat := (off - r.off) / r.stride

/-- The register at an offset of a page; none where the chapter defines none (R15). -/
def findRow (page off : Nat) : Option RegRow :=
  if off < 0x40 then tabHdr.find? fun r => r.covers off
  else (rowsOf (pageKind page)).find? fun r => r.covers off

/-! ## Events and reserved bits of the common header -/

/-- How many IRQ_RAW bits a page uses, from bit 0; the bits above are reserved. A chapter that lists none leaves all 32
(R81, R99, R103, R151, R189, R217, R245, R264, R302, R304, R335, R357, R371, R388, R390, R409, R425, R426, R450 to R452,
R464, R471). -/
def eventBits (p : Nat) : Nat :=
  match pageKind p with
  | .sys | .mrm | .ica | .ics | .gte | .src => 2
  | .pmu | .key | .bst | .crc | .cdc | .cmp => 3
  | .kib => 4
  | .ptp | .ng => 6
  | .tch => 7
  | .grd => 9
  | .enc | .dmc => 12
  | .mge => 14
  | .out => 15
  | .dma => 18
  | .pci => 22
  | .ttu => 24
  | .ing | .dpi | .eth => 32

/-- The events of a page, as a mask of IRQ_RAW and IRQ_EN. -/
def eventMask (p : Nat) : Word := BitVec.ofNat 32 (2 ^ eventBits p - 1)

/-- The reserved bits of a writable register of the header. -/
def hdrReserved (p off : Nat) : Word :=
  match off with
  | 0x008 => 0xFFFFFFF8
  | 0x010 | 0x014 => ~~~ eventMask p
  | 0x01C => 0x00007F00
  | _ => 0

/-- The code with which a page discards a write of 1 to a reserved bit, where its chapter gives one (R244, R334, R357,
R370, R388, R390, R408, R425, R451, R471). -/
def reservedCode (p : Nat) : Option Nat :=
  match pageKind p with
  | .dmc | .bst => some 0x40
  | .ica | .ics | .dma | .out | .tch | .pmu | .mge => some 0x41
  | .gte | .crc => some 0x42
  | _ => none

/-! ## Reset values that the tables give by rule -/

/-- The masters behind gate `g`, lowest and highest identifier (R358). -/
def gateMasters (g : Nat) : Nat × Nat :=
  if g < 10 then (g, g)
  else match g with
    | 10 => (0x10, 0x17) | 11 => (0x18, 0x1F) | 12 => (0x20, 0x27) | 13 => (0x28, 0x2F)
    | 14 => (0x30, 0x37) | 15 => (0x38, 0x3F) | 16 => (0x40, 0x40) | 17 => (0x41, 0x48)
    | 28 => (0x53, 0x53) | 29 => (0x55, 0x55) | 30 => (0x56, 0x56) | 31 => (0x57, 0x57)
    | n => (0x49 + (n - 18), 0x49 + (n - 18))

/-- DMC_PORT_QOS at reset: FIXED, BASE and TARGET_NS of R323. -/
def portReset (p : Nat) : Nat :=
  match p with
  | 0 | 1 => 2 * 0x10000 + 400
  | 3 | 4 => 2000
  | 5 | 6 => 3 * 0x10000 + 1500
  | 8 => 0x10000 + 1000
  | 9 => 0x10000 + 1500
  | 10 | 12 => 5000
  | 11 => 3000
  | 2 | 7 | 13 => 0x80000
  | _ => 0

/-- GRD_WORD*s* at reset, low and high word (R215). -/
def wordReset (s : Nat) : Nat × Nat :=
  match s with
  | 0 => (0x4C415453, 0x00000045)
  | 1 => (0x5A4F5246, 0x00004E45)
  | 2 => (0x414D4144, 0x00444547)
  | _ => (0x54204F4E, 0x00454D49)

/-- The programmed patterns of a self-test partition (R410). (DESIGN CHOICE: log entry 110) -/
def partPatterns (p : Nat) : Nat :=
  match p with
  | 0 => 8192
  | 1 | 4 | 24 => 16384
  | 2 => 10 * Config.sramCells
  | 3 => 524288
  | _ => 32768

/-- Sources that R344 fixes to ICS. -/
def fixedIcs (n : Nat) : Bool := n = 7 || (98 ≤ n && n ≤ 113) || n = 200 || n = 201

/-- Sources whose ASSIGN R344 fixes. -/
def fixedAssign (n : Nat) : Bool := n = 6 || fixedIcs n || (192 ≤ n && n ≤ 209)

/-- TARGETS of the sources whose targets R344 fixes. -/
def fixedTargets (n : Nat) : Option Nat :=
  if 192 ≤ n ∧ n ≤ 199 then some (2 ^ (n - 192))
  else if 200 ≤ n ∧ n ≤ 201 then some (2 ^ (n - 200))
  else if 202 ≤ n ∧ n ≤ 209 then some (2 ^ (n - 202))
  else none

/-- Reset values that depend on the instance or are given by a rule instead of a number. (DEDUCED: log entry 4) -/
def resetSpecial (page off idx : Nat) (r : RegRow) : Word :=
  let inst := pageInst page
  match r.name with
  | "BLK_ID" => BitVec.ofNat 32 ((pageRow page).2.2.2.1 * 0x10000 + inst * 0x100)
  | "BLK_CAPS" => BitVec.ofNat 32 (pageCaps page)
  | "BLK_CTRL" => if enableFixed page then 1 else 0
  | "OWNER" => BitVec.ofNat 32 (pageRow page).2.2.2.2
  | "GTE_MASTERS" => BitVec.ofNat 32 ((gateMasters inst).1 * 0x100 + (gateMasters inst).2)
  | "DMC_PORT_QOS" => BitVec.ofNat 32 (portReset (r.index off))
  | "GRD_WORD_LO" => BitVec.ofNat 32 (wordReset (r.index off)).1
  | "GRD_WORD_HI" => BitVec.ofNat 32 (wordReset (r.index off)).2
  | "BST_PART_COUNT" => BitVec.ofNat 32 (partPatterns idx)
  | "BST_PART_EXPECT" => Config.bstExpect idx
  | "ICA_SRC" =>
    if fixedIcs (r.index off) then 0 else BitVec.ofNat 32 ((fixedTargets (r.index off)).getD 0 * 0x10000)
  | "ICS_SRC" =>
    if fixedIcs (r.index off) then BitVec.ofNat 32 ((fixedTargets (r.index off)).getD 0 * 0x10000 + 0x100)
    else 0
  | _ => r.reset

/-- The key of a register: its page, its offset and, for a windowed register, the instance selected. -/
def rkey (page off idx : Nat) : Nat := idx * 0x100000 + page * 0x1000 + off

/-- What the register of a key holds while nothing has written it since reset. (DEDUCED: log entry 4) -/
def resetOf (k : Nat) : Word :=
  let page := k / 0x1000 % 0x100
  let off := k % 0x1000
  match findRow page off with
  | some r => resetSpecial page off (k / 0x100000) r
  | none => 0

end Sys2Proof.Machine
end

