-- ==== Sys2Proof/Machine/State.lean ====
section
/-! DEFINITION. The state of the ZW96 as plain data: the register file, the parts of the blocks that no
register shows, the memories, the waiting commands and what the block has sent. -/

namespace Sys2Proof.Machine

/-! ## Stops -/

/-- The ZW96 has no state in which it stops answering: every access ends in a response, good or in error
(R11, R12, R15, R20). No command ends in a fault, so the type has no constructor. -/
inductive Fault where
  deriving DecidableEq, Repr

inductive Refusal where
  /-- raised by exec for a command without a meaning: safe, since no claim about the command can be proved -/
  | notModelled (mnemonic : String)
  /-- raised by a meaning for a command whose operands name no operation of the manual (an access of no or of a
  non-existent size, a line that is not 64 bytes): safe, since the manual has no such command -/
  | illFormed (what : String)
  deriving DecidableEq, Repr

/-! ## Common parts -/

/-- The response to the last access or register command: whether it completed without error, and the data
read, little-endian (R11, R12). (DESIGN CHOICE: log entry 13) -/
structure Resp where
  ok : Bool := true
  data : Nat := 0
  deriving DecidableEq, Repr, Inhabited

/-- A register write on its way to the PIX domain (R22, R23). -/
structure Xw where
  page : Nat
  /-- identifier of the master that wrote -/
  m : Nat
  /-- the registers it loads: one, or both halves of a pair -/
  words : List (Nat × Word)
  clk : Nat
  deriving DecidableEq, Repr, Inhabited

/-- What a channel sends a rank of its devices besides transfers (R312, R322, R327, R328). -/
inductive DdrOp where
  | refresh | zqCal | dqsOsc | reissue | selfRefreshEntry | selfRefreshExit
  deriving DecidableEq, Repr

/-- A pixel: red, green and blue, with alpha where it has one (R154). -/
structure Rgba where
  r : Nat := 0
  g : Nat := 0
  b : Nat := 0
  a : Nat := 0
  deriving DecidableEq, Repr, Inhabited

/-- A surface as a layer or a sender reads it: format, plane addresses, stride, size in samples (R156, R159). -/
structure Surf where
  fmt : Nat := 0
  plane0 : Nat := 0
  plane1 : Nat := 0
  header : Nat := 0
  stride : Nat := 0
  w : Nat := 0
  h : Nat := 0
  deriving DecidableEq, Repr, Inhabited

/-- What the ZW96 sends outward. (DESIGN CHOICE: log entries 13, 89) -/
inductive Emit where
  /-- a command of a channel to a physical rank -/
  | ddr (n : Nat) (rank : Nat) (op : DdrOp)
  /-- the confirmation of an interrupt to a processor, which enters a machine-mode trap: pc, mcause and mtval (R353) -/
  | trap (p : Proc) (pc mcause mtval : Nat)
  /-- a precise access-fault exception of a processor: mcause and mtval (R340, R341) -/
  | exception (p : Proc) (mcause mtval : Nat)
  /-- a frame leaves an Ethernet port, without FCS -/
  | frame (port : EthPort) (bytes : List Byte)
  /-- a low pulse on a sink port's HPD (R119) -/
  | hpdPulse (p : Nat)
  /-- the answer to a request on a sink port's AUX channel: acknowledged, data (R119) -/
  | auxAnswer (p : Nat) (ack : Bool) (data : List Byte)
  /-- a frame scanned out while the link of OUT*n* was trained: frame number, lines of pixels (R241) -/
  | video (n : Nat) (frame : Nat) (lines : List (List Rgba))
  /-- a request of a source port on its AUX channel: request code, address, length, data written (R243) -/
  | auxRequest (n : Nat) (req addr len : Nat) (data : List Byte)
  /-- a trigger output begins or ends a pulse (R94) -/
  | trig (u : Nat) (active : Bool)
  /-- a flit leaves a Ngurelo port: its 256 bytes (R267) -/
  | flit (p : Nat) (bytes : List Byte)
  /-- a frame leaves on the tendril: preamble, delimiter and message (R292) -/
  | tether (bytes : List Byte)
  /-- a read of the boot flash: 8D-8D-8D or 1S-1S-1S, command, dummy cycles, address, length (R442) -/
  | flashRead (octal : Bool) (cmd dummy addr len : Nat)
  /-- a processor leaves reset at an address (R444, R445, R449) -/
  | run (p : Proc) (pc : Nat)
  /-- WAKE is pulled low until released, or released (R461, R476); a low pulse of 10 ms (R441) -/
  | wake (low : Bool)
  | wakePulse
  /-- a response that had to wait for those of earlier accesses of its master (R28) -/
  | response (m : Master) (ok : Bool) (data : Nat)
  /-- PCIe: a read and a write of host memory; the MSI-X message of a vector, with the address and data of its table
  entry; PM_PME (R456 to R461) -/
  | hostRead (addr len : Nat)
  | hostWrite (addr : Nat) (bytes : List Byte)
  | msix (v addr data : Nat)
  | pmPme
  /-- an MDIO transaction: read or not, PHY, register, data written (R470) -/
  | mdio (read : Bool) (phy reg data : Nat)
  /-- an I²C transaction: bus, target, bytes written, bytes to read (R466) -/
  | i2c (i addr : Nat) (tx : List Byte) (rlen : Nat)
  /-- 9 clocks and a STOP on a bus that was held low (R466) -/
  | i2cClear (bus : Nat)
  /-- bytes leave a UART (R467) -/
  | uart (u : Nat) (bytes : List Byte)
  /-- the debugger reads its challenge: device identifier and nonce (R469) -/
  | challenge (id : List Byte) (nonce : Word)
  deriving DecidableEq, Repr

/-! ## Power, reset and the VBAT domain (chapter 17) -/

/-- Supplies, resets and the device state beside SYS_DEV_STATE (R429, R435).
(PRESUMED, DESIGN CHOICE: log entries 10, 91) -/
structure Pwr where
  /-- a device reset is asserted -/
  inReset : Bool := false
  /-- the state in which it was asserted -/
  prevDev : Nat := 0
  /-- rails in warning, start of the warning, its TIM clocks before the last reset, end of the last one (R429) -/
  warnCore : Bool := false
  warnIo : Bool := false
  warnStart : Nat := 0
  warnBefore : Nat := 0
  recovery : Option Nat := none
  bootXspi : Bool := false
  /-- TCH has acknowledged the request to enter WATCH (R404, R440) -/
  watchAck : Bool := false
  /-- TIM clock of the wake from WATCH that this boot follows: WAKE is driven low for 10 ms (R441) -/
  wokeAt : Option Nat := none
  /-- device resets and wakes so far: which boot tag is drawn (R277) -/
  resets : Nat := 0
  /-- WAKE is driven low (R461) -/
  wakeLow : Bool := false
  /-- TIM clock of the last entry to WATCH (R476), and the clocks spent there since the last device reset, in which
  the timer counter stands (R30, R343) -/
  watchAt : Nat := 0
  asleep : Nat := 0
  deriving DecidableEq, Repr, Inhabited

/-- What the VBAT domain keeps (R100, R431, R435, R448). -/
structure VbtSt where
  valid : Bool := false
  low : Bool := false
  sec : Nat := 0
  tick : Nat := 0
  trim : Int := 0
  epoch : Nat := 0
  /-- part of the next tick of the crystal, in 10⁻⁹ ticks, and the part of a tick owed by the trim -/
  phase : Nat := 0
  trimAcc : Int := 0
  boCount : Nat := 0
  boMinCore : Nat := 0xFFFF
  boMinIo : Nat := 0xFFFF
  boDur : Nat := 0
  cause : Nat := 1
  /-- the secret store: the installation key, when loaded (R416, R419) -/
  secret : Option (List Byte) := none
  deriving DecidableEq, Repr, Inhabited

/-! ## Network time (chapter 3) -/

/-- An entry of the transmit timestamp queue (R86). -/
structure TsqEntry where
  port : Nat
  msgType : Nat
  frameId : Nat
  stamp : Stamp
  deriving DecidableEq, Repr, Inhabited

structure TimeSt where
  /-- the counter, in units of 2⁻⁴⁰ ns (R68) -/
  now : Nat := 0
  /-- what the counter has advanced since device reset, SETs and STEPs apart: the phase of every raster (R232) -/
  run : Nat := 0
  /-- remaining slew, in units of 2⁻⁴⁰ ns (R74) -/
  slew : Int := 0
  /-- a slew has run out and SLEW_DONE has not been raised for it -/
  slewEnded : Bool := false
  epoch : Nat := 1
  vbtLoaded : Bool := false
  /-- latest Sync of each domain and grandmaster: TIM clock, domainNumber, clockIdentity (R78) -/
  syncs : List (Nat × Nat × Nat) := []
  /-- TRACEABLE as last evaluated -/
  traceable : Bool := false
  /-- a seconds carry of the counter has not been copied to the VBAT domain yet (R100) -/
  carry : Bool := false
  /-- the TIM clock of the last rise of the epoch (R77) -/
  roseAt : Option Nat := none
  tsq : List TsqEntry := []
  deriving DecidableEq, Repr, Inhabited

/-- A time-trigger unit beyond its registers: the index of the next instant, and what is left of the pulse in
units of 2⁻⁴⁰ ns (R94). -/
structure TtuSt where
  k : Nat := 0
  left : Int := 0
  deriving DecidableEq, Repr, Inhabited

/-- A capture input: queue of direction and timestamp, TIM time of the last recorded edge (R96 to R98). -/
structure CapSt where
  queue : List (Bool × Stamp) := []
  last : Option Nat := none
  deriving DecidableEq, Repr, Inhabited

/-! ## Gates (chapter 13) -/

/-- A read of GTE_DRAIN that waits for admitted accesses (R367). -/
structure Drain where
  gate : Nat
  m : Master
  /-- the read itself, as an access that its master's gate has admitted -/
  id : Nat
  ids : List Nat
  waited : Nat
  /-- the read also takes the word above, GTE_STAT -/
  wide : Bool
  deriving DecidableEq, Repr, Inhabited

/-- An admitted access that has not completed at its target (R367): its gate, 32 for none, what it is, the parts that
have not completed, and whether all others have without error. -/
structure InFlight where
  id : Nat
  gate : Nat
  m : Master
  addr : Nat
  read : Bool
  left : Nat
  ok : Bool
  deriving DecidableEq, Repr, Inhabited

/-- Kinds of access, coded as GTE_FAULT_INFO.KIND (R360, R370). -/
inductive AccKind where
  | read | write | fetch | atomic
  deriving DecidableEq, Repr, Inhabited

/-- The outcome of a gate's check: the parts to carry out, and whether any part faulted. -/
structure Judged where
  admitted : List (Nat × Nat)
  faulted : Bool
  deriving DecidableEq, Repr, Inhabited

/-- An access that its gate has judged and that waits for an earlier one of its master (R29, R365): its command, the
judgement, and the identifier by which it is in flight. -/
structure Parked where
  cmd : Instr
  judged : Judged
  id : Nat
  deriving DecidableEq, Repr, Inhabited

/-- A response that a master whose responses return in issue order takes after those of its earlier accesses (R28, R341): what
it answers, and its place among the master's accesses. -/
structure Late where
  m : Master
  kind : AccKind
  addr : Nat
  pos : Nat
  resp : Resp
  deriving DecidableEq, Repr, Inhabited

/-- A load reservation of the A extension (R338). -/
structure Reservation where
  m : Nat
  addr : Nat
  len : Nat
  deriving DecidableEq, Repr, Inhabited

/-! ## MRAM (chapter 17) -/

/-- A store that waits or is in progress (R432, R433). -/
structure MramStore where
  /-- byte offset in MRAM; the bytes lie in one 8-byte word -/
  ofs : Nat
  data : List Byte
  m : Master
  /-- access identifier, for R367 -/
  acc : Nat
  /-- TIM clock at which its array cycle began -/
  begun : Option Nat := none
  /-- a read of its master found the stored word in double-bit error (R29, R432) -/
  spoilt : Bool := false
  deriving DecidableEq, Repr, Inhabited

structure MrmSt where
  /-- the store in progress and the eight-entry queue; stores of writes that the fabric withholds (R432) -/
  queue : List MramStore := []
  withheld : List MramStore := []
  /-- words cut by a reset or loss of power, whose contents are undefined (R434) -/
  cut : List Nat := []
  /-- words whose stored codeword has two bit errors -/
  bad : List Nat := []
  deriving DecidableEq, Repr, Inhabited

/-! ## DDR5 channels (chapter 11) -/

/-- Why a line is read: a demand read, the merge read of a partial write, or the scrubber. -/
inductive LineUse where
  | demand
  | merge (addr : Nat) (data : List Byte)
  | scrub
  deriving DecidableEq, Repr, Inhabited

/-- A line whose read was UNCORRECTABLE and that is being read again (R316). -/
structure Retry where
  m : Master
  line : Nat
  use : LineUse
  /-- reads left -/
  left : Nat
  /-- access identifier, for R367; none for the scrubber -/
  acc : Option Nat
  deriving DecidableEq, Repr, Inhabited

structure DmcSt where
  retries : List Retry := []
  /-- poisoned lines queued: address and cause (R319) -/
  poisonQ : List (Nat × Nat) := []
  /-- CE window: start in TIM clocks, CORRECTED outcomes per physical rank, ranks that gave CE_THRESH (R321) -/
  winStart : Nat := 0
  winCnt : SMap Nat := []
  winFired : List Nat := []
  /-- last parity alert per rank: rank and TIM clock (R322) -/
  alerts : List (Nat × Nat) := []
  /-- refreshes owed per rank (R327) -/
  owed : SMap Nat := []
  /-- ranks whose devices report a high temperature (R326) -/
  hot : List Nat := []
  /-- next line of the patrol scrubber: physical rank and line of the rank (R320) -/
  scrubRank : Nat := 0
  scrubLine : Nat := 0
  /-- TIM clock of the write of INIT -/
  initAt : Nat := 0
  /-- TIM clock at which the last migration started (R333) -/
  migAt : Nat := 0
  /-- poisoned lines of ranks that carry no logical rank: rank and line (R320) -/
  sparePoison : List (Nat × Nat) := []
  deriving DecidableEq, Repr, Inhabited

/-! ## Interrupt controllers (chapter 12) -/

/-- An outstanding offer (R350). -/
structure Offer where
  ctl : Controller
  p : Proc
  src : Nat
  /-- priority of the source when it was offered -/
  prio : Nat
  deriving DecidableEq, Repr, Inhabited

structure IcSt where
  /-- event counters by source (R346) -/
  cnt : SMap Nat := []
  offers : List Offer := []
  /-- priority stacks of the APCs, top first (R348) -/
  prioStack : SMap (List Nat) := []
  /-- effective priority that a processor's own copy may still hold, and the TIM clock of the change (R347) -/
  prev : SMap (Nat × Nat) := []
  /-- processors whose compare has given its event (R343) -/
  fired : List Nat := []
  /-- guard processors stopped by a lockstep mismatch (R342) -/
  stopped : List Nat := []
  deriving DecidableEq, Repr, Inhabited

/-! ## Source contexts (chapters 2 and 4) -/

/-- A capture time as a record carries it (R32, R35): `t` in units of 2⁻¹⁶ ns. -/
structure CapTime where
  t : Nat := 0
  epoch : Nat := 0
  valid : Bool := false
  network : Bool := false
  origin : Nat := 0
  deriving DecidableEq, Repr, Inhabited

/-- A packet held in a jitter buffer (R112). -/
structure JbPkt where
  /-- extended sequence number, offset by 2¹⁶ -/
  ext : Nat
  ts : Nat
  marker : Bool
  payload : List Byte
  /-- a fragment: 0 none, 1 the first of its NAL unit, 2 a later one -/
  frag : Nat
  /-- TIM clock of its arrival -/
  clk : Nat
  deriving DecidableEq, Repr, Inhabited

/-- A stored sender report (R114): its time and receive time in units of 2⁻¹⁶ ns. -/
structure SrRec where
  s : Nat
  rtp : Nat
  trx : Nat
  epoch : Nat
  deriving DecidableEq, Repr, Inhabited

/-- The receiver's side of SRTP: highest index, and the indices seen within the replay window (R113). -/
structure Replay where
  top : Option Nat := none
  seen : List Nat := []
  deriving DecidableEq, Repr, Inhabited

/-- An access unit that ING has released and no engine has started (R132). -/
structure ReleasedAu where
  /-- order of release over all contexts -/
  no : Nat
  ts : Nat
  ct : CapTime
  /-- its NAL units, in order -/
  nals : List (List Byte) := []
  deriving DecidableEq, Repr, Inhabited

/-- A source context beyond its registers. (DESIGN CHOICE: log entry 94) -/
structure CtxSt where
  learned : Option Nat := none
  /-- TIM clock of the last accepted input, or of the enable (R123) -/
  lastInput : Nat := 0
  sr : Option SrRec := none
  /-- SR_VALID as last seen by the edge detector of SR_LOST (R115) -/
  srSeen : Bool := false
  srtp : Replay := {}
  srtcp : Replay := {}
  jb : List JbPkt := []
  /-- highest extended sequence number, next one expected -/
  jbTop : Option Nat := none
  jbNext : Option Nat := none
  /-- the last access unit that left: its timestamp, whether it was discarded, whether no marker has ended it -/
  jbLeft : Option (Nat × Bool × Bool) := none
  /-- payload bytes beyond ST_KBYTES -/
  kib : Nat := 0
  /-- next FRAME_SEQ; IDENT_RUN and content CRC of the previous frame (R35, R56) -/
  seq : Nat := 0
  identRun : Nat := 0
  prevCrc : Option Word := none
  /-- token CRC of the latest frame with TOKEN_VALID, capture time of the last token change (R58) -/
  prevToken : Option Word := none
  tokenCt : Nat := 0
  deriving DecidableEq, Repr, Inhabited

/-! ## Pool, dispatcher and engines (chapter 5) -/

/-- A buffer descriptor (R134). -/
structure Desc where
  plane0 : Nat := 0
  plane1 : Nat := 0
  header : Nat := 0
  record : Nat := 0
  cmap : Nat := 0
  bctmap : Nat := 0
  maxW : Nat := 0
  maxH : Nat := 0
  stride : Nat := 0
  depth : Nat := 0
  deriving DecidableEq, Repr, Inhabited

/-- A pool buffer beyond its registers: the dispatcher's copy of its descriptor, and what the dispatcher and the
decoder keep of the stored picture. (DESIGN CHOICE: log entry 94) -/
structure BufSt where
  owner : Option Nat := none
  desc : Desc := {}
  /-- surface format of the stored picture (R156) -/
  fmt : Nat := 0
  ct : CapTime := {}
  poc : Int := 0
  /-- blocks marked in its concealment map, and those still counted against references (R145, R147) -/
  conceal : List (Nat × Nat) := []
  refConceal : List (Nat × Nat) := []
  crc : Word := 0
  token : Option Word := none
  /-- the frame carries a block capture-time map -/
  bct : Bool := false
  /-- pictures completed since it began to await output, those that precede it in output order (R139) -/
  waited : Nat := 0
  /-- it has been output -/
  out : Bool := false
  deriving DecidableEq, Repr, Inhabited

/-- A context in the dispatcher beyond its registers. (DESIGN CHOICE: log entry 94) -/
structure DspSt where
  /-- buffers of the descriptor copy (R134) -/
  bufs : List Nat := []
  queue : List ReleasedAu := []
  /-- open recovery point: frame_num (H.264) or picture order count (H.265) of its picture, and the count after
  which it completes (R147) -/
  recovery : Option (Int × Int) := none
  prevFrameNum : Option Nat := none
  /-- the last IRAP picture ended a recovery: its RASL pictures are judged against the pictures before it (R147) -/
  craEnded : Bool := false
  deriving DecidableEq, Repr, Inhabited

/-- What a commitment serves (R130). -/
inductive Commit where
  | dec (ctx : Nat)
  | enc (ch : Nat)
  deriving DecidableEq, Repr, Inhabited

/-- A commitment: its rate, the engine it is bound to, the engine it moves to at its next picture boundary
(R131, R132). -/
structure Placed where
  what : Commit
  rate : Nat
  engine : Option Nat
  moveTo : Option Nat := none
  /-- the context's decoding state lies in its state area (R132) -/
  saved : Bool := false
  deriving DecidableEq, Repr, Inhabited

/-- The picture an engine decodes. -/
structure DecPic where
  ctx : Nat
  buf : Nat
  au : ReleasedAu
  facts : AuFacts
  startClk : Nat
  phantom : Bool
  deriving DecidableEq, Repr, Inhabited

/-- A codec engine beyond its registers. (DESIGN CHOICE: log entry 94) -/
structure EngSt where
  pic : Option DecPic := none
  /-- channel whose mirror picture it codes -/
  encoding : Option Nat := none
  /-- TIM clock at which it began to code it -/
  encClk : Nat := 0
  draining : Bool := false
  deriving DecidableEq, Repr, Inhabited

/-! ## Network and DisplayPort inputs (chapter 4) -/

/-- A frame being captured at a sink port. -/
structure DpiFrame where
  ctx : Nat
  buf : Nat
  ct : CapTime
  fmt : DpFormat
  deriving DecidableEq, Repr, Inhabited

/-- A sink port beyond its registers. -/
structure DpiSt where
  frame : Option DpiFrame := none
  /-- last frame with a supported stream since LINK_EN was written to 1 (R121) -/
  lastFmt : Option DpFormat := none
  edidPtr : Nat := 0
  /-- DPCD bytes that the source has written; lane status and interlane alignment as last shown while it trains -/
  dpcd : SMap Byte := []
  lanes : List Byte := []
  /-- TIM clock at which the HPD pulse ends -/
  irqUntil : Nat := 0
  deriving DecidableEq, Repr, Inhabited

/-- An entry of the PRP duplicate table (R108): source MAC, sequence number, TIM clock of its entry. -/
structure PrpEntry where
  mac : Nat
  seq : Nat
  clk : Nat
  deriving DecidableEq, Repr, Inhabited

structure NetSt where
  prp : List PrpEntry := []
  /-- next PRP sequence number sent -/
  prpSeq : Nat := 0
  deriving DecidableEq, Repr, Inhabited

/-! ## Composition, guard stage and scan-out (chapters 6 to 8) -/

/-- The limits of a source context as fixed at a latch point (R51, R62). -/
structure LvLimits where
  futureTol : Nat := 0
  pressMode : Nat := 0
  wilt : Nat := 0
  frames : Nat := 0
  tokenMs : Nat := 0
  deriving DecidableEq, Repr, Inhabited

/-- A liveness record as the guard stage fixed it at a latch point (R38, R51). -/
structure RecIn where
  /-- reason 0x1 applies: no trustworthy record (R37, R38, R184) -/
  bad : Bool := true
  src : Nat := 0xFF
  /-- capture time in units of 2⁻¹⁶ ns -/
  ct : Nat := 0
  epoch : Nat := 0
  network : Bool := false
  identRun : Nat := 0
  hold : Nat := 0
  /-- concealed blocks -/
  conceal : List (Nat × Nat) := []
  /-- block, DELTA and ORIGIN_STATE (R42) -/
  bct : Option (List ((Nat × Nat) × (Nat × Nat))) := none
  lim : LvLimits := {}
  deriving DecidableEq, Repr, Inhabited

/-- What a layer does in a frame (R47, R175, R181). -/
inductive LayerUse where
  | off | draw | noBuf | fault (code : Nat)
  deriving DecidableEq, Repr, Inhabited

/-- A layer as fixed at a latch point; the crop window is in samples of the stored picture. -/
structure LayerIn where
  use : LayerUse := .off
  dx : Nat := 0
  dy : Nat := 0
  dw : Nat := 0
  dh : Nat := 0
  cx : Nat := 0
  cy : Nat := 0
  cw : Nat := 0
  ch : Nat := 0
  poly : Bool := false
  coef : Nat := 0
  tf : Nat := 0
  csc : Nat := 0
  pixAlpha : Bool := false
  alpha : Nat := 0
  surf : Surf := {}
  record : RecIn := {}
  repeated : Bool := false
  deriving DecidableEq, Repr, Inhabited

/-- A verification or CRC rectangle as latched (R209, R239). -/
structure RectIn where
  en : Bool := false
  mode : Nat := 0
  x : Nat := 0
  y : Nat := 0
  w : Nat := 0
  h : Nat := 0
  expect : Word := 0
  wd : Nat := 0
  deriving DecidableEq, Repr, Inhabited

/-- What a latch point fixes for the coming frame (R51, R186, R219, R235). -/
structure FrameIn where
  no : Nat := 0
  hA : Nat := 0
  vA : Nat := 0
  vT : Nat := 0
  /-- the schedule period in units of 2⁻³² ns -/
  p32 : Nat := 0
  depth : Nat := 10
  epoch : Nat := 0
  traceable : Bool := false
  live : Nat := 0
  layers : List LayerIn := []
  bg : Rgba := {}
  otf : Nat := 0
  dither : Nat := 0
  words : List (List Nat) := []
  scale : Nat := 1
  vrs : List RectIn := []
  crcs : List RectIn := []
  /-- the petal map: written, base, slots, slot size in 4 KiB -/
  pmEn : Bool := false
  pmBase : Nat := 0
  pmSlots : Nat := 2
  pm4k : Nat := 4
  /-- counter less phase at the latch point, in units of 2⁻⁴⁰ ns: the counter terms of the frame (R232) -/
  terms : Int := 0
  deriving DecidableEq, Repr, Inhabited

/-- What a layer contributes to a petal (R45 to R47): over the contributed pixels, the earliest and the latest
capture time in units of 2⁻¹⁶ ns and the findings of R46. -/
structure Contrib where
  layer : Nat
  /-- R47 applies: reason 0x6 or 0x7; else 0 -/
  reason : Nat := 0
  minCt : Option Int := none
  maxCt : Option Int := none
  conceal : Bool := false
  unknown : Bool := false
  origin : Nat := 0
  deriving DecidableEq, Repr, Inhabited

/-- A petal as judged (R50, R54): SOURCE, LAYER and the capture time behind its age. -/
structure Petal where
  state : Nat := 0
  age : Nat := 0xFFFFFFFF
  src : Nat := 0xFF
  layer : Nat := 0xF
  reason : Nat := 0
  repeated : Bool := false
  whole : Bool := false
  ct : Option Int := none
  /-- FUTURE_TOL of its source (R34) -/
  tol : Nat := 0
  deriving DecidableEq, Repr, Inhabited

/-- A frame from its latch point to the comparison at the next line 0. -/
structure Frame where
  inp : FrameIn
  /-- the sequence number sent with its first line; none while CMP*n* is disabled (R192) -/
  seq : Option Nat := none
  /-- petal rows delivered, and whether CMP_SEQ has taken the number -/
  delivered : Nat := 0
  completed : Bool := false
  /-- pixels at link depth by petal row, contributions by petal -/
  pix : SMap (List (List Rgba)) := []
  contribs : SMap (List Contrib) := []
  /-- petal rows evaluated, petals judged -/
  evaluated : Nat := 0
  petals : SMap Petal := []
  isNew : Bool := false
  skip : Bool := false
  late : Option Nat := none
  /-- A_k in units of 2⁻¹⁶ ns, and the phase at which line 0 began -/
  a : Nat := 0
  start : Nat := 0
  /-- the link was trained when line 0 began -/
  video : Bool := false
  /-- the slot of the petal map, and the petal rows whose records the memory refused; reference results by
  rectangle -/
  slot : Option Nat := none
  unwritten : List Nat := []
  headerDone : Bool := false
  refs : SMap Word := []
  deriving DecidableEq, Repr, Inhabited

/-- A composition pipe beyond its registers. -/
structure CmpSt where
  /-- sequence number of the next frame composed (R192) -/
  seq : Nat := 0
  /-- context in use by layer (R183) -/
  ctx : SMap Nat := []
  /-- layers for which an FADDR pair was taken since SOFT_RESET (R180), and those that failed the last latch
  check (R181) -/
  paired : List Nat := []
  failed : List Nat := []
  /-- table entries and coefficients that differ from their reset values -/
  tf : SMap Nat := []
  coef : SMap Nat := []
  deriving DecidableEq, Repr, Inhabited

/-- A guard stage beyond its registers. -/
structure GrdSt where
  /-- a frame has been judged new since the release or the enable (R197) -/
  seen : Bool := false
  /-- R53 applied in the last frame, and BLK_STAT.STALLED; that frame had a marked petal -/
  pressing : Bool := false
  stalled : Bool := false
  marked : Bool := false
  /-- petals as last evaluated from delivered pixels (R198) -/
  basis : SMap Petal := []
  deriving DecidableEq, Repr, Inhabited

/-- An AUX transaction (R243). -/
structure AuxTx where
  req : Nat
  addr : Nat
  len : Nat
  data : List Byte
  /-- TIM clock at which it was sent; none while it waits for the channel -/
  sent : Option Nat := none
  /-- TIM clock of the DEFER reply that it waits on -/
  deferred : Option Nat := none
  timeouts : Nat := 0
  defers : Nat := 0
  deriving DecidableEq, Repr, Inhabited

/-- A training under way (R241): the step it is at, rate and lane codes in use and the rate code it began with, the
equalisation pattern, drive per lane (swing + 4 × pre-emphasis), tries at one swing level and in all, loops of
equalisation, TIM clock of its start, the RESULT once it has one. (PRESUMED: log entry 98) -/
structure Training where
  step : Nat := 0
  rate : Nat := 0
  lanes : Nat := 0
  rate0 : Nat := 0
  tps : Nat := 2
  drive : List Nat := []
  same : Nat := 1
  tries : Nat := 1
  loops : Nat := 0
  startClk : Nat := 0
  result : Option Nat := none
  deriving DecidableEq, Repr, Inhabited

/-- What a source port itself uses its AUX channel for: a training, or the check of the lanes after an IRQ_HPD
(R241 to R243). -/
inductive PortJob where
  | train (t : Training)
  | lanes
  deriving DecidableEq, Repr, Inhabited

/-- An output beyond its registers. (PRESUMED: log entry 10) -/
structure OutSt where
  /-- number of the next frame (R233) -/
  nextNo : Nat := 0
  /-- index of the next instant in use (R91, R230) -/
  j : Nat := 0
  rechoose : Bool := false
  /-- phase of the release latch point (R222) -/
  relRun : Nat := 0
  /-- phase at which the next slip line begins (R230) -/
  slipRun : Nat := 0
  /-- the phase of the instant chosen for the coming line 0 -/
  chosen : Option Nat := none
  coming : Option Frame := none
  scan : Option Frame := none
  /-- the frame whose comparison is pending -/
  prev : Option Frame := none
  /-- the transaction of firmware; what the port itself does on the channel, and its own transaction; TIM clock of
  the last unplug (R243, R247) -/
  aux : Option AuxTx := none
  job : Option PortJob := none
  own : Option AuxTx := none
  unplugClk : Option Nat := none
  /-- a further IRQ_HPD has come while the port reads the lane status (R242) -/
  again : Bool := false
  /-- clock of the last ENABLE = 0; clock of the last writes of the page, and what they replaced, latest first (R247) -/
  offClk : Option Nat := none
  wroteClk : Nat := 0
  wrote : List (Nat × Word) := []
  /-- a group member that takes part in its leader's release (R234) -/
  joined : Bool := false
  deriving DecidableEq, Repr, Inhabited

/-! ## Keys (chapter 16) -/

/-- A key slot that is not EMPTY (R418). -/
structure KeySlot where
  len256 : Bool := false
  key : List Byte := []
  salt : List Byte := []
  deriving DecidableEq, Repr, Inhabited

structure KeySt where
  slots : SMap KeySlot := []
  /-- users whose session keys are derived: context *c* as `c`, channel *c* as 128 + *c*; the keys in the order
  of labels 0x00 to 0x05 (R420) -/
  sess : SMap (List (List Byte)) := []
  /-- SEQ_HASH of the accepted header (R423), its ENTRY_GP and ENTRY_APC, address and length of the sequencer
  firmware in system SRAM -/
  seqHash : Option (List Byte) := none
  entryGp : Nat := 0
  entryApc : Nat := 0
  seqAt : Nat := 0
  seqLen : Nat := 0
  /-- a command on the VBAT secret store in progress: TIM clock of its completion, what the store then holds (R419) -/
  vstore : Option (Nat × Option (List Byte)) := none
  /-- fuse programming in progress: TIM clock of its end, value, oldest first (R424) -/
  fusing : List (Nat × Nat) := []
  deriving DecidableEq, Repr, Inhabited

/-! ## Mirror streams (chapter 9) -/

/-- A block of a mirror picture: its state and its capture time in units of 2⁻¹⁶ ns, when known (R257). -/
abbrev SeiEntry := Nat × Option Int

/-- An input picture of a channel (R248, R249, R257). -/
structure EncIn where
  /-- it is the first since the channel entered ENCODING (R251) -/
  first : Bool := false
  /-- number, start in units of 2⁻¹⁶ ns, and output of the frame copied -/
  no : Nat := 0
  a : Nat := 0
  out : Nat := 0
  /-- H.265 samples: luma rows, chroma rows of Cb and Cr pairs -/
  luma : List (List Nat) := []
  chroma : List (List Nat) := []
  /-- the petal map slot was written; PTP_STAT.TRACEABLE at the latch point -/
  slot : Bool := false
  traceable : Bool := false
  entries : List (List SeiEntry) := []
  deriving DecidableEq, Repr, Inhabited

/-- A mirror picture that an engine codes, with the registers that govern it (R254, R265). -/
structure EncPic where
  inp : EncIn
  idr : Bool
  gop : Word
  rate : Word
  deriving DecidableEq, Repr, Inhabited

/-- An RTP packet that waits for its turn (R254, R260). -/
structure EncPkt where
  marker : Bool
  /-- it belongs to an IDR -/
  idr : Bool
  ts : Nat
  payload : List Byte
  /-- RATE.KBPS of its picture, which paces it (R254) -/
  kbps : Nat
  deriving DecidableEq, Repr, Inhabited

/-- A mirror channel beyond its registers. (DESIGN CHOICE: log entries 55, 94) -/
structure EncSt where
  /-- STATE STOPPED: its STOP_CAUSE (R251) -/
  stopped : Option Nat := none
  /-- cropped size at enable (R251) -/
  w : Nat := 0
  h : Nat := 0
  /-- number of the frame from which DECIM_M1 counts; none while WAITING -/
  count : Option Nat := none
  /-- that frame has been taken, or discarded -/
  taken : Bool := false
  /-- the next input is the first since ENCODING was entered -/
  first : Bool := false
  inputs : List EncIn := []
  cur : Option EncPic := none
  /-- pictures coded since the last IDR, that one included -/
  sinceIdr : Nat := 0
  /-- QP of the last row of the previous picture; none before the first picture since the enable (R254) -/
  qp : Option Nat := none
  full : Nat := 0
  /-- entries that the reference picture holds (R258) -/
  ref : List (List SeiEntry) := []
  packets : List EncPkt := []
  seq : Nat := 0
  /-- packets and bytes sent, for the rollover counter and the sender reports -/
  sent : Nat := 0
  octets : Nat := 0
  /-- TIM clock before which the next packet does not leave (R254) -/
  paceClk : Nat := 0
  /-- bits sent beyond ENC_CH*c*_KBITS -/
  kbit : Nat := 0
  /-- TIM clock of the last sender report, and the number of reports -/
  srClk : Nat := 0
  srNo : Nat := 0
  deriving DecidableEq, Repr, Inhabited

/-! ## Ngurelo and Kibiter (chapter 10) -/

/-- What a TRAIN flit says (R271). -/
structure TrainInfo where
  device : Nat := 0
  tag : Nat := 0
  port : Nat := 3
  version : Nat := 0
  buf0 : Nat := 0
  buf1 : Nat := 0
  deriving DecidableEq, Repr, Inhabited

/-- A Ngurelo port beyond its registers. -/
structure NgSt where
  /-- NG_STAT.STATE: 0 DOWN, 1 TRAINING, 2 ACTIVE, 3 WAIT -/
  st : Nat := 0
  /-- training phase 1 to 4, start of the attempt, start of the WAIT (R270) -/
  phase : Nat := 0
  startClk : Nat := 0
  waitClk : Nat := 0
  /-- the partner's last TRAIN flit, how many identical ones in a row, TRAIN flits sent since the first (R270) -/
  train : TrainInfo := {}
  trainRx : Nat := 0
  trainTx : Nat := 0
  /-- SEQ of the last flit sent and of the last one received in order (R272) -/
  txSeq : Nat := 0
  rxSeq : Nat := 0
  /-- flits held for replay, oldest first, each with the TIM clock of its last sending -/
  held : List (Flit × Nat) := []
  /-- later flits are discarded until the expected SEQ arrives -/
  naking : Bool := false
  /-- TIM clock of the first ACK advance not yet sent -/
  ackDue : Option Nat := none
  /-- the replays under way: TIM clock of the first, SEQ that caused it, replays started (R273) -/
  replay : Option (Nat × Nat × Nat) := none
  /-- credits held, and buffers freed and not yet returned, for VC0 and VC1 (R274) -/
  cr0 : Nat := 0
  cr1 : Nat := 0
  freed0 : Nat := 0
  freed1 : Nat := 0
  /-- flits that wait for a credit -/
  q0 : List Flit := []
  q1 : List Flit := []
  /-- the picture that is being sent: duty and buffer (R279) -/
  tx : Option (Nat × Nat) := none
  deriving DecidableEq, Repr, Inhabited

/-- A picture that is being received for a context (R282). -/
structure RxPic where
  /-- the port; none for the loopback -/
  port : Option Nat := none
  orig : Nat := 0
  stream : Nat := 0
  pic : Nat := 0
  buf : Nat := 0
  startClk : Nat := 0
  /-- payload of its PIC_START -/
  start : List Byte := []
  /-- segments that are not complete, in order: plane and row; bytes of the first of them -/
  todo : List (Nat × Nat) := []
  cur : List Byte := []
  /-- PIC_DATA flits received -/
  flits : Nat := 0
  bad : Bool := false
  deriving DecidableEq, Repr, Inhabited

/-- The last picture taken of an originator and stream (R283). -/
structure PicHist where
  orig : Nat
  stream : Nat
  tag : Nat
  pic : Nat
  clk : Nat
  deriving DecidableEq, Repr, Inhabited

/-- A claim gate: accepted claim and originator, TIM clock of the last accepted picture (R287, R288). -/
structure GateSt where
  claim : Nat := 0
  orig : Nat := 0
  last : Option Nat := none
  deriving DecidableEq, Repr, Inhabited

/-- A duty beyond its registers. -/
structure DutySt where
  /-- number of the next picture sent, and of the NEWEST one once it is sent (R280) -/
  nextPic : Nat := 0
  newPic : Option Nat := none
  /-- ports that have the NEWEST picture still to send (R279) -/
  todo : List Nat := []
  /-- per stream, the highest claim in an entry of another device since ROLE was last written (R294) -/
  seen : SMap Nat := []
  /-- an entry for the stream has been heard from the partner; the state is STANDBY, not SYNCING (R294) -/
  heard : Bool := false
  standby : Bool := false
  deriving DecidableEq, Repr, Inhabited

/-- A peer heard (R293). Paths: 0 NG, 1 NET, 2 tendril. -/
structure Peer where
  id : Nat := 0
  state : Nat := 0
  seq : Nat := 0
  miss : Nat := 0
  /-- per path: alive, TIM clock of the last heartbeat -/
  alive : List Nat := []
  heard : SMap Nat := []
  deriving DecidableEq, Repr, Inhabited

structure KibSt where
  /-- peers in the order first heard -/
  peers : List Peer := []
  /-- index of the last heartbeat instant served (R289) -/
  slot : Nat := 0
  /-- TIM clock of the enable; SYNCED (R298) -/
  enabledAt : Nat := 0
  synced : Bool := false
  /-- duties whose claims changed, and whether the sent state did, since the last CLAIM_NOTICE (R289) -/
  changed : List Nat := []
  due : Bool := false
  /-- duties that were not OFF at the entry to WITHDRAWN (R299) -/
  gone : List Nat := []
  /-- messages discarded (R290, R303) -/
  bad : Nat := 0
  deriving DecidableEq, Repr, Inhabited

/-! ## DMA (chapter 14) -/

/-- A read of GTE_DRAIN by a channel that waits (R367): the gate, the read itself as an access in flight, the accesses that it
waits for, whether it takes the word above too, and the requests of its descriptor that are left, its own first. -/
structure DmaWait where
  gate : Nat
  id : Nat
  ids : List Nat
  wide : Bool
  left : Nat
  deriving DecidableEq, Repr, Inhabited

/-- A descriptor in progress (R374, R376). -/
structure DmaDesc where
  src : Nat := 0
  dst : Nat := 0
  width : Nat := 0
  lines : Nat := 0
  id : Nat := 0
  srcStride : Nat := 0
  dstStride : Nat := 0
  op : Nat := 0
  unit : Nat := 0
  flags : Nat := 0
  /-- its status, once every request has been issued; the lowest failing address; CRC_RESULT to return -/
  status : Option Nat := none
  fault : Nat := 0
  crc : Nat := 0
  /-- its writes that have not returned (R376) -/
  accs : List Nat := []
  /-- it feeds, or has fed, its CRC unit (R386) -/
  fed : Bool := false
  /-- the read of GTE_DRAIN for which it waits (R367) -/
  waits : Option DmaWait := none
  deriving DecidableEq, Repr, Inhabited

structure DmaCh where
  inflight : List DmaDesc := []
  halted : Bool := false
  deriving DecidableEq, Repr, Inhabited

/-- A completion that waits for its entry: channel and the entry without PHASE (R377). -/
structure DmaCpl where
  ch : Nat
  id : Nat
  status : Nat
  crc : Nat
  fault : Nat
  deriving DecidableEq, Repr, Inhabited

structure DmaEng where
  chans : SMap DmaCh := []
  waiting : List DmaCpl := []
  /-- PHASE of the present pass (R377) -/
  phase : Bool := true
  cqError : Bool := false
  deriving DecidableEq, Repr, Inhabited

/-! ## Touch (chapter 15) -/

/-- A key beyond its registers: raw counts summed in INIT and their number, consecutive scans with the delta at
TH or more, below TH − HYS, and below TH, TCH time at which it became TOUCHED (R396, R399, R400). -/
structure TchKey where
  sum : Nat := 0
  n : Nat := 0
  on : Nat := 0
  off : Nat := 0
  cool : Nat := 16
  since : Nat := 0
  deriving DecidableEq, Repr, Inhabited

/-- A surface node: scans of its INIT so far (4: left), their sum, its baseline (R396, R397). -/
structure TchNode where
  n : Nat := 0
  sum : Nat := 0
  base : Nat := 0
  deriving DecidableEq, Repr, Inhabited

/-- A contact: identifier, position and strength of the last scan, position last reported, position and TCH time
of its DOWN (R402). -/
structure TchContact where
  id : Nat := 0
  x : Nat := 0
  y : Nat := 0
  strength : Nat := 0
  rx : Nat := 0
  ry : Nat := 0
  dx : Nat := 0
  dy : Nat := 0
  since : Nat := 0
  deriving DecidableEq, Repr, Inhabited

structure TchSt where
  /-- TIM clock at which SCAN_EN was written to 1, and that at which the next scan is due (R394) -/
  on : Nat := 0
  due : Nat := 0
  /-- TCH time of the last scan start, in µs since SCAN_EN was written to 1 -/
  us : Nat := 0
  running : Bool := false
  /-- the last scan to start is one of the WATCH set (R404) -/
  watch : Bool := false
  /-- TIM clock at which the running scan started, and that at which the diagnostic run did -/
  began : Nat := 0
  diagAt : Nat := 0
  keys : SMap TchKey := []
  nodes : List (List TchNode) := []
  /-- in ascending identifier order -/
  contacts : List TchContact := []
  /-- PHASE of the present pass through the ring (R403) -/
  phase : Bool := true
  /-- keys that became TOUCHED in WATCH and when, latest first (R405) -/
  touches : List (Nat × Nat) := []
  /-- the wake request to the PMU; RESYNC reports are due at the next scan in RUN (R405) -/
  wake : Bool := false
  resync : Bool := false
  deriving DecidableEq, Repr, Inhabited

/-! ## Self-test (chapter 16) -/

structure BstSt where
  /-- partitions under test, each with the TIM clock of its start -/
  runs : List (Nat × Nat) := []
  /-- partitions whose run waits for the supply (R414) -/
  waiting : List Nat := []
  /-- ABORTED runs in a row, by partition (R412, R415) -/
  aborts : SMap Nat := []
  /-- boot group in progress, 3 after the last; whether it has started (R411) -/
  group : Nat := 0
  started : Bool := false
  /-- engines whose sequencer firmware is to be loaded and checked (R423) -/
  fwDue : List Nat := []
  /-- TIM clock of the next handover (R415) -/
  rotAt : Nat := 0
  /-- the boot follows a wake from WATCH (R441) -/
  wake : Bool := false
  deriving DecidableEq, Repr, Inhabited

/-! ## Host and management interfaces (chapter 18) -/

/-- A queue pair beyond its registers (R456 to R459). -/
structure QpSt where
  /-- position from which the next command is read; position of the next completion -/
  fetch : Nat := 0
  cqTail : Nat := 0
  phase : Bool := true
  /-- completions written since the last message; timer counter at the first of them, or at the first held post -/
  p : Nat := 0
  start : Option Nat := none
  deriving DecidableEq, Repr, Inhabited

/-- A completion that is held: queue pair, the first 14 bytes of its entry, STATUS (R461). -/
structure HeldPost where
  q : Nat
  head : List Byte
  status : Nat
  deriving DecidableEq, Repr, Inhabited

/-- Message address and data of an entry of the MSI-X table (R455). -/
structure MsixVec where
  addr : Nat := 0
  data : Nat := 0
  deriving DecidableEq, Repr, Inhabited

/-- The PCIe endpoint and root complex beyond their registers (R454). (PRESUMED: log entry 10) -/
structure PciSt where
  /-- PCI_STAT.LINK apart from PERST_N: 0 down, 1 L0, 2 L1; its width and speed -/
  link : Nat := 0
  width : Nat := 0
  speed : Nat := 0
  /-- the function is in D3hot; PME_Status and PME_En -/
  d3 : Bool := false
  pme : Bool := false
  pmeEn : Bool := false
  /-- the MSI-X table: addresses and data, vectors that are not masked; those whose PBA bit is set -/
  vecs : SMap MsixVec := []
  unmasked : List Nat := []
  pba : List Nat := []
  /-- vectors that were not masked when PERST_N fell, which ask for a PME while it is low (R453, R461) -/
  armed : List Nat := []
  /-- the first read that AER has logged as answered with Completer Abort: address, length (R455) -/
  aer : Option Nat := none
  qps : SMap QpSt := []
  hold : List HeldPost := []
  deriving DecidableEq, Repr, Inhabited

/-- The FIFOs of a UART, oldest first (R467). -/
structure UartSt where
  tx : List Byte := []
  /-- TIM clock at which the byte being sent, the first of `tx`, began -/
  txAt : Nat := 0
  rx : List Byte := []
  deriving DecidableEq, Repr, Inhabited

/-- The pins of R475 that the device drives by its state, those it never drives, and the SerDes transmitters of a port. -/
inductive Pin where
  | outHpd (n : Fin 16) | dpiHpd (p : Fin 8) | trig (u : Fin 8) | withdrawnN | wake | tetherTx | tetherRx
  | gpio (i : Fin 32) | xspiResetN | dmcResetN (n : Fin 6) | resetN | bootXspi | trstN
  | ts (p : Fin 96) | outAux (n : Fin 16) | dpiAux (p : Fin 8) | xspiCsN | uartTx (u : Fin 2) | i2c (i : Fin 4)
  | rgmiiTxCtl | mgeMdio | alertN (n : Fin 6) (subch : Fin 2)
  | outTx (n : Fin 16) | ngTx (p : Fin 3) | ethTx (p : Fin 2) | pcieTx
  deriving DecidableEq, Repr

/-- What a debugger has set through the JTAG port (R469, R475). (DEDUCED: log entry 87) -/
structure JtagSt where
  /-- the application cores it halts -/
  halted : List (Fin 8) := []
  /-- the pins that EXTEST drives, and their levels -/
  extest : List (Pin × Bool) := []
  deriving DecidableEq, Repr, Inhabited

/-- What the board gives pins of the ZW96: the levels of PERST_N and of GPIO, and whether it lacks the 32.768 kHz
crystal (R454, R468, R485). (PRESUMED, DESIGN CHOICE: log entries 10, 91) -/
structure PinSt where
  perstLow : Bool := false
  gpio : Word := 0
  noXtal32 : Bool := false
  deriving DecidableEq, Repr, Inhabited

/-! ## The state -/

/-- The registers of the pixel pages and the CDC pages, and what stands behind them, as the entry to WITHDRAWN found them:
those pages hold their contents for reading (R31). -/
structure Frozen where
  regs : SMap Word
  eng : SMap EngSt
  placed : List Placed
  dsp : SMap DspSt
  buf : SMap BufSt
  ctx : SMap CtxSt
  cmp : SMap CmpSt
  grd : SMap GrdSt
  out : SMap OutSt
  enc : SMap EncSt
  deriving DecidableEq, Repr, Inhabited

structure State where
  /-- commands that wait, first in, first out -/
  pending : List Instr := []
  /-- registers whose value differs from the reset value; keys are those of `rkey` -/
  regs : SMap Word := []
  /-- accesses of blocks to registers that their gates have admitted and the pages have yet to serve, oldest first -/
  ownRegs : List Instr := []
  /-- low words written and held under R13 -/
  heldLow : SMap Word := []
  /-- shadows per master (R13, R63, R71, R87, R96, R216) -/
  shadow : SMap Word := []
  /-- LATCH values present in the PIX domain, and in use since the last latch point (R186) -/
  pix : SMap Word := []
  latched : SMap Word := []
  xq : List Xw := []
  /-- memory that differs from zero: DRAM, system SRAM and MRAM (R10) -/
  mem : List Host.Cell := []
  /-- poisoned DRAM lines, by line address -/
  poison : List Nat := []
  resp : Resp := {}
  outbox : List Emit := []
  /-- uses of the free values so far -/
  free : Nat := 0
  /-- clocks of 2 ns since the last device reset was asserted or released, WATCH counted in -/
  clk : Nat := 0
  pwr : Pwr := {}
  vbt : VbtSt := {}
  tm : TimeSt := {}
  ttu : SMap TtuSt := []
  caps : SMap CapSt := []
  ic : IcSt := {}
  resv : List Reservation := []
  mrm : MrmSt := {}
  dmc : SMap DmcSt := []
  drains : List Drain := []
  /-- what the pixel pages and the CDC pages hold since the entry to WITHDRAWN (R31) -/
  frozen : Option Frozen := none
  /-- accesses that wait for the read of a line that is made again for their master, in issue order (R29) -/
  behind : List Parked := []
  /-- responses that wait for those of earlier accesses of their masters, in issue order (R28, R341) -/
  late : List Late := []
  /-- admitted accesses that have not completed (R367) -/
  inflight : List InFlight := []
  accId : Nat := 0
  ctx : SMap CtxSt := []
  buf : SMap BufSt := []
  dsp : SMap DspSt := []
  placed : List Placed := []
  eng : SMap EngSt := []
  /-- access units released so far -/
  auNo : Nat := 0
  dpi : SMap DpiSt := []
  net : NetSt := {}
  /-- keys of pairs that have reached PIX since the last latch point of their page (R187) -/
  arrived : List Nat := []
  cmp : SMap CmpSt := []
  grd : SMap GrdSt := []
  out : SMap OutSt := []
  key : KeySt := {}
  /-- the fused security version as raised since manufacture (R424) -/
  fuseSv : Nat := 0
  /-- the hardware read-back of the key store finds words that are not zero (R416) -/
  keyStuck : Bool := false
  enc : SMap EncSt := []
  ng : SMap NgSt := []
  /-- pictures being received, by context -/
  rx : SMap RxPic := []
  hist : List PicHist := []
  gate : SMap GateSt := []
  duty : SMap DutySt := []
  kib : KibSt := {}
  dma : SMap DmaEng := []
  tch : TchSt := {}
  /-- last millisecond of the timeout grid that has been evaluated (R123) -/
  srcGrid : Nat := 0
  bst : BstSt := {}
  /-- recent writes of liveness limits: context, limits before the write, TIM clock (R51) -/
  lvWrites : List (Nat × LvLimits × Nat) := []
  pci : PciSt := {}
  uart : SMap UartSt := []
  /-- the nonce that the next debug response must sign (R469) -/
  nonce : Option Word := none
  jtag : JtagSt := {}
  pins : PinSt := {}
  deriving DecidableEq, Repr

/-- The machine right after the release of the power-on device reset (R436): registers at their reset
values, memories empty, nothing waiting; the network time has been loaded with no valid holdover, so the epoch and its copy
are 1 (R100). (DEDUCED: log entry 4) -/
def State.reset : State := { vbt := { epoch := 1 } }

end Sys2Proof.Machine
end

