-- ==== Sys2Proof/Machine/Ops.lean ====
section
/-! DEFINITION. The named operations over sparse tables, words, registers, memory and responses. -/

namespace Sys2Proof.Machine

/-! ## Sparse tables -/

variable {α : Type}

/-- The value listed for key `k`. -/
def smGet (k : Nat) : SMap α → Option α
  | [] => none
  | (j, v) :: m => if j = k then some v else smGet k m

/-- The table without key `k`. -/
def smErase (k : Nat) : SMap α → SMap α
  | [] => []
  | (j, v) :: m => if j = k then smErase k m else (j, v) :: smErase k m

/-- The table with `k` listed as `v`, keys kept rising. -/
def smInsert (k : Nat) (v : α) : SMap α → SMap α
  | [] => [(k, v)]
  | (j, w) :: m =>
    if k < j then (k, v) :: (j, w) :: m
    else if j = k then (k, v) :: m
    else (j, w) :: smInsert k v m

/-- Write `v` at `k` in a table whose unlisted keys read as `d k`: the default is not listed. -/
def smPut [DecidableEq α] (d : Nat → α) (k : Nat) (v : α) : SMap α → SMap α
  | [] => if v = d k then [] else [(k, v)]
  | p :: m => if v = d k then smErase k (p :: m) else smInsert k v (p :: m)

/-- What key `k` reads as when unlisted keys read as `d k`. -/
def smRead (d : Nat → α) (k : Nat) (m : SMap α) : α := (smGet k m).getD (d k)

/-- Every key of the table is above `lo`, and keys rise. -/
def smSorted (lo : Nat) : SMap α → Bool
  | [] => true
  | (j, _) :: m => lo < j + 1 && smSorted (j + 1) m

/-- The canonical form: keys strictly rising, no entry equal to what its key reads as unlisted. -/
def smWf [DecidableEq α] (d : Nat → α) (m : SMap α) : Bool :=
  smSorted 0 m && m.all fun p => p.2 ≠ d p.1

/-- The entry of a table of block parts; an unlisted part is in its reset form. -/
def smAt [Inhabited α] (k : Nat) (m : SMap α) : α := smRead (fun _ => default) k m

/-- Replace the entry of a table of block parts. -/
def smSet [Inhabited α] [DecidableEq α] (k : Nat) (v : α) (m : SMap α) : SMap α :=
  smPut (fun _ => default) k v m

/-! ## Words and their fields -/

/-- Bits [hi:lo] of a register word, as a number. -/
def fld (w : Word) (hi lo : Nat) : Nat := (w.extractLsb' lo (hi + 1 - lo)).toNat

/-- The word with ones in bits [hi:lo]. -/
def maskW (hi lo : Nat) : Word := (BitVec.allOnes 32 >>> (31 - hi)) &&& (BitVec.allOnes 32 <<< lo)

/-- The word with bits [hi:lo] replaced. -/
def putFld (w : Word) (hi lo v : Nat) : Word :=
  (w &&& ~~~ maskW hi lo) ||| ((BitVec.ofNat 32 v <<< lo) &&& maskW hi lo)

/-- Bit `i` of a word. -/
def bit (w : Word) (i : Nat) : Bool := w.getLsbD i

/-- A word of one set bit. -/
def bitW (i : Nat) : Word := BitVec.ofNat 32 (2 ^ i)

def b2n (b : Bool) : Nat := if b then 1 else 0

/-- A 32-bit word from a number, kept at 0xFFFF_FFFF when larger: a saturating counter. -/
def satW (n : Nat) : Word := BitVec.ofNat 32 (min n 0xFFFFFFFF)

/-- The low and the high word of a 64-bit value. -/
def loW (n : Nat) : Word := BitVec.ofNat 32 n
def hiW (n : Nat) : Word := BitVec.ofNat 32 (n / 2 ^ 32)

/-- A word as a signed number. -/
def sW (w : Word) : Int := w.toInt

def roundUp (n d : Nat) : Nat := (n + d - 1) / d

/-! ## Bytes, little-endian (R12) -/

/-- The number that bytes spell, the first lowest. -/
def leNat : List Byte → Nat
  | [] => 0
  | b :: bs => b.toNat + 256 * leNat bs

/-- The `n` bytes of a number, the lowest first. -/
def leBytes : Nat → Nat → List Byte
  | 0, _ => []
  | n + 1, v => BitVec.ofNat 8 v :: leBytes n (v / 256)

/-- The `n` bytes of a number, the highest first. -/
def beBytes (n v : Nat) : List Byte := (leBytes n v).reverse

/-- The number that bytes spell, the first highest. -/
def beNat (bs : List Byte) : Nat := leNat bs.reverse

/-- The first `n` of a list, with zeros where it is shorter. -/
def takeBytes (n : Nat) (bs : List Byte) : List Byte := (bs ++ List.replicate n 0).take n

/-! ## Registers -/

/-- A value held within bounds. -/
def clampI (lo hi v : Int) : Int := max lo (min hi v)

/-- The page that holds the registers of an offset: the dispatcher window reads and writes the same
registers through every CDC page (R150). (DEDUCED: log entry 17) -/
def canonPage (page off : Nat) : Nat :=
  if pageKind page = .cdc ∧ 0x800 ≤ off then 56 else page

/-- A register of page `page` at offset `off`, of instance `idx` of a window. -/
def State.regAt (s : State) (page off idx : Nat) : Word :=
  smRead resetOf (rkey page off idx) s.regs

def State.reg (s : State) (page off : Nat) : Word := s.regAt page off 0

/-- A field of a register. -/
def State.rfAt (s : State) (page off idx hi lo : Nat) : Nat := fld (s.regAt page off idx) hi lo

def State.rf (s : State) (page off hi lo : Nat) : Nat := fld (s.reg page off) hi lo

def State.rb (s : State) (page off i : Nat) : Bool := bit (s.reg page off) i

def State.setRegAt (s : State) (page off idx : Nat) (v : Word) : State :=
  { s with regs := smPut resetOf (rkey page off idx) v s.regs }

def State.setReg (s : State) (page off : Nat) (v : Word) : State := s.setRegAt page off 0 v

def State.setFldAt (s : State) (page off idx hi lo v : Nat) : State :=
  s.setRegAt page off idx (putFld (s.regAt page off idx) hi lo v)

def State.setFld (s : State) (page off hi lo v : Nat) : State := s.setFldAt page off 0 hi lo v

/-- Add to a counter that saturates at 0xFFFF_FFFF. -/
def State.bumpAt (s : State) (page off idx n : Nat) : State :=
  s.setRegAt page off idx (satW ((s.regAt page off idx).toNat + n))

def State.bump (s : State) (page off : Nat) : State := s.bumpAt page off 0 1

/-- Add to a counter field [hi:lo] that saturates at its largest value. -/
def State.bumpFldAt (s : State) (page off idx hi lo n : Nat) : State :=
  s.setFldAt page off idx hi lo (min (s.rfAt page off idx hi lo + n) (2 ^ (hi + 1 - lo) - 1))

/-- The 64-bit value of a pair of registers, low word at `off` (R13). -/
def State.pairAt (s : State) (page off idx : Nat) : Nat :=
  (s.regAt page off idx).toNat + 2 ^ 32 * (s.regAt page (off + 4) idx).toNat

def State.pair (s : State) (page off : Nat) : Nat := s.pairAt page off 0

def State.setPairAt (s : State) (page off idx v : Nat) : State :=
  (s.setRegAt page off idx (loW v)).setRegAt page (off + 4) idx (hiW v)

/-- BLK_CTRL.ENABLE of a page (R17). -/
def State.enabled (s : State) (page : Nat) : Bool := s.rb page 0x008 0

/-- SYS_DEV_STATE.STATE (R30). -/
def State.dev (s : State) : Nat := s.rf 0 0x040 2 0

def devBoot : Nat := 2
def devRun : Nat := 3
def devWithdrawn : Nat := 4
def devTest : Nat := 5
def devWatch : Nat := 1

/-- The pages that stay held until the end of boot group 2 (R445). (DEDUCED: log entry 75) -/
def heldToEnd (page : Nat) : Bool := page = 6 || (50 ≤ page && page < 56)

/-- BLK_CTRL.TEST_HOLD of a page (R20): BST sets it for a run; the DDR5 controllers and the APC complex are held until
BST_STAT.PHASE leaves BOOT_TEST, in BOOT and in a WITHDRAWN entered from it (R445). (DEDUCED: log entry 75) -/
def State.testHold (s : State) (page : Nat) : Bool :=
  s.rb page 0x008 2 || (heldToEnd page && s.dev ≠ devTest && s.bst.group < 3)

/-- BLK_STAT.RESET_BUSY of a page (R19). -/
def State.resetBusy (s : State) (page : Nat) : Bool := s.rb page 0x00C 1

/-- Why a block takes no work request: it is held for test, or disabled (R17, R20). -/
def workRefusal (page : Nat) (s : State) : Option Nat :=
  if s.testHold page then some 0x03 else if s.enabled page then none else some 0x07

/-- Return every register of a page but those in `keep` to its reset value. -/
def State.clearPage (s : State) (page : Nat) (keep : Nat → Bool) : State :=
  { s with
    regs := s.regs.filter fun p => p.1 / 0x1000 % 0x100 ≠ page || keep (p.1 % 0x1000)
    heldLow := s.heldLow.filter fun p => p.1 / 0x1000 % 0x100 ≠ page
    shadow := s.shadow.filter fun p => p.1 / 0x1000 % 0x100 ≠ page
    pix := s.pix.filter fun p => p.1 / 0x1000 % 0x100 ≠ page
    latched := s.latched.filter fun p => p.1 / 0x1000 % 0x100 ≠ page
    arrived := s.arrived.filter fun k => k / 0x1000 % 0x100 ≠ page
    xq := s.xq.filter fun x => x.page ≠ page }

/-! ## LATCH registers (R6, R186) -/

/-- The value of a LATCH register in use since the last latch point. -/
def State.latchedReg (s : State) (page off : Nat) : Word := smRead resetOf (rkey page off 0) s.latched

def State.latchedFld (s : State) (page off hi lo : Nat) : Nat := fld (s.latchedReg page off) hi lo

/-! ## Responses and errors (R18) -/

/-- The answer to an access. (DESIGN CHOICE: log entry 13) -/
def State.respond (s : State) (ok : Bool) (data : Nat) : State := { s with resp := { ok, data } }

/-- Something leaves the part. (DESIGN CHOICE: log entry 13) -/
def State.emit (s : State) (e : Emit) : State := { s with outbox := s.outbox ++ [e] }

/-- Record an error on a page: the first since the last clear with its master and address, later ones in
COUNT only (R18). -/
def State.recordErr (s : State) (page code m addr : Nat) : State :=
  let w := s.reg page 0x01C
  let count := min (fld w 31 24 + 1) 255
  if fld w 31 24 = 0 then
    ((s.setReg page 0x01C (BitVec.ofNat 32 (count * 2 ^ 24 + m * 2 ^ 16 + code))).setReg page 0x020
      (loW addr)).setReg page 0x024 (BitVec.ofNat 32 (addr / 2 ^ 32 % 256))
  else s.setReg page 0x01C (putFld w 31 24 count)

/-- A work request that a block does not take is recorded on its page (R17, R20). -/
def refuseWork (page : Nat) (m : Master) (s : State) : State :=
  match workRefusal page s with
  | some c => s.recordErr page c (masterId m) 0
  | none => s

/-- The address of a register page offset (R14). -/
def pageAddr (page off : Nat) : Nat := 0xFE00000000 + page * 0x1000 + off

/-! ## Free values -/

/-- A value that the manual leaves open, and the state in which it has been used. (DESIGN CHOICE: log entry 6) -/
def State.takeFree (s : State) : Word × State := (Config.freeWord s.free, { s with free := s.free + 1 })

/-- A choice that the manual leaves open. (DESIGN CHOICE: log entry 6) -/
def State.takeBool (s : State) : Bool × State :=
  ((Config.freeWord s.free).getLsbD 0, { s with free := s.free + 1 })

/-- `n` bytes that the manual leaves open. (DESIGN CHOICE: log entry 6) -/
def State.takeBytes (n : Nat) (s : State) : List Byte × State :=
  ((List.range n).map fun i => (Config.freeWord (s.free + i)).setWidth 8, { s with free := s.free + n })

/-! ## Raw memory -/

/-- What a byte of memory that nothing has written reads as. (DESIGN CHOICE: log entry 5) -/
def memDefault (_ : Nat) : Byte := 0

/-- A byte of memory as an access finds it. (DESIGN CHOICE: log entry 5) -/
def State.rdByte (s : State) (a : Nat) : Byte :=
  if 0xF800000000 ≤ a ∧ a < 0xF800040000 then Config.bootRom (a - 0xF800000000)
  else smRead memDefault a s.mem

def State.wrByte (s : State) (a : Nat) (b : Byte) : State := { s with mem := smPut memDefault a b s.mem }

/-- `n` bytes from address `a`. -/
def State.rdBytes (s : State) (a : Nat) : Nat → List Byte
  | 0 => []
  | n + 1 => s.rdByte a :: s.rdBytes (a + 1) n

/-- Bytes stored from address `a`. -/
def State.wrBytes (s : State) (a : Nat) : List Byte → State
  | [] => s
  | b :: bs => (s.wrByte a b).wrBytes (a + 1) bs

/-- The memory keeps its canonical form. (DESIGN CHOICE: log entry 5) -/
abbrev Memory.wf (m : List Host.Cell) : Bool := smWf memDefault m

/-! ## Real time -/

/-- The timer counter of R343: 100 MHz ticks since device reset; it stands in WATCH (R30). -/
def State.timer (s : State) : Nat := (s.clk - s.pwr.asleep) / 5

/-- Real time since device reset, in nanoseconds. -/
def State.ns (s : State) : Nat := 2 * s.clk

/-- The network time in units of 2⁻¹⁶ ns, as registers and timestamps show it (R68). -/
def State.t16 (s : State) : Nat := s.tm.now / 2 ^ 24

/-! ## Device states (R30) -/

/-- The fabric and the blocks that serve its accesses run: no device reset is asserted, and the device is not in WATCH,
where TCH and VBT alone run (R30, R436). -/
def served (s : State) : Bool := !s.pwr.inReset && s.dev ≠ devWatch

/-- Every domain runs: in TEST, only BST, what it tests and what serves the debug port do (R30).
(DEDUCED: log entry 76) -/
def clocked (s : State) : Bool := served s && s.dev ≠ devTest

/-- What a command of a block that serves accesses in TEST too does. (DEDUCED: log entry 76) -/
def whenServed (s t : State) : State := if served s then t else s

/-- The pixel path runs: its domains are clocked, and a withdrawal has not frozen it (R30, R31). -/
def pixelLive (s : State) : Bool := clocked s && s.dev ≠ devWithdrawn

/-- What a command of a clocked block does: nothing while its domain stands (R30). (DEDUCED: log entry 76) -/
def whenClocked (s t : State) : State := if clocked s then t else s

/-- What a command of a block that runs in WATCH too does: nothing in a device reset or in TEST (R30, R436). -/
def whenAwake (s t : State) : State := if s.pwr.inReset || s.dev = devTest then s else t

/-- What a command of the pixel path does: nothing while it stands or is frozen (R30, R31). -/
def whenPixel (s t : State) : State := if pixelLive s then t else s

end Sys2Proof.Machine
end

