-- ==== Sys2Proof/Machine/Codes.lean ====
section
/-! DEFINITION. Check values and bit strings: the CRC-32C of R35 and R56, and lists of bits. -/

namespace Sys2Proof.Machine

/-- One bit of a reflected CRC with the reflected polynomial `poly`. -/
def crcBitR (poly c : Word) : Word := if bit c 0 then (c >>> 1) ^^^ poly else c >>> 1

def crcBitsR (poly : Word) : Nat → Word → Word
  | 0, c => c
  | n + 1, c => crcBitsR poly n (crcBitR poly c)

/-- One byte of CRC-32C (polynomial 0x1EDC_6F41, reflected). -/
def crc32cByte (c : Word) (b : Byte) : Word := crcBitsR 0x82F63B78 8 (c ^^^ b.setWidth 32)

/-- The running CRC-32C over bytes. -/
def crc32cRun (c : Word) (bs : List Byte) : Word := bs.foldl crc32cByte c

/-- CRC-32C with initial value and final XOR 0xFFFF_FFFF (R56). -/
def crc32c (bs : List Byte) : Word := ~~~ crc32cRun 0xFFFFFFFF bs

/-- Samples as R56 feeds them: zero-extended to 16 bits, least significant byte first. -/
def sampleBytes (rows : List (List Nat)) : List Byte := rows.flatten.flatMap fun v => leBytes 2 v

/-- The `n` low bits of a number, the lowest first. -/
def bitsOf (n v : Nat) : List Bool := (List.range n).map fun i => v.testBit i

/-- The number that bits spell, the first lowest. -/
def ofBits : List Bool → Nat
  | [] => 0
  | b :: bs => b2n b + 2 * ofBits bs

/-- Bits packed into bytes, bit `i` in bit `i` mod 8 of byte `i` / 8; zero fill at the end. -/
def packBits : Nat → List Bool → List Byte
  | 0, _ => []
  | n + 1, bs => BitVec.ofNat 8 (ofBits (bs.take 8)) :: packBits n (bs.drop 8)

/-- The bits of bytes, in the same order. -/
def unpackBits (bs : List Byte) : List Bool := bs.flatMap fun b => bitsOf 8 b.toNat

/-- The least number of bits that holds a value; 0 for 0. -/
def bitsNeeded (v : Nat) : Nat := if v = 0 then 0 else Nat.log2 v + 1

/-- The element of a list of lists, 0 outside. -/
def at2 (rows : List (List Nat)) (y x : Nat) : Nat := (rows.getD y []).getD x 0

end Sys2Proof.Machine
end

