-- ==== Sys2Proof/Machine/Raise.lean ====
section
/-! DEFINITION. Events: IRQ_RAW bits, the page sources of the interrupt controllers and their counters
(R17, R344, R346). -/

namespace Sys2Proof.Machine

/-- The controller that a source belongs to: ICS_SRC*n*.ASSIGN, except that a move of a source with an offer
outstanding waits for the offer (R345). (DEDUCED: log entry 65) -/
def sourceOwner (n : Nat) (s : State) : Controller :=
  match s.ic.offers.find? fun o => o.src = n with
  | some o => o.ctl
  | none => if s.rb 7 (0x800 + 4 * n) 8 then .ics else .ica

def ctlPage : Controller → Nat
  | .ica => 6
  | .ics => 7

def setCnt (src n : Nat) (s : State) : State :=
  { s with ic := { s.ic with cnt := smSet src n s.ic.cnt } }

/-- Set IRQ_RAW bits; tells whether a bit of IRQ_STATUS rises (R17, R344). -/
def setRaw (page : Nat) (mask : Word) (s : State) : Bool × State :=
  let raw := s.reg page 0x010
  let en := s.reg page 0x014
  (mask &&& en &&& ~~~ raw ≠ 0, s.setReg page 0x010 (raw ||| mask))

/-- Count an event of a source; tells whether its OVF bit goes from 0 to 1 (R346). -/
def countEvent (src : Nat) (s : State) : Bool × State :=
  let c := smAt src s.ic.cnt
  if c < 255 then (false, setCnt src (c + 1) s)
  else
    let page := ctlPage (sourceOwner src s)
    let off := 0x600 + 4 * (src / 32)
    (!s.rb page off (src % 32), s.setReg page off (s.reg page off ||| bitW (src % 32)))

/-- An event of a source. An overflow raises OVERFLOW on the owning page, whose own source counts the rise;
that source cannot overflow into a second rise of a bit already set (R346, R357). -/
def icEvent (src : Nat) (s : State) : State :=
  let page := ctlPage (sourceOwner src s)
  let (ovf, s) := countEvent src s
  if ovf then
    let (rise, s) := setRaw page 1 s
    if rise then
      let (ovf2, s) := countEvent page s
      if ovf2 then (setRaw (ctlPage (sourceOwner page s)) 1 s).2 else s
    else s
  else s

/-- The page is frozen: it holds its register contents in WITHDRAWN (R31). -/
def frozenPage (page : Nat) (s : State) : Bool := s.dev = devWithdrawn && pixelPage page

/-- What the pixel pages and the CDC pages hold now (R31). -/
def hold (s : State) : Frozen :=
  { regs := s.regs, eng := s.eng, placed := s.placed, dsp := s.dsp, buf := s.buf, ctx := s.ctx, cmp := s.cmp, grd := s.grd
    out := s.out, enc := s.enc }

/-- The state as those pages show it (R31). -/
def asHeld (s : State) : State :=
  match s.frozen with
  | none => s
  | some f =>
    { s with
      regs := f.regs, eng := f.eng, placed := f.placed, dsp := f.dsp, buf := f.buf, ctx := f.ctx, cmp := f.cmp, grd := f.grd
      out := f.out, enc := f.enc }

/-- A read of a register: a page that holds its contents answers from them, the error registers of its header apart, which
record the discarded writes (R31). -/
def heldRead (page off : Nat) (val : State → Word × State) (s : State) : Word × State :=
  if frozenPage page s && !(off = 0x01C || off = 0x020 || off = 0x024) then
    let (w, t) := val (asHeld s)
    (w, { s with shadow := t.shadow })
  else val s

/-- Raise events on a page: one event of the page source when IRQ_STATUS rises (R344). A frozen page takes none
(R31). -/
def raise (page : Nat) (mask : Word) (s : State) : State :=
  if frozenPage page s then s
  else
    let (rise, s) := setRaw page mask s
    if rise then icEvent page s else s

/-- Raise one event bit on a page. -/
def raiseBit (page i : Nat) (s : State) : State := raise page (bitW i) s

/-- IRQ_EN changes: IRQ_STATUS may rise (R344). -/
def afterIrqEn (page : Nat) (old : Word) (s : State) : State :=
  let raw := s.reg page 0x010
  if raw &&& s.reg page 0x014 &&& ~~~ old ≠ 0 then icEvent page s else s

end Sys2Proof.Machine
end

