-- ==== Sys2Proof/Machine/Fabric.lean ====
section
/-! DEFINITION. The register pages: admission of a write, windows, pairs, the crossing to the PIX domain, and
the form of every register command (R7, R13 to R24, R31). -/

namespace Sys2Proof.Machine

/-- What a page's own rules say of a write: accepted, discarded in silence, or discarded with a code. -/
inductive Verdict where
  | ok | drop | err (code : Nat)
  deriving DecidableEq, Repr

/-- The instance that a windowed register address reaches for a master (R16, R150, R303, R425, R426, R463).
(DEDUCED: log entry 24) -/
def winIdx (w : Win) (m : Master) (s : State) : Nat :=
  let id := masterId m
  match w with
  | .page => 0
  | .master => id
  | .ctx => fld (s.regAt 73 0x040 id) 6 0
  | .dspCtx => fld (s.regAt 56 0x81C id) 6 0
  | .dspBuf => fld (s.regAt 56 0x820 id) 11 0
  | .duty => fld (s.regAt 134 0x070 id) 6 0
  | .peer => fld (s.regAt 134 0x074 id) 5 0
  | .gateCtx => fld (s.regAt 134 0x078 id) 6 0
  | .part => fld (s.regAt 3 0x04C id) 4 0
  | .slot => fld (s.regAt 2 0x044 id) 7 0
  | .qp => fld (s.regAt 139 0x05C id) 3 0

/-- Whether a gate page refuses a write because it is locked (R369). -/
def gateLocked (page off : Nat) (s : State) : Bool :=
  decide (pageKind page = .gte) && s.rb page 0x040 2 && !(off = 0x060 || off = 0x010 || off = 0x014)

/-- The checks every register write passes before its page's own: RESET_BUSY, undefined offset, guard
ownership, WITHDRAWN, TEST_HOLD, a locked gate (R7, R15, R18 to R20, R31, R369). The code of the refusal.
(DEDUCED: log entry 15) -/
def admitWrite (m : Master) (page off : Nat) (v : Word) (s : State) : Option Nat :=
  if s.resetBusy page && 0x28 < off then some 0x05
  else
    match findRow page off with
    | none => some 0x01
    | some r =>
      if (guardPage page || r.guard) && !isGuard m then some 0x02
      else if pixelPage page && s.dev = devWithdrawn then some 0x06
      else if s.testHold page && (0x40 ≤ off || (off = 0x008 && bit v 1)) then some 0x03
      else if gateLocked page off s then some 0x43
      else none

/-- The checks of a read: RESET_BUSY and undefined offset (R15, R18). -/
def admitRead (page off : Nat) (s : State) : Option Nat :=
  if s.resetBusy page && 0x28 < off then some 0x05
  else if (findRow page off).isNone then some 0x01
  else none

/-- Refuse a register access: the page records the code, and the master gets an error response; for a
block-specific code whether the response is an error is left open (Config.codeErrors). (DESIGN CHOICE: log entry 7) -/
def refuse (m : Master) (page off code : Nat) (s : State) : State :=
  (s.recordErr page code (masterId m) (pageAddr page off)).respond
    (decide (0x40 ≤ code) && !Config.codeErrors page code) 0

/-! ## The crossing to the PIX domain (R22 to R24) -/

/-- A write that has crossed is present in PIX; the arrival of a pair is kept until the next latch point (R187). -/
def arrive (x : Xw) (s : State) : State :=
  let s := { s with pix := x.words.foldl (fun p w => smPut resetOf w.1 w.2 p) s.pix }
  match x.words with
  | (k, _) :: _ :: _ => { s with arrived := k :: s.arrived.filter (· ≠ k) }
  | _ => s

/-- Drain the first entry of a page's crossing queue. -/
def drainOne (page : Nat) (s : State) : State :=
  match s.xq.find? fun x => x.page = page with
  | none => s
  | some x => arrive x { s with xq := s.xq.eraseP fun y => decide (y.page = page) }

def drainN (page : Nat) : Nat → State → State
  | 0, s => s
  | n + 1, s => drainN page n (drainOne page s)

/-- A LATCH write enters the crossing queue of its page; with 16 entries waiting, the oldest drains first
(R23). (DESIGN CHOICE, DEDUCED: log entries 14, 23) -/
def cross (page m : Nat) (words : List (Nat × Word)) (s : State) : State :=
  let s := if 16 ≤ (s.xq.filter fun x => x.page = page).length then drainOne page s else s
  { s with xq := s.xq ++ [{ page, m, words, clk := s.clk }] }

/-- A read by a master waits until its earlier writes to the page have crossed (R24): the queue drains through
that master's last entry. (DEDUCED: log entry 23) -/
def drainFor (page m : Nat) (s : State) : State :=
  let q := s.xq.filter fun x => x.page = page
  let behind := (q.reverse.takeWhile fun x => x.m ≠ m).length
  drainN page (q.length - behind) s

/-! ## Storing a value (R6, R13) -/

/-- The value that a write of `v` leaves in a register of row `r` that held `old` (R6). -/
def RegRow.merge (r : RegRow) (old v : Word) : Word :=
  (((old &&& ~~~ r.rw) ||| (v &&& r.rw)) &&& ~~~ (v &&& r.w1c)) ||| (v &&& r.w1s)

/-- The whole crossing queue of a page drains. (DEDUCED: log entry 23) -/
def drainAll (page : Nat) (s : State) : State := drainN page (s.xq.filter fun x => x.page = page).length s

/-- Words that entered the register file go on their way to the block's domain. LATCH fields wait in the
crossing queue; any other value takes effect within the command, behind every write that the queue holds, so no
write of the page is overtaken (R23, R24). (DEDUCED: log entry 23) -/
def crossIf (r : RegRow) (page m : Nat) (words : List (Nat × Word)) (s : State) : State :=
  if r.latch then cross page m words s else drainAll page s

/-- A write that has been accepted enters the register file: a low word of a pair is held, a high word takes
effect together with the held low word (R13). (DEDUCED: log entry 16) -/
def storeReg (m : Master) (page off : Nat) (v : Word) (s : State) : State :=
  match findRow page off with
  | none => s
  | some r =>
    let p := canonPage page off
    let idx := winIdx r.win m s
    let id := masterId m
    match r.pair with
    | .single =>
      let w := r.merge (s.regAt p off idx) v
      crossIf r p id [(rkey p off idx, w)] (s.setRegAt p off idx w)
    | .low =>
      if r.rw = 0 then s
      else { s with heldLow := smInsert (rkey p off idx) (v &&& r.rw) s.heldLow }
    | .high =>
      if r.rw = 0 then s
      else
        let kl := rkey p (off - 4) idx
        let low := (smGet kl s.heldLow).getD (s.regAt p (off - 4) idx)
        let high := r.merge (s.regAt p off idx) v
        let s := { s with heldLow := smErase kl s.heldLow }
        crossIf r p id [(kl, low), (rkey p off idx, high)]
          ((s.setRegAt p (off - 4) idx low).setRegAt p off idx high)

/-- The low word that a write of the high word of a pair would commit. (DEDUCED: log entry 16) -/
def heldOf (page off idx : Nat) (s : State) : Word :=
  (smGet (rkey page off idx) s.heldLow).getD (s.regAt page off idx)

/-- Every register write: admission, the page's own check, then the value enters the register file and takes
effect. (DESIGN CHOICE, DEDUCED: log entries 12, 15, 16) -/
def regCommand (m : Master) (page off : Nat) (v : Word) (check : State → Verdict)
    (eff : State → State) (s : State) : State :=
  match admitWrite m page off v s with
  | some c => refuse m page off c s
  | none =>
    match check s with
    | .err c => refuse m page off c s
    | .drop => s.respond true 0
    | .ok => (eff (storeReg m page off v s)).respond true 0

/-- A check that accepts every value. -/
def noCheck (_ : State) : Verdict := .ok

/-- Every register read: admission, the wait of R24, which a refused read makes too, then the value and its side effects.
(DESIGN CHOICE: log entry 12) -/
def readCommand (m : Master) (page off : Nat) (val : State → Word × State) (s : State) : State :=
  let d := drainFor (canonPage page off) (masterId m) s
  match admitRead page off s with
  | some c => (d.recordErr page c (masterId m) (pageAddr page off)).respond false 0
  | none =>
    let (w, s) := val d
    s.respond true w.toNat

/-- The key of a master's shadow of a register. -/
def shadowKey (m key : Nat) : Nat := m * 2 ^ 36 + key

def setShadow (m : Master) (page off idx : Nat) (v : Word) (s : State) : State :=
  { s with shadow := smInsert (shadowKey (masterId m) (rkey page off idx)) v s.shadow }

/-- A read through a shadow: the master's next read returns what was captured, later ones the live value
(R13). (DEDUCED: log entry 16) -/
def readShadow (m : Master) (page off idx : Nat) (live : Word) (s : State) : Word × State :=
  let k := shadowKey (masterId m) (rkey page off idx)
  match smGet k s.shadow with
  | some v => (v, { s with shadow := smErase k s.shadow })
  | none => (live, s)

/-- Put words into a master's shadows of consecutive registers. -/
def setShadows (m : Master) (page : Nat) : Nat → List Word → State → State
  | _, [], s => s
  | off, w :: ws, s => setShadows m page (off + 4) ws (setShadow m page off 0 w s)

/-- A shadow that is kept after it is read; 0 when nothing was captured (R71, R87, R96). -/
def keptShadow (m : Master) (page off : Nat) (s : State) : Word :=
  (smGet (shadowKey (masterId m) (rkey page off 0)) s.shadow).getD 0

end Sys2Proof.Machine
end

