-- ==== Sys2Proof/Machine/Gates.lean ====
section
/-! DEFINITION. The access gates: which gate stands before a master, and how it judges an access (R358 to
R369), with the commands of the gate pages. -/

namespace Sys2Proof.Machine

/-- The gate in front of a master; the migration engine has none (R358). -/
def gateOf : Master → Option Nat
  | .apc k => some k.val
  | .gp g => some (8 + g.val)
  | .cdc n => some (10 + n.val / 8)
  | .cmp n => some (12 + n.val / 8)
  | .grd n => some (14 + n.val / 8)
  | .ing => some 16
  | .dpi _ => some 17
  | .enc => some 18
  | .ng p => some (19 + p.val)
  | .dma e => some (22 + e.val)
  | .pci => some 24
  | .mge => some 25
  | .eth p => some (26 + p.val)
  | .kib => some 28
  | .tch => some 29
  | .bst => some 30
  | .debug => some 31
  | .mig => none

/-- The PRIV of masters whose accesses always carry the same (R358); APC, GP and DMA accesses bring theirs. -/
def fixedPriv (m : Master) (priv : Bool) : Bool :=
  match m with
  | .apc _ | .gp _ | .dma _ => priv
  | .pci => false
  | _ => true

def AccKind.code : AccKind → Nat
  | .read => 0 | .write => 1 | .fetch => 2 | .atomic => 3

/-- The ranges of R10. -/
inductive Region where
  | dram | sram | mram | rom | regs | unmapped
  deriving DecidableEq, Repr

def region (a : Nat) : Region :=
  if a < 0xC000000000 then .dram
  else if 0xF000000000 ≤ a ∧ a < 0xF001800000 then .sram
  else if 0xF100000000 ≤ a ∧ a < 0xF100400000 then .mram
  else if 0xF800000000 ≤ a ∧ a < 0xF800040000 then .rom
  else if 0xFE00000000 ≤ a ∧ a < 0xFE0008D000 then .regs
  else .unmapped

/-- An access divided at the 4 KiB page boundaries it crosses (R364): address and length of each part. -/
def splitPages : Nat → Nat → Nat → List (Nat × Nat)
  | 0, _, _ => []
  | fuel + 1, a, len =>
    if len = 0 then []
    else
      let room := 0x1000 - a % 0x1000
      if len ≤ room then [(a, len)] else (a, room) :: splitPages fuel (a + room) (len - room)

/-- The 4 KiB parts of an access (R363, R364). -/
def parts (a len : Nat) : List (Nat × Nat) := splitPages (len / 0x1000 + 2) a len

/-- The enabled region of a gate that holds a page (R360). -/
def gateRegion (g page : Nat) (s : State) : Option Nat :=
  (List.range 16).find? fun r =>
    s.rb (8 + g) (0x108 + 0x10 * r) 0
      && s.rf (8 + g) (0x100 + 0x10 * r) 27 0 ≤ page && page ≤ s.rf (8 + g) (0x104 + 0x10 * r) 27 0

/-- The permission bits of R360. -/
def regionAllows (ctrl : Word) (kind : AccKind) (priv : Bool) : Bool :=
  let rd := bit ctrl (if priv then 2 else 4)
  let wr := bit ctrl (if priv then 3 else 5)
  match kind with
  | .read => rd
  | .write => wr
  | .fetch => rd && bit ctrl 6
  | .atomic => rd && wr

/-- The default map of R363. -/
def defaultMap (a : Nat) (kind : AccKind) : Bool :=
  match region a, kind with
  | .mram, .fetch | .mram, .atomic | .rom, .write | .rom, .atomic | .regs, .fetch | .regs, .atomic => false
  | _, _ => true

/-- How a gate judges a part: none admitted, else the reason of R368; with the region of the part. -/
def judgePart (g a : Nat) (kind : AccKind) (priv : Bool) (s : State) : Option Nat × Nat :=
  match gateRegion g (a / 0x1000) s with
  | some r =>
    (if regionAllows (s.reg (8 + g) (0x108 + 0x10 * r)) kind priv then none else some 0x2, r)
  | none =>
    if !priv then (some 0x1, 0x1F)
    else if s.rb (8 + g) 0x040 1 && defaultMap a kind then (none, 0x1F)
    else (some 0x3, 0x1F)

/-- Record a fault on the gate's page (R368). -/
def gateFault (g : Nat) (m : Master) (a reg reason : Nat) (kind : AccKind) (priv whole : Bool)
    (s : State) : State :=
  let page := 8 + g
  let s := raiseBit page 0 (s.bump page 0x05C)
  if s.rb page 0x050 31 then s
  else
    let info := 2 ^ 31 + masterId m * 2 ^ 16 + reg * 2 ^ 8 + b2n priv * 2 ^ 7 + kind.code * 2 ^ 5
      + b2n whole * 2 ^ 4 + reason
    ((s.setReg page 0x050 (BitVec.ofNat 32 info)).setReg page 0x054 (loW a)).setReg page 0x058
      (BitVec.ofNat 32 (a / 2 ^ 32 % 256))

/-- The check of an access at issue (R359 to R365). -/
def gateCheck (m : Master) (priv : Bool) (kind : AccKind) (a len : Nat) (s : State) : Judged × State :=
  let ps := parts a len
  match gateOf m with
  | none => (⟨ps, false⟩, s)
  | some g =>
    if !s.enabled (8 + g) then (⟨ps, false⟩, s)
    else if kind = .atomic ∧ 1 < ps.length then
      let reg := (gateRegion g (a / 0x1000) s).getD 0x1F
      (⟨[], true⟩, gateFault g m a reg 0x4 kind priv false s)
    else
      let bad := ps.filterMap fun p =>
        match judgePart g p.1 kind priv s with
        | (some reason, r) => some (p.1, r, reason)
        | (none, _) => none
      match bad with
      | [] => (⟨ps, false⟩, s)
      | (fa, r, reason) :: _ =>
        let bromotia := s.rb (8 + g) 0x040 0
        let good := ps.filter fun p => (judgePart g p.1 kind priv s).1.isNone
        (⟨if bromotia then [] else good, true⟩, gateFault g m fa r reason kind priv bromotia s)

/-! ## Issue and the report of an error response (R30, R340 to R342, R359, R469) -/

/-- The level at which debug is unlocked: none after three failed responses (R469). (DEDUCED: log entry 87) -/
def debugLevel (s : State) : Nat := if s.rf 140 0x384 3 2 = 3 then 0 else s.rf 140 0x384 1 0

/-- Some debug level is unlocked (R469). (PRESUMED: log entry 21) -/
def debugUnlocked (s : State) : Bool := debugLevel s ≠ 0

/-- The guard processors leave reset at the end of boot group 1, and run until a mismatch stops the pair (R342, R411).
(PRESUMED: log entry 21) -/
def gpRuns (g : Nat) (s : State) : Bool := 2 ≤ s.bst.group && !s.ic.stopped.contains g

/-- APC*k* has been released (R449). (PRESUMED: log entry 21) -/
def apcRuns (k : Nat) (s : State) : Bool := s.rb 0 0x044 (8 + k)

/-- A debugger has APC*k* halted, for which debug must be unlocked to level 2 (R469). -/
def apcHalted (k : Fin 8) (s : State) : Bool := s.jtag.halted.contains k && 2 ≤ debugLevel s

/-- The page whose ENABLE lets a block issue accesses (R9, R17). (PRESUMED: log entry 21) -/
def masterPage : Master → Option Nat
  | .cdc n => some (56 + n.val)
  | .cmp n => some (82 + n.val)
  | .grd n => some (98 + n.val)
  | .ing => some 72
  | .dpi n => some (74 + n.val)
  | .enc => some 130
  | .ng p => some (131 + p.val)
  | .dma e => some (40 + e.val)
  | .pci => some 139
  | .mge => some 140
  | .eth p => some (135 + p.val)
  | .kib => some 134
  | .apc _ | .gp _ | .mig | .tch | .bst | .debug => none

/-- The master issues accesses: its domain is clocked, its block is enabled, a processor runs and is not halted, and debug access is
unlocked; in TEST only BST and the debug port do (R17, R30, R342, R411, R449, R469). (PRESUMED: log entry 21) -/
def mayIssue (m : Master) (s : State) : Bool :=
  match m with
  | .gp g => clocked s && gpRuns g.val s
  | .apc k => clocked s && apcRuns k.val s && !apcHalted k s
  | .debug => served s && debugUnlocked s
  | .bst => served s
  | _ => clocked s && (masterPage m).all s.enabled

/-- The bytes an access has. -/
def accLen : Access → Nat
  | .read n | .fetch n => n
  | .write d | .atomic _ d | .writeBack d _ => d.length

/-- Stores of an APC that the fabric answers before they complete (R338). (PRESUMED: log entry 21) -/
def postedAt (a : Nat) : Bool := region a = .dram || region a = .sram

/-- A posted store or a write-back of APC*k* has failed (R340). (PRESUMED: log entry 21) -/
def busErr (k addr : Nat) (s : State) : State :=
  icEvent (202 + k) ((s.setReg 6 (0x110 + 0x20 * k) (loW addr)).setReg 6 (0x114 + 0x20 * k)
    (BitVec.ofNat 32 (addr / 2 ^ 32 % 256)))

/-- mcause of an access fault. (PRESUMED: log entry 21) -/
def faultCause : AccKind → Nat
  | .fetch => 1
  | .read => 5
  | .write | .atomic => 7

/-- A read of the host that the fabric answers with an error is logged by AER, the first one until the log is cleared (R455).
(DEDUCED: log entry 84) -/
def aerLog (addr : Nat) (s : State) : State :=
  { s with pci := { s.pci with aer := s.pci.aer.orElse fun _ => some addr } }

/-- A master is told of the error response to its access: a posted store of an APC by BUSERR, every other access of a
processor by a precise exception; the host's read ends in a Completer Abort (R340, R341, R455).
(PRESUMED: log entry 21) -/
def reportErr (m : Master) (kind : AccKind) (a : Nat) (s : State) : State :=
  match m with
  | .apc k => if kind = .write && postedAt a then busErr k.val a s else s.emit (.exception (.apc k) (faultCause kind) a)
  | .gp g => s.emit (.exception (.gp g) (faultCause kind) a)
  | .pci => if kind = .read then aerLog a s else s
  | _ => s

/-- The response of an access has been given: one in error is reported. -/
def reported (m : Master) (kind : AccKind) (a : Nat) (s : State) : State :=
  if s.resp.ok then s else reportErr m kind a s

/-! ### Masters whose responses return in issue order (R28, R341) -/

/-- The masters whose responses return in issue order (R28). -/
def keepsOrder : Master → Bool
  | .apc _ | .cdc _ | .cmp _ | .ing | .dpi _ | .ng _ | .dma _ | .pci => false
  | _ => true

/-- An access of a master issued before the place `pos` has not completed. -/
def outstanding (m : Master) (pos : Nat) (s : State) : Bool := s.inflight.any fun x => x.m = m && x.id < pos

/-- A response takes its place among those that wait. -/
def putLate (l : Late) : List Late → List Late
  | [] => [l]
  | x :: xs => if l.pos < x.pos then l :: x :: xs else x :: putLate l xs

/-- The target has answered the access at the place `pos`: its master has the response, unless it must have those of
earlier accesses first (R28, R341): then `was` is still the last one given. (DESIGN CHOICE: log entry 14) -/
def delivered (was : Resp) (pos : Nat) (m : Master) (kind : AccKind) (a : Nat) (s : State) : State :=
  if keepsOrder m && outstanding m pos s then
    { s with late := putLate { m, kind, addr := a, pos, resp := s.resp } s.late, resp := was }
  else reported m kind a s

/-- A response that waited is given. -/
def giveLate (s : State) (l : Late) : State :=
  reported l.m l.kind l.addr ({ s with resp := l.resp }.emit (.response l.m l.resp.ok l.resp.data))

/-- An access of a master has completed: the responses that no earlier access holds back any more follow (R28). -/
def releaseLate (m : Master) (s : State) : State :=
  let due := s.late.filter fun l => l.m = m && !outstanding m l.pos s
  due.foldl giveLate { s with late := s.late.filter fun l => !due.contains l }

/-- An access that was in flight has its response (R28). -/
def landed (was : Resp) (id : Nat) (m : Master) (kind : AccKind) (a : Nat) (s : State) : State :=
  releaseLate m (delivered was id m kind a s)

/-- An access is answered at once. -/
def answer (m : Master) (kind : AccKind) (a : Nat) (ok : Bool) (data : Nat) (s : State) : State :=
  delivered s.resp s.accId m kind a (s.respond ok data)

/-- The accesses of a master that have gone into flight between two states. -/
def flown (m : Master) (s t : State) : List Nat :=
  (t.inflight.filter fun x => x.m = m && s.accId ≤ x.id && !s.inflight.contains x).map (·.id)

/-- `f` carries an access out: it is answered, unless it stays in flight (R367). -/
def settled (m : Master) (kind : AccKind) (a : Nat) (f : State → State) (s : State) : State :=
  let t := f s
  if flown m s t ≠ [] then t else delivered s.resp s.accId m kind a t

/-- An access stays in flight until `left` parts of it have completed. -/
def enterFlight (m : Master) (read : Bool) (a left : Nat) (ok : Bool) (s : State) : State :=
  { s with
    inflight := s.inflight ++ [{ id := s.accId, gate := (gateOf m).getD 32, m, addr := a, read, left, ok }]
    accId := s.accId + 1 }

/-- An access is in flight no more. -/
def leaveFlight (id : Nat) (s : State) : State := { s with inflight := s.inflight.filter fun x => x.id ≠ id }

/-- A master that issues no access: a debugger finds debug access locked, any other makes none (R469).
(PRESUMED: log entry 21) -/
def notIssued (m : Master) (s : State) : State := if m = .debug then s.respond false 0 else s

/-- An access of a master, carried out by `f` where its gate admits every part of it; an error response is reported, but
none has been given yet to an access that stays in flight (R30, R340, R341, R359, R367).
(DESIGN CHOICE: log entry 12) -/
def issueAt (m : Master) (priv : Bool) (kind : AccKind) (a len : Nat) (f : State → State) (s : State) : State :=
  if !mayIssue m s then notIssued m s
  else
    let (j, s) := gateCheck m (fixedPriv m priv) kind a len s
    if j.faulted then answer m kind a false 0 s else settled m kind a f s

/-- An access of a command that names a register: the master's gate judges it as it judges any access, with PRIV 1 for a
processor or a DMA channel (R359, R369). (DESIGN CHOICE: log entry 12) -/
def issue (m : Master) (kind : AccKind) (page off : Nat) (f : State → State) (s : State) : State :=
  issueAt m true kind (pageAddr page off) 4 f s

/-- An access is issued and every part of it admitted. -/
def reachesAt (m : Master) (priv : Bool) (kind : AccKind) (a len : Nat) (s : State) : Bool :=
  mayIssue m s && !(gateCheck m (fixedPriv m priv) kind a len s).1.faulted

/-- The access of a command that names a register reaches its page. -/
def reaches (m : Master) (kind : AccKind) (page off : Nat) (s : State) : Bool :=
  reachesAt m true kind (pageAddr page off) 4 s

/-! ## The gate pages (R361, R362, R367 to R371) -/

/-- GTE_STAT: the enabled regions, and the region of the latest refused enable (R370). -/
def gteStat (page : Nat) (s : State) : Word :=
  let en := (List.range 16).foldl (fun n r => n + b2n (s.rb page (0x108 + 0x10 * r) 0) * 2 ^ r) 0
  BitVec.ofNat 32 (s.rf page 0x04C 19 16 * 2 ^ 16 + en)

/-- Whether enabling region `r` is refused: bounds reversed, or a page shared with an enabled region (R361). -/
def regionClash (page r : Nat) (s : State) : Bool :=
  let b := s.rf page (0x100 + 0x10 * r) 27 0
  let l := s.rf page (0x104 + 0x10 * r) 27 0
  l < b || (List.range 16).any fun q =>
    q ≠ r && s.rb page (0x108 + 0x10 * q) 0
      && s.rf page (0x100 + 0x10 * q) 27 0 ≤ l && b ≤ s.rf page (0x104 + 0x10 * q) 27 0

/-- The reserved bits of a register of a page, for the chapters that refuse a 1 written to them. -/
def reservedSet (page off : Nat) (v : Word) : Bool :=
  match findRow page off with
  | some r => v &&& r.resv ≠ 0
  | none => false

/-- The gate page's check of a write (R361, R362, R371). -/
def gteCheck (page off : Nat) (v : Word) (s : State) : Verdict :=
  if 0x40 ≤ off && reservedSet page off v then .err 0x42
  else if 0x100 ≤ off then
    let r := (off - 0x100) / 0x10
    let en := s.rb page (0x108 + 0x10 * r) 0
    if (off % 0x10 = 0 || off % 0x10 = 4) && en then .err 0x40
    else if off % 0x10 = 8 && bit v 0 && !en && regionClash page r s then .err 0x41
    else .ok
  else .ok

/-- What a refused enable leaves besides its code: GATE_CFG_ERR and CFG_REGION (R361). -/
def gteRefused (page off : Nat) (v : Word) (s : State) : State :=
  if gteCheck page off v s = .err 0x41 then
    raiseBit page 1 (s.setFld page 0x04C 19 16 ((off - 0x100) / 0x10))
  else s

/-- The effect of an accepted write: GTE_FAULT_CLR (R368). -/
def gteEffect (page off : Nat) (v : Word) (s : State) : State :=
  if off = 0x060 && bit v 0 then
    let s := (s.setReg page 0x054 0).setReg page 0x058 0
    s.setReg page 0x050 (resetOf (rkey page 0x050 0))
  else s

/-- A write to a register of a gate page. -/
def gteWrite (m : Master) (page off : Nat) (v : Word) (s : State) : State :=
  match admitWrite m page off v s with
  | some _ => regCommand m page off v (gteCheck page off v) (gteEffect page off v) s
  | none => regCommand m page off v (gteCheck page off v) (gteEffect page off v) (gteRefused page off v s)

/-- REGION_ENABLE: a write of GTE_RGN_CTRL*r* (R361). -/
def execRegionEnable (m : Master) (g : Fin 32) (r : Fin 16) (ctrl : Word) (s : State) :
    Host.Outcome State Fault Refusal :=
  .next (issue m .write (8 + g.val) (0x108 + 0x10 * r.val) (gteWrite m (8 + g.val) (0x108 + 0x10 * r.val) ctrl) s)

/-- GATE_LOCK: a write of 1 to GTE_CTRL.LOCK, the other bits as they are (R369). -/
def execGateLock (m : Master) (g : Fin 32) (s : State) : Host.Outcome State Fault Refusal :=
  .next (issue m .write (8 + g.val) 0x040 (fun s => gteWrite m (8 + g.val) 0x040 (s.reg (8 + g.val) 0x040 ||| 4) s) s)

/-- GATE_FAULT_CLEAR: a write of 1 to GTE_FAULT_CLR.CLEAR (R368). -/
def execGateFaultClear (m : Master) (g : Fin 32) (s : State) : Host.Outcome State Fault Refusal :=
  .next (issue m .write (8 + g.val) 0x060 (gteWrite m (8 + g.val) 0x060 1) s)

/-- The accesses that gate `g` has admitted and that have not completed (R367). -/
def gateInflight (g : Nat) (s : State) : List Nat := (s.inflight.filter fun x => x.gate = g).map (·.id)

/-- A read of GTE_DRAIN that the master's own gate has admitted waits at the page for the accesses admitted before it; it
is itself an access of that gate. `wide` when it also takes GTE_STAT (R367). -/
def drainAt (m : Master) (g a : Nat) (wide : Bool) (s : State) : State :=
  match admitRead (8 + g) 0x048 s with
  | some c => (s.recordErr (8 + g) c (masterId m) (pageAddr (8 + g) 0x048)).respond false 0
  | none =>
    let ids := gateInflight g s
    enterFlight m true a 1 true { s with
      drains := s.drains ++ [{ gate := g, m, id := s.accId, ids, waited := min ids.length 65535, wide }] }

/-- GATE_DRAIN_READ: the read waits for the accesses admitted before it (R367). -/
def execGateDrainRead (m : Master) (g : Fin 32) (s : State) : Host.Outcome State Fault Refusal :=
  .next (issue m .read (8 + g.val) 0x048 (drainAt m g.val (pageAddr (8 + g.val) 0x048) false) s)

/-- Accesses have all completed. -/
def allDone (ids : List Nat) (s : State) : Bool := ids.all fun i => s.inflight.all fun x => x.id ≠ i

/-- A waiting read whose accesses have all completed. -/
def drainReady (s : State) (d : Drain) : Bool := allDone d.ids s

/-- A waiting read of GTE_DRAIN is answered (R367). -/
def drainAnswer (d : Drain) (s : State) : State :=
  let s := s.setFld (8 + d.gate) 0x048 15 0 d.waited
  let high := if d.wide then (gteStat (8 + d.gate) s).toNat else 0
  landed s.resp d.id d.m .read (pageAddr (8 + d.gate) 0x048)
    ((leaveFlight d.id { s with drains := s.drains.erase d }).respond true (d.waited + 2 ^ 32 * high))

/-- GATE_DRAIN_ANSWER: the oldest waiting read of the gate is answered once every access it waits for has
completed (R367). (DESIGN CHOICE: log entry 14) -/
def execGateDrainAnswer (g : Fin 32) (s : State) : Host.Outcome State Fault Refusal :=
  .next (whenServed s (match s.drains.find? fun d => d.gate = g.val && drainReady s d with
    | none => s
    | some d => drainAnswer d s))

end Sys2Proof.Machine
end

