-- ==== Sys2Proof/Machine/Bus.lean ====
section
/-! DEFINITION. What the targets of the fabric do with an admitted access: DRAM with its poisoned lines and
the record region, system SRAM, MRAM, boot ROM, unmapped ranges (R10, R11, R36, R307, R315, R318, R432). -/

namespace Sys2Proof.Machine

/-! ## DRAM -/

/-- The channel of a physical address (R308). -/
def channelOf (a : Nat) : Nat := a / 0x100 % 6

/-- The rank size in bytes that DMC_GEOM gives (R306). -/
def rankSize (geom : Word) : Nat := if bit geom 1 || !bit geom 0 then 0x800000000 else 0x400000000

/-- Ranks in service per channel: the fitted ranks less the spare (R307). -/
def ranksInService (geom : Word) : Nat := fld geom 4 3 + 1 - b2n (bit geom 7)

/-- Whether all six channels serve with identical geometry (R307). -/
def dramServed (s : State) : Bool :=
  (List.range 6).all fun n =>
    let st := s.rf (50 + n) 0x044 2 0
    (st = 2 || st = 4) && s.reg (50 + n) 0x048 = s.reg 50 0x048

/-- The first address above the DRAM that answers: the smaller of SYS_DRAM_TOP and 6 × R × S; 0 while DRAM is
not mapped (R10, R307). -/
def dramTop (s : State) : Nat :=
  if dramServed s then
    min (s.rf 0 0x048 9 0 * 2 ^ 30) (6 * ranksInService (s.reg 50 0x048) * rankSize (s.reg 50 0x048))
  else 0

/-- The record region (R36): first address and size in bytes. -/
def recBase (s : State) : Nat := s.pair 73 0x1F0
def recSize (s : State) : Nat := s.rf 73 0x1F8 15 0 * 0x100000

def inRecRegion (a len : Nat) (s : State) : Bool :=
  recBase s ≤ a && a + len ≤ recBase s + recSize s

/-- The masters that may write the record region (R36). -/
def mayWriteRec : Master → Bool
  | .cdc _ | .dpi _ | .ng _ | .gp _ | .mig => true
  | _ => false

def lineOf (a : Nat) : Nat := a / 64 * 64

/-- The lines that `len` bytes from `a` touch. -/
def linesOf (a len : Nat) : List Nat :=
  (List.range ((a % 64 + len + 63) / 64)).map fun i => lineOf a + 64 * i

def poisoned (line : Nat) (s : State) : Bool := s.poison.contains line

/-- Record a read of a poisoned line on the page of its channel (R318). -/
def poisonRead (m : Master) (line : Nat) (s : State) : State :=
  s.recordErr (50 + channelOf line) 0x44 (masterId m) line

/-- The channel of a line is held for test (R20). -/
def lineHeld (line : Nat) (s : State) : Bool := s.testHold (50 + channelOf line)

/-- Record a request to a channel that is held for test (R20). -/
def heldErr (m : Master) (line a : Nat) (s : State) : State :=
  s.recordErr (50 + channelOf line) 0x03 (masterId m) a

/-- Read DRAM: lines of a channel held for test and poisoned lines return zeros with an error (R20, R318). -/
def dramReadPart (m : Master) (a len : Nat) (s : State) : Bool × List Byte × State :=
  let bad := (linesOf a len).filter fun l => lineHeld l s || poisoned l s
  let data := (s.rdBytes a len).zipIdx.map fun p => if bad.contains (lineOf (a + p.2)) then 0 else p.1
  (bad.isEmpty, data, bad.foldl (fun s l => if lineHeld l s then heldErr m l (max a l) s else poisonRead m l s) s)

/-- A write by another master ends the reservations it touches. (DEDUCED: log entry 66) -/
def breakResv (m a len : Nat) (s : State) : State :=
  { s with resv := s.resv.filter fun r => r.m = m || r.addr + r.len ≤ a || a + len ≤ r.addr }

/-- Write DRAM line by line: a channel held for test refuses its lines (R20); a whole line clears poison; a
partial write of a poisoned line is not made (R315, R318); the record region refuses other masters (R36).
(DESIGN CHOICE: log entry 113) -/
def dramWriteLines (m : Master) : List (Nat × List Byte) → State → Bool × State
  | [], s => (true, s)
  | (a, bs) :: rest, s =>
    let line := lineOf a
    let hit := 0 < recSize s && recBase s ≤ line && line < recBase s + recSize s
    if lineHeld line s then
      (false, (dramWriteLines m rest (heldErr m line a s)).2)
    else if hit && !mayWriteRec m then
      let s := raiseBit 73 1 (s.recordErr 73 0x47 (masterId m) a)
      (false, (dramWriteLines m rest s).2)
    else if poisoned line s && bs.length < 64 then
      (false, (dramWriteLines m rest (poisonRead m line s)).2)
    else
      let s := { s with poison := s.poison.filter fun l => l ≠ line }
      dramWriteLines m rest (breakResv (masterId m) a bs.length (s.wrBytes a bs))

/-- Cut bytes into the pieces that lie in blocks of `n` bytes. -/
def cutBlocks (n : Nat) : Nat → Nat → List Byte → List (Nat × List Byte)
  | 0, _, _ => []
  | fuel + 1, a, bs =>
    if bs.isEmpty then []
    else
      let k := n - a % n
      (a, bs.take k) :: cutBlocks n fuel (a + k) (bs.drop k)

def cutLines (a : Nat) (bs : List Byte) : List (Nat × List Byte) := cutBlocks 64 (bs.length / 64 + 2) a bs

/-! ## MRAM (R432 to R434) -/

def mramBase : Nat := 0xF100000000

/-- A read of an MRAM word that meets a double-bit error: no data, and the error on the MRM page (R432). -/
def mramDouble (m : Master) (w : Nat) (s : State) : Bool × List Byte × State :=
  let s := (s.bump 4 0x048).setReg 4 0x04C (BitVec.ofNat 32 (8 * w))
  (false, List.replicate 8 0, raiseBit 4 1 (s.recordErr 4 0x40 (masterId m) (mramBase + 8 * w)))

/-- A read of the array at one MRAM word: its bytes, or a double-bit error. A word cut in its store holds any
value or such an error (R434). (DEDUCED: log entry 83) -/
def mramArray (m : Master) (w : Nat) (s : State) : Bool × List Byte × State :=
  let (dbl, s) := if s.mrm.cut.contains w then s.takeBool else (s.mrm.bad.contains w, s)
  if dbl then mramDouble m w s
  else if s.mrm.cut.contains w then
    let (lo, s) := s.takeFree
    let (hi, s) := s.takeFree
    (true, leBytes 4 lo.toNat ++ leBytes 4 hi.toNat, s)
  else (true, s.rdBytes (mramBase + 8 * w) 8, s)

/-- The stores of every write issued, in arrival order (R432). (DEDUCED: log entry 83) -/
def mramStores (s : State) : List MramStore := s.mrm.queue ++ s.mrm.withheld

/-- Withheld stores enter the queue while fewer than eight wait there (R432). (DEDUCED: log entry 83) -/
def fillQueue (t : MrmSt) : MrmSt :=
  let n := 8 - (t.queue.filter fun st => st.begun.isNone).length
  { t with queue := t.queue ++ t.withheld.take n, withheld := t.withheld.drop n }

/-- How many of the stores issued a read of word `w` by a master waits for: all through that master's last store to the
same 64-byte block (R29). -/
def storesAhead (m : Master) (w : Nat) (s : State) : Nat :=
  let q := mramStores s
  q.length - (q.reverse.takeWhile fun st => !(st.m = m && st.ofs / 64 = w / 8)).length

/-- The stores that a read of word `w` by a master waits for, as far as they touch the word (R29).
(DESIGN CHOICE, DEDUCED: log entries 14, 83) -/
def storesBefore (m : Master) (w : Nat) (s : State) : List MramStore :=
  ((mramStores s).take (storesAhead m w s)).filter fun st => st.ofs / 8 = w

/-- What the stores that wait leave of a word: a whole word replaces it, a part is merged into what can be read. Nothing
can be read where the stored word was found in double-bit error. -/
def mergeStores (w : Nat) : List MramStore → Option (List Byte) → Option (List Byte)
  | [], old => old
  | st :: rest, old =>
    let o := st.ofs % 8
    mergeStores w rest (if st.spoilt then none else if st.data.length = 8 then some st.data
      else old.map fun d => d.take o ++ st.data ++ d.drop (o + st.data.length))

/-- A read of one MRAM word by a master: it completes after that master's earlier stores to the same 64-byte
block and returns what they leave (R29, R432). (DESIGN CHOICE, DEDUCED: log entries 14, 83) -/
def mramWord (m : Master) (w : Nat) (s : State) : Bool × List Byte × State :=
  let sts := storesBefore m w s
  let first := if sts.any fun st => st.data.length = 8 then (true, none, s)
    else let (ok, d, s) := mramArray m w s; (ok, some d, s)
  if !first.1 then (false, List.replicate 8 0, first.2.2)
  else
    match mergeStores w sts first.2.1 with
    | some d => (true, d, first.2.2)
    | none => mramDouble m w first.2.2

/-- The last of the stores to word `w`, nearest first, leaves the word in double-bit error. -/
def spoilLast (w : Nat) : List MramStore → List MramStore
  | [] => []
  | st :: rest => if st.ofs / 8 = w then { st with spoilt := true } :: rest else st :: spoilLast w rest

/-- A read of word `w` by a master finds a double-bit error: in the array, or behind the stores it waits for
(R29, R432). (DEDUCED: log entry 83) -/
def spoilWord (m : Master) (w : Nat) (s : State) : State :=
  if (storesBefore m w s).isEmpty then
    { s with mrm := { s.mrm with bad := w :: s.mrm.bad.filter (· ≠ w), cut := s.mrm.cut.filter (· ≠ w) } }
  else
    let n := storesAhead m w s
    let q := (spoilLast w ((mramStores s).take n).reverse).reverse ++ (mramStores s).drop n
    { s with mrm := { s.mrm with queue := q.take s.mrm.queue.length, withheld := q.drop s.mrm.queue.length } }

/-- Read MRAM word by word; a word in double-bit error reads as zeros. -/
def mramWords (m : Master) : List Nat → State → Bool × List Byte × State
  | [], s => (true, [], s)
  | w :: ws, s =>
    let (ok1, d1, s) := mramWord m w s
    let (ok2, d2, s) := mramWords m ws s
    (ok1 && ok2, d1 ++ d2, s)

/-- The words of MRAM that `len` bytes from offset `o` touch. -/
def mramSpan (o len : Nat) : List Nat := (List.range ((o % 8 + len + 7) / 8)).map (o / 8 + ·)

def mramReadPart (m : Master) (a len : Nat) (s : State) : Bool × List Byte × State :=
  let r := mramWords m (mramSpan (a - mramBase) len) s
  (r.1, (r.2.1.drop ((a - mramBase) % 8)).take len, r.2.2)

/-- A write to MRAM waits as stores of one word each, in the queue as far as it has room (R432).
(DEDUCED: log entry 83) -/
def mramWritePart (m : Master) (a : Nat) (bs : List Byte) (s : State) : State :=
  let pieces := cutBlocks 8 (bs.length / 8 + 2) (a - mramBase) bs
  { s with mrm := fillQueue { s.mrm with
      withheld := s.mrm.withheld ++ pieces.map fun p => { ofs := p.1, data := p.2, m, acc := s.accId } } }

/-! ## Accesses that have not completed (R367) -/

/-- A write of `len` bytes has been issued: it stays in flight while stores of it wait in the MRAM queue (R367, R432). -/
def openWrite (m : Master) (a len : Nat) (ok : Bool) (s : State) : State :=
  if (parts a len).all fun p => region p.1 ≠ .mram then s
  else
    match ((mramStores s).filter fun st => st.acc = s.accId).length with
    | 0 => s
    | n + 1 => enterFlight m false a (n + 1) ok s

/-- A write of a DMA channel has failed: its descriptor ends with WRITE_ERROR and the lowest address that failed (R377,
R378). (DEDUCED: log entry 67) -/
def dmaWriteFailed (x : InFlight) (s : State) : State :=
  let mark := fun (d : DmaDesc) =>
    if d.accs.contains x.id then
      { d with status := some 2, fault := if d.status.all (· = 0) then x.addr else min d.fault x.addr }
    else d
  { s with dma := s.dma.map fun e => (e.1, { e.2 with
      chans := e.2.chans.map fun (c : Nat × DmaCh) => (c.1, { c.2 with inflight := c.2.inflight.map mark }) }) }

/-- A write that waited has completed: its response returns, and an error is reported (R340, R341, R378). -/
def writeDone (x : InFlight) (s : State) : State :=
  let s := landed s.resp x.id x.m .write x.addr (s.respond x.ok 0)
  if x.ok then s else dmaWriteFailed x s

/-- A part of an access completes, in error or not; the access completes with its last part (R364, R367). -/
def finishPart (id : Nat) (good : Bool) (s : State) : State :=
  match s.inflight.find? fun x => x.id = id with
  | none => s
  | some x =>
    let x := { x with left := x.left - 1, ok := x.ok && good }
    if x.left = 0 then writeDone x (leaveFlight id s)
    else { s with inflight := s.inflight.map fun y => if y.id = id then x else y }

/-! ## Parts of an access at their targets -/

/-- Record an access that no target answers (R11). -/
def unmappedErr (m : Master) (a : Nat) (s : State) : State := s.recordErr 0 0x01 (masterId m) a

/-- No target answers a part: an unmapped range, DRAM at or above SYS_DRAM_TOP, a write to the boot ROM (R11). -/
def unanswered (write : Bool) (a : Nat) (s : State) : Bool :=
  match region a with
  | .unmapped => true
  | .dram => dramTop s ≤ a
  | .rom => write
  | _ => false

/-- An access with parts that no target answers is recorded once, with the first byte of the first of them (R11). -/
def recordUnanswered (m : Master) (write : Bool) (ps : List (Nat × Nat)) (s : State) : State :=
  match ps.find? fun p => unanswered write p.1 s with
  | some p => unmappedErr m p.1 s
  | none => s

/-- How a target outside the register pages answers a read of a part: whether without error, the bytes. MRAM held
for test refuses every request (R20); a register page refuses the width or alignment (R12), once the master's earlier
writes to the page have crossed (R24). (DESIGN CHOICE: log entry 113) -/
def readPart (m : Master) (a len : Nat) (s : State) : Bool × List Byte × State :=
  if unanswered false a s then (false, List.replicate len 0, s)
  else
    match region a with
    | .dram => dramReadPart m a len s
    | .sram | .rom | .unmapped => (true, s.rdBytes a len, s)
    | .mram =>
      if s.testHold 4 then (false, List.replicate len 0, s.recordErr 4 0x03 (masterId m) a) else mramReadPart m a len s
    | .regs =>
      let page := (a - 0xFE00000000) / 0x1000
      (false, List.replicate len 0,
        (drainFor (canonPage page (a % 0x1000)) (masterId m) s).recordErr page 0x04 (masterId m) a)

/-- How a target outside the register pages answers a write of a part. (DESIGN CHOICE: log entry 113) -/
def writePart (m : Master) (a : Nat) (bs : List Byte) (s : State) : Bool × State :=
  if unanswered true a s then (false, s)
  else
    match region a with
    | .dram => dramWriteLines m (cutLines a bs) s
    | .sram | .rom | .unmapped => (true, breakResv (masterId m) a bs.length (s.wrBytes a bs))
    | .mram =>
      if s.testHold 4 then (false, s.recordErr 4 0x03 (masterId m) a) else (true, mramWritePart m a bs s)
    | .regs => (false, s.recordErr ((a - 0xFE00000000) / 0x1000) 0x04 (masterId m) a)

/-- The bytes of an access that belong to a part. -/
def partBytes (a : Nat) (p : Nat × Nat) (bs : List Byte) : List Byte := (bs.drop (p.1 - a)).take p.2

/-- The address of register page 0 (R10). -/
def regBase : Nat := 0xFE00000000

/-- An access to a register page of an admissible width and alignment. (DEDUCED: log entry 20) -/
def regAccessOk (a len : Nat) : Bool := (len = 4 || len = 8) && a % len = 0

/-- How a block carries out the accesses that it makes by itself: master, PRIV, address and length or bytes; whether it was
answered without error, and the bytes read (R12, R22, R358, R364). (DESIGN CHOICE: log entry 22) -/
structure Bus where
  readAs : Master → Bool → Nat → Nat → State → Bool × List Byte × State
  writeAs : Master → Bool → Nat → List Byte → State → Bool × State

/-- A block's own read, with the PRIV of 1 that R358 gives it. -/
def Bus.read (bus : Bus) (m : Master) (a len : Nat) (s : State) : Bool × List Byte × State := bus.readAs m true a len s

/-- A block's own write, with the PRIV of 1 that R358 gives it. -/
def Bus.write (bus : Bus) (m : Master) (a : Nat) (bs : List Byte) (s : State) : Bool × State := bus.writeAs m true a bs s

end Sys2Proof.Machine
end

