-- ==== Sys2Proof/Machine/Bst.lean ====
section
/-! DEFINITION. The runs of the self-test: partitions, their pages, the record of a verdict and an interruption
(R410, R413, R414). -/

namespace Sys2Proof.Machine

def pBst : Nat := 3

def setBst (f : BstSt → BstSt) (s : State) : State := { s with bst := f s.bst }

/-- The engine that a partition tests. -/
def partEngine (p : Nat) : Option Nat := if 7 ≤ p ∧ p ≤ 22 then some (p - 7) else none

/-- The pages in a partition (R410). (DEDUCED: log entry 75) -/
def partPages (p : Nat) : List Nat :=
  match p with
  | 0 => [2]
  | 1 => [7]
  | 2 => []
  | 3 => [4]
  | 4 => 6 :: (List.range 42).map (8 + ·)
  | 5 | 6 => [6]
  | 23 => (List.range 48).map (82 + ·)
  | 24 => (List.range 6).map (50 + ·) ++ (List.range 10).map (72 + ·) ++ (List.range 10).map (131 + ·)
  | _ => match partEngine p with
    | some n => [56 + n]
    | none => []

/-- The duration of a partition's run, in µs (R410). -/
def partUs (p : Nat) : Nat :=
  match p with
  | 0 => 4000
  | 1 => 6000
  | 2 => 3000
  | 3 => 1500
  | 4 => 8000
  | 5 | 6 | 23 => 30000
  | 24 => 20000
  | _ => 28000

/-- The clock domains with a PLL in a partition (R21, R410). (DEDUCED: log entry 75) -/
def partDomains (p : Nat) : List Domain :=
  match p with
  | 0 => [.fab, .cdc]
  | 1 => [.gpd, .fab]
  | 2 | 3 | 4 => [.fab]
  | 5 | 6 => [.apc]
  | 23 => [.cmp]
  | 24 => [.fab, .dfi, .tim]
  | _ => [.cdc]

/-- In the boot after a wake partition 24 is tested without the DDR5 controllers, whose state stays (R441).
(DEDUCED: log entry 75) -/
def sparesDmc (p : Nat) (s : State) : Bool := p = 24 && s.bst.wake && s.dev = devBoot

/-- The pages under test with a partition (R410, R441). (DEDUCED: log entries 75, 80) -/
def runPages (p : Nat) (s : State) : List Nat :=
  if sparesDmc p s then (partPages p).filter fun q => !(50 ≤ q && q < 56) else partPages p

/-- The clock domains of a run (R414, R441). (DEDUCED: log entries 75, 80) -/
def runDomains (p : Nat) (s : State) : List Domain :=
  if sparesDmc p s then (partDomains p).filter (· ≠ .dfi) else partDomains p

def setHold (on : Bool) (pages : List Nat) (s : State) : State :=
  pages.foldl (fun s p => s.setFld p 0x008 2 2 (b2n on)) s

/-- The pages of a partition leave the hold; an engine's page stays held until its firmware is checked (R423),
the pages of R445 until the end of group 2. -/
def releasePart (p : Nat) (s : State) : State :=
  if (partEngine p).isSome then s
  else
    setHold false ((partPages p).filter fun page =>
      !(s.dev = devBoot && s.bst.group = 2 && heldToEnd page)) s

/-- The last verdict of a partition (R413). (DEDUCED: log entry 74) -/
def verdictOf (p : Nat) (s : State) : Nat := s.rfAt pBst 0x060 p 2 0

/-- A run ends: its verdict and cause, executed count and signature are recorded (R413, R425).
(DEDUCED: log entry 74) -/
def recordRun (p start verdict cause : Nat) (exec sig : Word) (s : State) : State :=
  let valid := b2n (verdict ≠ 4)
  let s := s.setRegAt pBst 0x060 p (BitVec.ofNat 32 (cause * 16 + valid * 8 + verdict))
  let s := (s.setRegAt pBst 0x068 p exec).setRegAt pBst 0x06C p sig
  let s := s.setRegAt pBst 0x074 p (satW (roundUp (s.clk - start) 500))
  releasePart p (setBst (fun b => { b with runs := b.runs.filter fun r => r.1 ≠ p }) s)

/-- Runs end ABORTED with a cause; what they had executed and compacted is open (R413, R414). -/
def bstInterrupt (cause : Nat) : List (Nat × Nat) → State → State
  | [], s => s
  | (p, start) :: rest, s =>
    let (exec, s) := s.takeFree
    let (sig, s) := s.takeFree
    bstInterrupt cause rest (raiseBit pBst 2 (recordRun p start 4 cause exec sig s))

end Sys2Proof.Machine
end

