-- ==== Sys2Proof/Machine/Withdraw.lean ====
section
/-! DEFINITION. The device states and the withdrawal (R30, R31, R437 to R439). -/

namespace Sys2Proof.Machine

def pSys : Nat := 0
def pPmu : Nat := 1

/-- SYS_DEV_STATE takes a new state; every change interrupts the self-test runs, makes a claim notice due and raises
STATE_CHANGE (R30, R289, R414, R437). -/
def setDev (new : Nat) (s : State) : State :=
  let s := bstInterrupt 3 s.bst.runs { s with
    bst := { s.bst with waiting := [] }, kib := { s.kib with due := true } }
  raiseBit pSys 0 ((s.setFld pSys 0x040 10 8 s.dev).setFld pSys 0x040 2 0 new)

/-- WITHDRAWN_N is driven high only in RUN (R437). -/
def withdrawnN (s : State) : Bool := s.dev = devRun && !s.pwr.inReset

/-- Entry to WATCH is under way: PMU_WATCH.REQ reads 1 (R440, R451). -/
def watchPending (s : State) : Bool := s.rb pPmu 0x054 0

/-- Ngurelo and Kibiter at the entry to WITHDRAWN (R299): every duty OFF and a notice due, pictures received and
sent abandoned, their FILL and HOLD_NG marks cleared. (DEDUCED: log entry 88) -/
def ngWithdraw (s : State) : State :=
  let on := (List.range 128).filter fun d => s.rfAt 134 0x108 d 1 0 ≠ 0
  let s := on.foldl (fun s d => s.setFldAt 134 0x108 d 1 0 0) s
  let s := s.rx.foldl (fun s e => s.setFldAt 56 0x890 e.2.buf 31 31 0) s
  let s := s.ng.foldl (fun s e => match e.2.tx with
    | some (_, b) => s.setFldAt 56 0x890 b (24 + e.1) (24 + e.1) 0
    | none => s) s
  let own := s.rf 134 0x040 15 0
  { s with
    rx := []
    ng := s.ng.map fun e => (e.1, { e.2 with tx := none, q1 := e.2.q1.filter fun f => f.orig ≠ own })
    kib := { s.kib with gone := on, changed := on, due := true } }

/-- A withdrawal cause reaches SYS: the first one in BOOT or RUN is recorded with the timer counter, an entry
to WATCH is abandoned, and the pixel path stops (R31, R438, R439). (DEDUCED: log entry 88) -/
def withdraw (cls inst : Nat) (s : State) : State :=
  if s.dev = devBoot || s.dev = devRun then
    let s := setDev devWithdrawn s
    let s := { s with frozen := some (hold s) }
    let s := (s.setReg pSys 0x050 (BitVec.ofNat 32 (cls * 0x1000 + inst))).setPairAt pSys 0x058 0 s.timer
    let s := ngWithdraw s
    { s.setFld pPmu 0x054 0 0 0 with
      eng := [], out := [], enc := s.enc.map fun e => (e.1, { e.2 with cur := none, inputs := [] })
      dpi := s.dpi.map fun e => (e.1, { e.2 with frame := none })
      pwr := { s.pwr with watchAck := false } }
  else s

end Sys2Proof.Machine
end

