-- ==== Sys2Proof/Machine/Context.lean ====
section
/-! DEFINITION. Source contexts: their registers, events, statistics, capture times and frame liveness records
(R32, R35, R56, R58, R62, R102 to R105, R115, R122 to R124). -/

namespace Sys2Proof.Machine

def pSrc : Nat := 73
def pIng : Nat := 72

/-! ## Registers of a context -/

def ctxOn (c : Nat) (s : State) : Bool := bit (s.regAt pSrc 0x100 c) 0
def ctxKind (c : Nat) (s : State) : Nat := s.rfAt pSrc 0x100 c 3 1
def ctxPort (c : Nat) (s : State) : Nat := s.rfAt pSrc 0x100 c 11 8
def ctxH265 (c : Nat) (s : State) : Bool := s.rfAt pSrc 0x100 c 5 4 = 1

def kindIp : Nat := 1
def kindDp : Nat := 2
def kindNg : Nat := 3

def ctxCfg (c : Nat) (s : State) : Word := s.regAt pSrc 0x120 c

def setCtx (c : Nat) (f : CtxSt → CtxSt) (s : State) : State :=
  { s with ctx := smSet c (f (smAt c s.ctx)) s.ctx }

/-- SRC_CTX_STAT.STATE. -/
def ctxState (c : Nat) (s : State) : Nat := s.rfAt pSrc 0x138 c 2 0

def setCtxState (c st : Nat) (s : State) : State := s.setFldAt pSrc 0x138 c 2 0 st

/-- SRC_CTX_EVT takes an event; CTX_EVENT is set while an enabled event is pending (R102, R103). -/
def ctxEvent (c i : Nat) (s : State) : State :=
  let s := s.setRegAt pSrc 0x13C c (s.regAt pSrc 0x13C c ||| bitW i)
  if bit (s.regAt pSrc 0x140 c) i then raiseBit pSrc 0 s else s

def evTimeout : Nat := 0
def evResumed : Nat := 1
def evSrLost : Nat := 2
def evSrReject : Nat := 3
def evSrtpFail : Nat := 4
def evJbOverflow : Nat := 5
def evFormatChange : Nat := 6
def evUnsupported : Nat := 7
def evFrameDrop : Nat := 8

/-- SRC_EVT_PEND word `i` (R102). -/
def srcPend (i : Nat) (s : State) : Word :=
  BitVec.ofNat 32 ((List.range 32).foldl (fun n b =>
    n + b2n (s.regAt pSrc 0x13C (32 * i + b) &&& s.regAt pSrc 0x140 (32 * i + b) ≠ 0) * 2 ^ b) 0)

/-- The statistics counters of R124, by offset. -/
def stPkts : Nat := 0x150
def stKbytes : Nat := 0x154
def stLost : Nat := 0x158
def stLate : Nat := 0x15C
def stDup : Nat := 0x160
def stAuth : Nat := 0x164
def stUnsup : Nat := 0x168
def stAuOut : Nat := 0x16C
def stAuPart : Nat := 0x170
def stAuDrop : Nat := 0x174
def stTimeouts : Nat := 0x178
def stSr : Nat := 0x17C

def count (c st : Nat) (s : State) : State := s.bumpAt pSrc st c 1

/-- A complete frame or access unit is discarded (R102). -/
def dropFrame (c : Nat) (s : State) : State := ctxEvent c evFrameDrop (count c stAuDrop s)

/-- No source context takes input (R488). -/
def srcClosed (s : State) : Bool := (workRefusal pSrc s).isSome

/-- Input for a context that takes none: a work request that is refused (R17, R20, R488). -/
def srcRefused (m : Master) (s : State) : State := refuseWork pSrc m s

/-- An accepted input: STATE becomes RECEIVING (R123). An RTP packet is one once it matches and passes SRTP, whatever
R111 and R112 then make of it. -/
def ctxInput (c : Nat) (s : State) : State :=
  let was := ctxState c s
  let s := setCtxState c 2 (setCtx c (fun t => { t with lastInput := s.clk }) s)
  if was = 3 then ctxEvent c evResumed s else s

/-! ## Capture times (R32, R114, R115) -/

/-- SR_VALID (R115). (DEDUCED: log entry 41) -/
def srValid (c : Nat) (s : State) : Bool :=
  match (smAt c s.ctx).sr with
  | none => false
  | some r =>
    let age := fld (ctxCfg c s) 15 0 * 1000000 * 65536
    decide (r.epoch = s.tm.epoch) && decide (s.t16 ≤ r.trx + age) && decide (r.trx ≤ s.t16 + age)

/-- SR_LOST when SR_VALID has gone from 1 to 0 (R115). (DEDUCED: log entry 36) -/
def srEdge (c : Nat) (s : State) : State :=
  let v := srValid c s
  let was := (smAt c s.ctx).srSeen
  if v = was then s
  else
    let s := setCtx c (fun t => { t with srSeen := v }) s
    if was then ctxEvent c evSrLost s else s

/-- The edge of every context, after the epoch or the time has moved. -/
def srEdges (s : State) : State := s.ctx.foldl (fun s e => srEdge e.1 s) s

/-- A derived capture time; one before zero seconds is not valid and reads 0 (R32). -/
def capTime (t : Int) (epoch origin : Nat) (valid network : Bool) : CapTime :=
  if t < 0 then { t := 0, epoch, valid := false, network, origin }
  else { t := t.toNat, epoch, valid, network, origin }

/-- The wrapped difference of two RTP timestamps (R115). -/
def rtpDiff (a b : Nat) : Int := (BitVec.ofNat 32 a - BitVec.ofNat 32 b).toInt

/-- The capture time of an access unit at its release (R115, R116). -/
def auCapTime (c ts : Nat) (s : State) : CapTime :=
  let cfg := ctxCfg c s
  let none' : CapTime := { epoch := s.tm.epoch }
  if !bit cfg 31 || bit cfg 30 then none'
  else
    match (smAt c s.ctx).sr with
    | none => { none' with origin := 1, network := true }
    | some r =>
      let d := rtpDiff ts r.rtp
      let dt := Int.fdiv (d * 1000000000 * 65536) 90000
      let lat : Int := (s.regAt pSrc 0x128 c).toNat * 1000 * 65536
      capTime (Int.ofNat r.s + dt - lat) r.epoch 1
        (srValid c s && decide (d.natAbs ≤ fld cfg 15 0 * 90)) true

/-! ## The frame liveness record (R35 to R37, R56, R58, R122) -/

/-- The token rectangle when it lies in a frame of the given size (R122): left, top, width, height. -/
def tokenRect (c w h : Nat) (s : State) : Option (Nat × Nat × Nat × Nat) :=
  let x := s.rfAt pSrc 0x12C c 31 16
  let y := s.rfAt pSrc 0x12C c 15 0
  let tw := s.rfAt pSrc 0x130 c 31 16
  let th := s.rfAt pSrc 0x130 c 15 0
  if 0 < tw && 0 < th && x + tw ≤ w && y + th ≤ h then some (x, y, tw, th) else none

/-- What a delivering block knows of a frame. -/
structure FrameInfo where
  ct : CapTime
  crc : Option Word
  token : Option Word
  w : Nat
  h : Nat
  conceal : Bool
  cmap : Nat
  bct : Option Nat
  /-- the check values written where the frame has none: those of the sender for a received picture (R40) -/
  asSent : Word × Word := (0, 0)
  deriving Repr

/-- The liveness values of a record that count frames (R56, R58, R35). -/
structure Counts where
  identRun : Nat
  seq : Nat
  hold : Nat
  deriving Repr

/-- The FLAGS byte (R35). -/
def recFlags (i : FrameInfo) : Nat :=
  b2n i.ct.valid * 0x80 + b2n i.ct.network * 0x40 + b2n i.crc.isSome * 0x20 + b2n i.token.isSome * 0x10
    + b2n i.conceal * 0x08 + b2n i.bct.isSome * 0x04

/-- The 64 bytes of a record (R35). (DESIGN CHOICE: log entry 30) -/
def recBytes (c : Nat) (i : FrameInfo) (n : Counts) : List Byte :=
  let t := NTime.ofT16 i.ct.t
  let body := leBytes 8 t.sec ++ leBytes 4 t.ns ++ leBytes 2 t.frac ++ leBytes 1 i.ct.epoch
    ++ leBytes 1 (recFlags i) ++ leBytes 1 c ++ leBytes 1 i.ct.origin ++ leBytes 2 n.identRun
    ++ leBytes 4 n.seq ++ leBytes 4 (i.crc.getD i.asSent.1).toNat ++ leBytes 4 (i.token.getD i.asSent.2).toNat
    ++ leBytes 4 n.hold ++ leBytes 2 (roundUp i.w 64) ++ leBytes 2 (roundUp i.h 64)
    ++ leBytes 8 (if i.conceal then i.cmap else 0) ++ leBytes 8 (i.bct.getD 0)
  body ++ leBytes 4 (crc32c body).toNat ++ leBytes 4 0

/-- IDENT_RUN, FRAME_SEQ and TOKEN_HOLD of the frame delivered next. A capture time before that of the last
token change leaves TOKEN_HOLD open: the manual states no value (R56, R58). (DESIGN CHOICE: log entry 30) -/
def frameCounts (c : Nat) (i : FrameInfo) (s : State) : Counts × State :=
  let t := smAt c s.ctx
  let same : Bool := match i.crc, t.prevCrc with
    | some a, some b => a = b
    | _, _ => false
  let run := if same then min (t.identRun + 1) 65535 else 0
  let change := match i.token with
    | none => false
    | some w => t.prevToken ≠ some w
  let tokenCt := if change then i.ct.t else t.tokenCt
  let (free, s) := if i.token.isSome && i.ct.t < tokenCt then s.takeFree else (0#32, s)
  let hold := match i.token with
    | none => 0xFFFFFFFF
    | some _ =>
      if i.ct.t < tokenCt then free.toNat
      else min 0xFFFFFFFF (roundUp (i.ct.t - tokenCt) (1000 * 65536))
  let s := setCtx c (fun t => { t with
    seq := (t.seq + 1) % 2 ^ 32, identRun := run, prevCrc := i.crc
    prevToken := if i.token.isSome then i.token else t.prevToken, tokenCt }) s
  ({ identRun := run, seq := t.seq, hold }, s)

/-- The newest frame of a context, as SRC_LV_STAT and SRC_LAST_CT report it (R62). -/
def showNewest (c : Nat) (i : FrameInfo) (n : Counts) (s : State) : State :=
  let t := NTime.ofT16 i.ct.t
  let s := s.setRegAt pSrc 0x210 c (BitVec.ofNat 32 (n.identRun * 2 ^ 16 + i.ct.origin * 256 + recFlags i))
  let s := (s.setRegAt pSrc 0x214 c (loW t.sec)).setRegAt pSrc 0x218 c (hiW t.sec)
  let s := s.setRegAt pSrc 0x21C c (BitVec.ofNat 32 t.ns)
  let s := s.setRegAt pSrc 0x220 c (BitVec.ofNat 32 (t.frac * 65536 + i.ct.epoch))
  s.setRegAt pSrc 0x224 c (BitVec.ofNat 32 n.hold)

end Sys2Proof.Machine
end

