-- ==== Sys2Proof/Machine/Time.lean ====
section
/-! DEFINITION. Network time: the counter and its adjustments, traceability, timestamps, schedules, the
time-trigger units, the capture inputs and the VBAT holdover (R68 to R101). -/

namespace Sys2Proof.Machine

def pPtp : Nat := 137
def pTtu : Nat := 138

/-! ## Traceability (R78) -/

/-- PTP_GM_ID as a 64-bit clockIdentity. -/
def gmId (s : State) : Nat := s.pair pPtp 0x080

/-- PTP_STAT.SYNC_SEEN: a qualifying Sync within the window, in TIM clocks (R78). (DEDUCED: log entry 31) -/
def syncSeen (s : State) : Bool :=
  let w := s.rf pPtp 0x07C 31 16 * 500000
  s.tm.syncs.any fun y => y.2.1 = s.rf pPtp 0x07C 15 8 && y.2.2 = gmId s && s.clk < y.1 + w

/-- PTP_STAT.TRACEABLE (R78). (DEDUCED: log entry 31) -/
def traceable (s : State) : Bool := s.rb pPtp 0x07C 0 && syncSeen s

/-- Evaluate TRACEABLE and raise TRACE_LOST or TRACE_GAINED on a transition (R78, R81). (DEDUCED: log entry 31) -/
def evalTrace (s : State) : State :=
  let t := traceable s
  if t = s.tm.traceable then s
  else raiseBit pPtp (if t then 4 else 3) { s with tm := { s.tm with traceable := t } }

/-- A PTP Sync arrives at this TIM clock (R78). (DEDUCED: log entry 31) -/
def syncArrive (domain gm : Nat) (s : State) : State :=
  let rest := s.tm.syncs.filter fun y => !(y.2.1 = domain && y.2.2 = gm)
  evalTrace { s with tm := { s.tm with syncs := rest ++ [(s.clk, domain, gm)] } }

/-- A rise of the epoch: LOCK cleared, EPOCH raised, the copy to the VBAT domain (R76, R100). A second cause in the
TIM clock of a rise adds none (R77). -/
def epochRise (s : State) : State :=
  if s.tm.roseAt = some s.clk then s
  else
    let e := (s.tm.epoch + 1) % 256
    let s := { s with tm := { s.tm with epoch := e, roseAt := some s.clk }, vbt := { s.vbt with epoch := e } }
    evalTrace (raiseBit pPtp 2 (s.setFld pPtp 0x07C 0 0 0))

/-! ## Schedules (R89) -/

structure Schedule where
  /-- T0 in units of 2⁻¹⁶ ns -/
  t0 : Nat
  /-- P in units of 2⁻³² ns -/
  p : Nat
  n : Nat
  /-- C in units of 2⁻¹⁶ ns -/
  c : Nat
  deriving DecidableEq, Repr

/-- The instant of index `k` (R89). -/
def Schedule.instant (h : Schedule) (k : Nat) : Nat :=
  let q := if h.n = 0 then 0 else k / h.n
  let r := if h.n = 0 then k else k % h.n
  h.t0 + q * h.c + r * h.p / 65536

/-- The cycle check of R89: refused when |N × P − C| is 1 ns or more. -/
def Schedule.cycleOk (h : Schedule) : Bool :=
  h.n = 0 || (h.n * h.p < h.c * 65536 + 2 ^ 32 && h.c * 65536 < h.n * h.p + 2 ^ 32)

/-- The index of the first instant at or after `t`. With P = 0 no instant of a cycle lies after its first: the index
beyond them stands for none. (DESIGN CHOICE: log entry 33) -/
def Schedule.firstAt (h : Schedule) (t : Nat) : Nat :=
  let d := t - h.t0
  let least := fun d => if d = 0 then 0 else if h.p = 0 then max h.n 1 else roundUp (d * 65536) h.p
  if h.n = 0 ∨ h.c = 0 then least d
  else
    let q := d / h.c
    let r := least (d - q * h.c)
    if r < h.n then q * h.n + r else (q + 1) * h.n

/-! ## Outputs and their schedules (R90, R91, R228, R232, R234) -/

def pOut (n : Nat) : Nat := 114 + n

/-- OUT_STAT.STATE codes (R220). -/
def outDisabled : Nat := 0
def outHeld : Nat := 1
def outReleasing : Nat := 2
def outRunning : Nat := 3

def outState (n : Nat) (s : State) : Nat := s.rf (pOut n) 0x044 1 0

/-- Outputs that a group of a SIZE takes (R234). -/
def groupSpan (size : Nat) : Nat := if size = 1 then 2 else if size = 2 then 4 else 1

/-- The leader of the group that an output belongs to; itself when it is in none. (DEDUCED: log entry 53) -/
def leaderOf (n : Nat) (s : State) : Nat :=
  ([n / 4 * 4, n / 2 * 2].find? fun l => n < l + groupSpan (s.rf (pOut l) 0x090 1 0)).getD n

/-- The outputs of a leader's group; the leader alone when it leads none. (DEDUCED: log entry 53) -/
def groupOf (l : Nat) (s : State) : List Nat :=
  (List.range (groupSpan (s.rf (pOut l) 0x090 1 0))).map (l + ·)

/-- The schedule of an output, in its own registers (R228). -/
def outSchedule (n : Nat) (s : State) : Schedule :=
  let p := pOut n
  { t0 := (s.pair p 0x060 * 1000000000 + s.rf p 0x068 29 0) * 65536 + s.rf p 0x06C 31 16
    p := (s.reg p 0x070).toNat * 2 ^ 32 + (s.reg p 0x074).toNat
    n := s.rf p 0x078 15 0
    c := (s.reg p 0x07C).toNat * 65536 + s.rf p 0x080 31 16 }

def setOut (n : Nat) (f : OutSt → OutSt) (s : State) : State :=
  { s with out := smSet n (f (smAt n s.out)) s.out }

/-- 64 ns in units of 2⁻¹⁶ ns, the lead of R91 and R94. -/
def lead64 : Nat := 64 * 65536

/-- The counter has been set or stepped: a released output takes the first instant at or after the new value
plus 64 ns; one that has chosen the instant of its coming line 0 keeps it and chooses again at its next slip
line (R91, R232). (DESIGN CHOICE: log entry 112) -/
def outAfterJump (s : State) : State :=
  (List.range 16).foldl (fun s n =>
    if outState n s < outReleasing || leaderOf n s ≠ n then s
    else setOut n (fun t =>
      if t.chosen.isSome then { t with rechoose := true }
      else { t with j := (outSchedule n s).firstAt (s.t16 + lead64) }) s) s

/-! ## Time-trigger units (R92 to R95) -/

def ttuOff (u r : Nat) : Nat := 0x100 + 0x40 * u + r

/-- The schedule of a unit. -/
def ttuSchedule (u : Nat) (s : State) : Schedule :=
  { t0 := (s.pair pTtu (ttuOff u 0x08) * 1000000000 + s.rf pTtu (ttuOff u 0x10) 29 0) * 65536
      + s.rf pTtu (ttuOff u 0x14) 31 16
    p := (s.reg pTtu (ttuOff u 0x18)).toNat * 2 ^ 32 + (s.reg pTtu (ttuOff u 0x1C)).toNat
    n := s.rf pTtu (ttuOff u 0x20) 15 0
    c := (s.reg pTtu (ttuOff u 0x24)).toNat * 65536 + s.rf pTtu (ttuOff u 0x28) 31 16 }

def setTtu (u : Nat) (f : TtuSt → TtuSt) (s : State) : State :=
  { s with ttu := smSet u (f (smAt u s.ttu)) s.ttu }

/-- Count missed instants of a unit and raise MISSED_*u* (R94, R99). (DESIGN CHOICE: log entry 33) -/
def ttuMiss (u n : Nat) (s : State) : State :=
  if n = 0 then s else raiseBit pTtu (8 + u) (s.bumpFldAt pTtu (ttuOff u 0x04) 0 31 16 n)

/-- The counter has been set or stepped: an armed unit takes the first instant at or after the new value plus
64 ns; instants that a forward change carried past are missed (R91, R94). (DESIGN CHOICE: log entry 33) -/
def ttuAfterJump (s : State) : State :=
  (List.range 8).foldl (fun s u =>
    if !s.rb pTtu (ttuOff u 0) 0 then s
    else
      let h := ttuSchedule u s
      let st := smAt u s.ttu
      let oneShot := !s.rb pTtu (ttuOff u 0) 1
      let passed := h.firstAt s.t16
      let next := h.firstAt (s.t16 + lead64)
      let cap := fun k => if oneShot then min k 1 else k
      setTtu u (fun t => { t with k := cap next }) (ttuMiss u (cap passed - st.k) s)) s

/-- Whether arming fails (R93). (DESIGN CHOICE: log entry 33) -/
def ttuArmFails (u : Nat) (ctrl : Word) (s : State) : Bool :=
  let h := ttuSchedule u s
  let w := (s.reg pTtu (ttuOff u 0x2C)).toNat
  w < 8 || 1000000000 ≤ s.rf pTtu (ttuOff u 0x10) 29 0
    || (bit ctrl 1 && (s.reg pTtu (ttuOff u 0x18)).toNat < 100)
    || (bit ctrl 1 && 4 * h.p ≤ w * 2 ^ 32)
    || !h.cycleOk

/-- Arming takes effect (R93, R94). (DESIGN CHOICE: log entry 33) -/
def ttuArmEffect (m : Master) (u : Nat) (ctrl : Word) (s : State) : State :=
  if ttuArmFails u ctrl s then
    (s.setFld pTtu (ttuOff u 0) 0 0 0).recordErr pTtu 0x41 (masterId m) (pageAddr pTtu (ttuOff u 0))
  else
    let h := ttuSchedule u s
    let s := ((s.setFld pTtu (ttuOff u 0x04) 31 16 0).setReg pTtu (ttuOff u 0x34) 0)
    if bit ctrl 1 then setTtu u (fun t => { t with k := h.firstAt (s.t16 + lead64) }) s
    else if h.t0 < s.t16 + lead64 then
      ttuMiss u 1 (setTtu u (fun t => { t with k := 1 }) (s.setFld pTtu (ttuOff u 0) 0 0 0))
    else setTtu u (fun t => { t with k := 0 }) s

/-- The end of a pulse: the pin returns to its inactive level (R94, R95). -/
def ttuEndPulse (u : Nat) (s : State) : State :=
  (setTtu u (fun t => { t with left := 0 }) (s.setFld pTtu (ttuOff u 0x04) 0 0 0)).emit (.trig u false)

/-- The check of a write to the TTU page: parameters of an armed unit (R93). -/
def ttuCheck (off : Nat) (s : State) : Verdict :=
  if 0x100 ≤ off ∧ off < 0x300 then
    let u := (off - 0x100) / 0x40
    let r := off % 0x40
    if 0x08 ≤ r && r ≤ 0x30 && s.rb pTtu (ttuOff u 0) 0 then .err 0x40 else .ok
  else .ok

/-- The effect of an accepted write to the TTU page: arming and disarming. -/
def ttuEffect (m : Master) (off : Nat) (v : Word) (s : State) : State :=
  if 0x100 ≤ off ∧ off < 0x300 ∧ off % 0x40 = 0 then
    let u := (off - 0x100) / 0x40
    if bit v 0 then ttuArmEffect m u v s
    else if s.rb pTtu (ttuOff u 0x04) 0 then ttuEndPulse u s else s
  else s

/-- TTU_ARM: a write of TTU_CTRL with ARM = 1 (R93). -/
def execTtuArm (m : Master) (u : Fin 8) (ctrl : Word) (s : State) : Host.Outcome State Fault Refusal :=
  let off := ttuOff u.val 0
  .next (issue m .write pTtu off (regCommand m pTtu off (ctrl ||| 1) (ttuCheck off) (ttuEffect m off (ctrl ||| 1))) s)

/-- TTU_DISARM: a write of TTU_CTRL with ARM = 0 (R94). -/
def execTtuDisarm (m : Master) (u : Fin 8) (ctrl : Word) (s : State) : Host.Outcome State Fault Refusal :=
  let off := ttuOff u.val 0
  let v := ctrl &&& ~~~ 1#32
  .next (issue m .write pTtu off (regCommand m pTtu off v (ttuCheck off) (ttuEffect m off v)) s)

/-- TTU_PULSE_START: the counter reaches the next instant of an armed unit (R94). (DESIGN CHOICE: log entry 33) -/
def execTtuPulseStart (u : Fin 8) (s : State) : Host.Outcome State Fault Refusal :=
  let h := ttuSchedule u.val s
  let st := smAt u.val s.ttu
  let oneShot := !s.rb pTtu (ttuOff u.val 0) 1
  .next (whenClocked s (if s.rb pTtu (ttuOff u.val 0) 0 && !s.rb pTtu (ttuOff u.val 4) 0 && !(oneShot && 0 < st.k)
      && h.instant st.k ≤ s.t16 then
    let w := (s.reg pTtu (ttuOff u.val 0x2C)).toNat
    let s := setTtu u.val (fun t => { k := t.k + 1, left := Int.ofNat (w * 2 ^ 38) }) s
    let s := (s.setFld pTtu (ttuOff u.val 4) 0 0 1).setReg pTtu (ttuOff u.val 0x34)
      (s.reg pTtu (ttuOff u.val 0x34) + 1)
    (raiseBit pTtu u.val s).emit (.trig u.val true)
  else s))

/-- TTU_PULSE_END: WIDTH has passed since the leading edge (R94). -/
def execTtuPulseEnd (u : Fin 8) (s : State) : Host.Outcome State Fault Refusal :=
  let st := smAt u.val s.ttu
  .next (whenClocked s (if s.rb pTtu (ttuOff u.val 4) 0 && decide (st.left ≤ 0) then
    let s := ttuEndPulse u.val s
    let cnt := s.reg pTtu (ttuOff u.val 0x30)
    if !s.rb pTtu (ttuOff u.val 0) 1 || (cnt ≠ 0 && s.reg pTtu (ttuOff u.val 0x34) = cnt) then
      s.setFld pTtu (ttuOff u.val 0) 0 0 0
    else s
  else s))

/-! ## The counter (R68 to R77) -/

/-- PTP_RATE_ADJ.VALUE. -/
def rateAdj (s : State) : Int := sW (s.reg pPtp 0x068)

/-- The slew term of a TIM clock: ±2^(41 − SHIFT), and in the last clock what remains (R74). -/
def slewTerm (s : State) : Int :=
  let q : Int := 2 ^ (41 - s.rf pPtp 0x070 4 0)
  if s.tm.slew = 0 then 0
  else if 0 < s.tm.slew then min q s.tm.slew
  else max (-q) s.tm.slew

/-- The increment of a TIM clock without the slew term, in units of 2⁻⁴⁰ ns (R69). -/
def plainInc (s : State) : Int := 2 * 2 ^ 40 + 2 * rateAdj s

/-- The seconds of the counter wrap at 2⁶⁴ (R68). -/
def timeMod : Nat := 2 ^ 64 * 1000000000 * 2 ^ 40

/-- One TIM clock of the counter, and of the pulses in progress (R69, R74, R94). (DESIGN CHOICE: log entry 2) -/
def timClock (s : State) : State :=
  let term := slewTerm s
  let inc := plainInc s
  let now := (Int.toNat (Int.ofNat s.tm.now + inc + term)) % timeMod
  let slew := s.tm.slew - term
  { s with
    clk := s.clk + 1
    tm := { s.tm with
      now, slew, run := Int.toNat (Int.ofNat s.tm.run + inc + term)
      slewEnded := s.tm.slewEnded || (s.tm.slew ≠ 0 && slew = 0)
      carry := s.tm.carry || now / 2 ^ 40 / 1000000000 ≠ s.tm.now / 2 ^ 40 / 1000000000 }
    ttu := s.ttu.map fun e => (e.1, { e.2 with left := if 0 < e.2.left then e.2.left - inc else e.2.left }) }

/-- A SET: the counter is loaded, a slew is cancelled, the epoch rises (R73, R76). -/
def ptpSetEffect (s : State) : State :=
  let now := (s.pair pPtp 0x050 * 1000000000 + s.rf pPtp 0x058 29 0) * 2 ^ 40
  let s := { s with tm := { s.tm with now := now % timeMod, slew := 0 } }
  srEdges (outAfterJump (ttuAfterJump (epochRise (s.setReg pPtp 0x06C 0))))

/-- PTP_STEP as a signed number of nanoseconds. -/
def stepOffset (s : State) : Int := (BitVec.ofNat 64 (s.pair pPtp 0x060)).toInt

/-- The counter after a step of `off` ns. -/
def stepped (off : Int) (s : State) : Int := Int.ofNat s.tm.now + off * 2 ^ 40

/-- A STEP that its check has admitted (R73, R76). -/
def ptpStepEffect (s : State) : State :=
  let off := stepOffset s
  let s := { s with tm := { s.tm with now := (stepped off s).toNat % timeMod } }
  srEdges (outAfterJump (ttuAfterJump (if s.rf pPtp 0x074 19 0 < off.natAbs then epochRise s else s)))

/-- The offset that a write of `hi` to PTP_STEP_HI completes, with the low word held for it (R13). -/
def stepWritten (hi : Word) (s : State) : Int :=
  (BitVec.ofNat 64 (hi.toNat * 2 ^ 32 + (heldOf pPtp 0x060 0 s).toNat)).toInt

/-- The check of a write to the PTP page (R70, R75). A STEP is judged against the counter in the clock in which it
takes effect; a discarded one leaves PTP_STEP as it was. (DEDUCED: log entry 35) -/
def ptpCheck (off : Nat) (v : Word) (s : State) : Verdict :=
  match off with
  | 0x064 => if stepped (stepWritten v s) s < 0 then .err 0x42 else .ok
  | 0x058 => if 1000000000 ≤ fld v 29 0 then .err 0x42 else .ok
  | 0x068 => if sW v < -549755813 ∨ 549755813 < sW v then .err 0x40 else .ok
  | 0x06C => if sW v < -1000000 ∨ 1000000 < sW v then .err 0x41 else .ok
  | 0x070 => if fld v 4 0 < 10 ∨ 20 < fld v 4 0 then .err 0x41 else .ok
  | 0x074 => if 1000000 < fld v 19 0 then .err 0x43 else .ok
  | 0x07C => if fld v 31 16 < 100 ∨ 60000 < fld v 31 16 then .err 0x43 else .ok
  | _ => .ok

/-- The effect of an accepted write to the PTP page. (DEDUCED, DESIGN CHOICE: log entries 35, 99) -/
def ptpEffect (off : Nat) (v : Word) (s : State) : State :=
  match off with
  | 0x058 => ptpSetEffect s
  | 0x064 => ptpStepEffect s
  | 0x06C => { s with tm := { s.tm with slew := sW v * 2 ^ 40, slewEnded := false } }
  | 0x07C | 0x084 => evalTrace s
  | _ => s

/-- A write to a register of the PTP page. -/
def ptpWrite (m : Master) (off : Nat) (v : Word) (s : State) : State :=
  regCommand m pPtp off v (ptpCheck off v) (ptpEffect off v) s

/-- PTP_SET: a write of PTP_SET_NS (R73). (DEDUCED: log entry 35) -/
def execPtpSet (m : Master) (ns : Word) (s : State) : Host.Outcome State Fault Refusal :=
  .next (issue m .write pPtp 0x058 (ptpWrite m 0x058 ns) s)

/-- PTP_STEP: a write of the high word of PTP_STEP (R73). (DEDUCED: log entry 35) -/
def execPtpStep (m : Master) (hi : Word) (s : State) : Host.Outcome State Fault Refusal :=
  .next (issue m .write pPtp 0x064 (ptpWrite m 0x064 hi) s)

/-- PTP_SLEW: a write of PTP_SLEW (R74). (DEDUCED: log entry 35) -/
def execPtpSlew (m : Master) (amount : Word) (s : State) : Host.Outcome State Fault Refusal :=
  .next (issue m .write pPtp 0x06C (ptpWrite m 0x06C amount) s)

/-- SLEW_DONE: a slew has run out (R74). (DESIGN CHOICE: log entry 11) -/
def execSlewDone (s : State) : Host.Outcome State Fault Refusal :=
  .next (whenClocked s (if s.tm.slewEnded then raiseBit pPtp 5 { s with tm := { s.tm with slewEnded := false } } else s))

/-- PTP_RATE_ADJ: a write of PTP_RATE_ADJ (R70). -/
def execPtpRateAdj (m : Master) (v : Word) (s : State) : Host.Outcome State Fault Refusal :=
  .next (issue m .write pPtp 0x068 (ptpWrite m 0x068 v) s)

/-- The words of a time as PTP_TIME_*, PTP_TSQ_* and CAP_* show it: SEC_LO, SEC_HI, NS, FRAC with the epoch. -/
def timeWords (t16 epoch : Nat) : List Word :=
  let t := NTime.ofT16 t16
  [loW t.sec, hiW t.sec, BitVec.ofNat 32 t.ns, BitVec.ofNat 32 (t.frac * 65536 + epoch)]

/-- The read of PTP_TIME_SEC_LO (R71). -/
def timeSnapshot (m : Master) (s : State) : Word × State :=
  let ws := timeWords s.t16 s.tm.epoch
  (ws.headD 0, setShadows m pPtp 0x044 ws.tail s)

/-- PTP_TIME_SNAPSHOT (R71). -/
def execPtpTimeSnapshot (m : Master) (s : State) : Host.Outcome State Fault Refusal :=
  .next (issue m .read pPtp 0x040 (readCommand m pPtp 0x040 (timeSnapshot m)) s)

/-- SYNC_WINDOW_EXPIRE: the span of the last qualifying Sync has passed (R78). -/
def execSyncWindowExpire (s : State) : Host.Outcome State Fault Refusal := .next (whenClocked s (evalTrace s))

/-! ## Timestamps (R72, R85 to R88) -/

/-- The timestamp block of 16 bytes (R72). -/
def stampBytes (p : Stamp) : List Byte :=
  let t := NTime.ofT16 p.t
  leBytes 8 t.sec ++ leBytes 4 t.ns ++ leBytes 2 t.frac ++ leBytes 1 p.epoch
    ++ leBytes 1 (b2n p.valid * 0x80 + b2n p.traceable * 0x40)

/-- A timestamp of this instant, in units of `grain` 2⁻¹⁶ ns. Its error of at most ±1.0 ns is left open (R85, R97).
(DESIGN CHOICE: log entry 32) -/
def takeStampIn (grain : Nat) (s : State) : Stamp × State :=
  let (w, s) := s.takeFree
  let lo := roundUp (s.t16 - 65536) grain
  let t := (lo + w.toNat % ((s.t16 + 65536) / grain + 1 - lo)) * grain
  ({ t, epoch := s.tm.epoch, valid := true, traceable := traceable s }, s)

/-- A timestamp in the counter's own unit (R85). (DESIGN CHOICE: log entry 32) -/
def takeStamp (s : State) : Stamp × State := takeStampIn 1 s

/-- An entry arrives at the transmit timestamp queue (R86, R88). -/
def tsqPush (e : TsqEntry) (s : State) : State :=
  if s.tm.tsq.length < 16 then
    raiseBit pPtp 0 { s with tm := { s.tm with tsq := s.tm.tsq ++ [e] } }
  else
    let id := BitVec.ofNat 32 (2 ^ 31 + e.port * 2 ^ 30 + e.frameId)
    let s := (s.bumpFldAt pPtp 0x0B8 0 15 0 1).setReg pPtp 0x0C0 id
    let s := if s.rb pPtp 0x0BC 31 then s else s.setReg pPtp 0x0BC id
    raiseBit pPtp 1 s

/-- The read of PTP_TSQ_ID (R87). -/
def tsqPopRead (m : Master) (s : State) : Word × State :=
  match s.tm.tsq with
  | [] => (0, s)
  | e :: rest =>
    (BitVec.ofNat 32 (2 ^ 31 + e.port * 2 ^ 30 + e.msgType * 2 ^ 24 + e.frameId),
      setShadows m pPtp 0x0A4 (timeWords e.stamp.t e.stamp.epoch) { s with tm := { s.tm with tsq := rest } })

/-- TSQ_POP (R87). -/
def execTsqPop (m : Master) (s : State) : Host.Outcome State Fault Refusal :=
  .next (issue m .read pPtp 0x0A0 (readCommand m pPtp 0x0A0 (tsqPopRead m)) s)

/-- The read of PTP_TSQ_LOST: the count, cleared with VALID of both identities (R88). -/
def tsqLost (s : State) : Word × State :=
  (s.reg pPtp 0x0B8,
    ((s.setReg pPtp 0x0B8 0).setFld pPtp 0x0BC 31 31 0).setFld pPtp 0x0C0 31 31 0)

/-- TSQ_LOST_READ (R88). -/
def execTsqLostRead (m : Master) (s : State) : Host.Outcome State Fault Refusal :=
  .next (issue m .read pPtp 0x0B8 (readCommand m pPtp 0x0B8 tsqLost) s)

/-! ## Capture inputs (R96 to R98) -/

def capOff (i r : Nat) : Nat := 0x300 + 0x20 * i + r

/-- A discarded edge (R97 to R99). (DESIGN CHOICE: log entry 33) -/
def capDiscard (i : Nat) (s : State) : State :=
  raiseBit pTtu (20 + i) (s.bumpFldAt pTtu (capOff i 0x1C) 0 15 0 1)

/-- An edge at a capture input whose new level holds for `held` quarter nanoseconds (R96 to R98).
(DESIGN CHOICE: log entries 32, 33) -/
def capEdge (i : Nat) (rising : Bool) (held : Nat) (s : State) : State :=
  let e := s.rf pTtu (capOff i 0) 1 0
  let chosen := if rising then e % 2 = 1 else 2 ≤ e
  if !chosen || held < 16 + 8 * s.rf pTtu (capOff i 0) 15 8 then s
  else
    let st := smAt i s.caps
    let close := match st.last with
      | some t => s.ns < t + 16
      | none => false
    if close || 4 ≤ st.queue.length then capDiscard i s
    else
      let (p, s) := takeStampIn 16384 s
      raiseBit pTtu (16 + i)
        { s with caps := smSet i { queue := st.queue ++ [(rising, p)], last := some s.ns } s.caps }

/-- CAPIN_EDGE (R96). -/
def execCapinEdge (i : Fin 4) (rising : Bool) (heldQns : Nat) (s : State) :
    Host.Outcome State Fault Refusal := .next (whenClocked s (capEdge i.val rising heldQns s))

/-- The read of CAP_POP (R87, R96). -/
def capPopRead (m : Master) (i : Nat) (s : State) : Word × State :=
  let st := smAt i s.caps
  match st.queue with
  | [] => (0, s)
  | (r, p) :: rest =>
    let ws := timeWords p.t 0
    (BitVec.ofNat 32 (2 ^ 31 + b2n r * 2 ^ 30 + p.epoch),
      setShadows m pTtu (capOff i 0x0C) ws
        { s with caps := smSet i { st with queue := rest } s.caps })

/-- CAP_POP (R96). -/
def execCapPop (m : Master) (i : Fin 4) (s : State) : Host.Outcome State Fault Refusal :=
  .next (issue m .read pTtu (capOff i.val 0x08) (readCommand m pTtu (capOff i.val 0x08) (capPopRead m i.val)) s)

/-! ## The VBAT holdover (R100) -/

/-- The counter of seconds of the network time. -/
def nowSec (s : State) : Nat := s.tm.now / 2 ^ 40 / 1000000000

def nowNs (s : State) : Nat := s.tm.now / 2 ^ 40 % 1000000000

/-- The PMU copies the network time into the timekeeping counter; with no crystal the counter is never valid
(R100, R485). (DESIGN CHOICE: log entry 113) -/
def timeCopy (s : State) : State :=
  let s := { s with tm := { s.tm with carry := false } }
  if s.pins.noXtal32 then s
  else
    { s with vbt := { s.vbt with
        valid := true, sec := nowSec s % 2 ^ 48, tick := nowNs s * 32768 / 1000000000, phase := 0, epoch := s.tm.epoch } }

/-- VBAT_TIME_COPY: at a seconds carry, while the TIM domain runs (R100). -/
def execVbatTimeCopy (s : State) : Host.Outcome State Fault Refusal :=
  .next (whenClocked s (if s.tm.carry then timeCopy s else s))

/-- The crystal gave `ticks` in a 64 s window of network time. The trim is the shortfall in
units of 2⁻²⁰; how a half is rounded, and a value outside s16, are left open (R100). (DESIGN CHOICE: log entry 34) -/
def trimUpdate (ticks : Nat) (s : State) : State :=
  let d : Int := 2097152 - Int.ofNat ticks
  let (up, s1) := s.takeBool
  let t : Int := if d % 2 = 0 then d / 2 else if up then d / 2 + 1 else d / 2
  if -32768 ≤ t ∧ t ≤ 32767 then { s1 with vbt := { s1.vbt with trim := t } }
  else
    let (w, s2) := s1.takeFree
    { s2 with vbt := { s2.vbt with trim := (w.extractLsb' 0 16).toInt } }

/-- VBAT_TRIM_UPDATE: the network time measures the crystal only while the TIM domain runs (R100).
(DESIGN CHOICE: log entry 34) -/
def execVbatTrimUpdate (ticks : Nat) (s : State) : Host.Outcome State Fault Refusal :=
  .next (whenClocked s (if s.pins.noXtal32 then s else trimUpdate ticks s))

/-- One tick of the 32.768 kHz crystal: the trim adds or omits single ticks (R100). (DESIGN CHOICE: log entry 113) -/
def vbtTick (v : VbtSt) : VbtSt :=
  let acc := v.trimAcc + v.trim
  let (n, acc) :=
    if (1048576 : Int) ≤ acc then (2, acc - 1048576)
    else if acc ≤ -1048576 then (0, acc + 1048576)
    else (1, acc)
  let t := v.tick + n
  { v with tick := t % 32768, sec := (v.sec + t / 32768) % 2 ^ 48, trimAcc := acc }

/-- 2 ns of the crystal. (DESIGN CHOICE: log entry 2) -/
def vbtAdvance (v : VbtSt) : VbtSt :=
  let ph := v.phase + 65536
  if 1000000000 ≤ ph then vbtTick { v with phase := ph - 1000000000 } else { v with phase := ph }

/-- The load of the network time in the first TIM clock after a device reset or a wake (R100). -/
def timeLoad (s : State) : State :=
  if s.vbt.valid then
    let now := (s.vbt.sec * 1000000000 + s.vbt.tick * 30517578125 / 1000000) * 2 ^ 40
    let e := (s.vbt.epoch + 1) % 256
    let s := { s with
      tm := { now, epoch := e, vbtLoaded := true, roseAt := some s.clk }
      vbt := { s.vbt with epoch := e } }
    raiseBit pPtp 2 s
  else { s with tm := {}, vbt := { s.vbt with epoch := 1 } }

/-! ## Reading the pages of this chapter -/

/-- PTP_STAT (R80). -/
def ptpStat (s : State) : Word :=
  BitVec.ofNat 32 (s.tm.epoch * 256 + b2n (s.tm.slew ≠ 0) * 8 + b2n (syncSeen s) * 4
    + b2n s.tm.vbtLoaded * 2 + b2n (traceable s))

/-- A read of the PTP page: the value and its side effects (R71, R74, R80, R87, R88). -/
def ptpRead (m : Master) (off : Nat) (s : State) : Word × State :=
  match off with
  | 0x040 => timeSnapshot m s
  | 0x044 | 0x048 | 0x04C | 0x0A4 | 0x0A8 | 0x0AC | 0x0B0 => (keptShadow m pPtp off s, s)
  | 0x06C => (BitVec.ofInt 32 (Int.tdiv s.tm.slew (2 ^ 40)), s)
  | 0x078 => (ptpStat s, s)
  | 0x0A0 => tsqPopRead m s
  | 0x0B4 => (BitVec.ofNat 32 s.tm.tsq.length, s)
  | 0x0B8 => tsqLost s
  | _ => (s.reg pPtp off, s)

/-- A read of the TTU page (R92, R96). -/
def ttuRead (m : Master) (off : Nat) (s : State) : Word × State :=
  if 0x300 ≤ off ∧ off < 0x380 then
    let i := (off - 0x300) / 0x20
    match off % 0x20 with
    | 0x04 => (BitVec.ofNat 32 (smAt i s.caps).queue.length, s)
    | 0x08 => capPopRead m i s
    | 0x0C | 0x10 | 0x14 | 0x18 => (keptShadow m pTtu off s, s)
    | 0x1C => (s.reg pTtu off, s.setReg pTtu off 0)
    | _ => (s.reg pTtu off, s)
  else (s.reg pTtu off, s)

end Sys2Proof.Machine
end

