-- ==== Sys2Proof/Machine/Net.lean ====
section
/-! DEFINITION. Sending on the Ethernet ports: links, redundancy control trailers, one copy or two (R106 to
R108, R260). -/

namespace Sys2Proof.Machine

def pEth (p : Nat) : Nat := 135 + p

def ethPort (p : Nat) : EthPort := if p = 0 then .eta else .etb

def ethMaster (p : Nat) : Master := .eth ⟨p % 2, Nat.mod_lt _ (by decide)⟩

/-- ETx_MODE.LINK_UP. -/
def linkUp (p : Nat) (s : State) : Bool := s.rb (pEth p) 0x040 4

/-- Bytes of the Ethernet header with a VLAN tag, when there is one, and the EtherType. -/
def ethHeader (bytes : List Byte) : Nat := if beNat ((bytes.drop 12).take 2) = 0x8100 then 18 else 14

/-- The redundancy control trailer of a frame: sequence number, LanId 0xA or 0xB, LSDUsize, suffix (R108).
(DEDUCED: log entry 39) -/
def rctBytes (p seq : Nat) (bytes : List Byte) : List Byte :=
  beBytes 2 seq ++ beBytes 2 ((0xA + p) * 4096 + (bytes.length - ethHeader bytes + 6) % 4096) ++ beBytes 2 0x88FB

/-- Send a frame on a port; whether it left. A port without a link drops it; one that is disabled or held for test
refuses it (R17, R20). -/
def sendOn (m : Master) (p : Nat) (bytes : List Byte) (s : State) : Bool × State :=
  if (workRefusal (pEth p) s).isSome then (false, refuseWork (pEth p) m s)
  else if linkUp p s then (true, s.emit (.frame (ethPort p) bytes))
  else (false, s)

/-- Send a frame on both ports with one sequence number (R107); whether both copies left: a request of which one copy
was dropped is reported DROPPED. (DESIGN CHOICE: log entry 106) -/
def sendPrp (m : Master) (bytes : List Byte) (s : State) : Bool × State :=
  let seq := s.net.prpSeq
  let s := { s with net := { s.net with prpSeq := (seq + 1) % 65536 } }
  let (a, s) := sendOn m 0 (bytes ++ rctBytes 0 seq bytes) s
  let (b, s) := sendOn m 1 (bytes ++ rctBytes 1 seq bytes) s
  (a && b, s)

/-! ## Headers of IP and UDP (R260) -/

/-- The one's complement sum of bytes taken two at a time. -/
def sum16 : List Byte → Nat
  | [] => 0
  | [a] => a.toNat * 256
  | a :: b :: r => a.toNat * 256 + b.toNat + sum16 r

/-- The Internet checksum over a sum: folded and complemented. -/
def inetCheck (n : Nat) : Nat :=
  let f := n % 65536 + n / 65536
  let f := f % 65536 + f / 65536
  65535 - (f % 65536 + f / 65536) % 65536

/-- Replace `d.length` bytes at offset `o`. -/
def putAt (o : Nat) (d bs : List Byte) : List Byte := bs.take o ++ d ++ bs.drop (o + d.length)

/-- Fill in a header template for a payload: lengths, IPv4 identification and header checksum, UDP checksum.
`portUp` is added to both ports (R260, R261). -/
def fillHeader (ipv6 : Bool) (id portUp : Nat) (tmpl payload : List Byte) : List Byte :=
  let o := ethHeader tmpl
  let ipLen := if ipv6 then 40 else 20
  let u := o + ipLen
  let udpLen := 8 + payload.length
  let port := fun k => (beNat ((tmpl.drop (u + k)).take 2) + portUp) % 65536
  let h := putAt u (beBytes 2 (port 0) ++ beBytes 2 (port 2) ++ beBytes 2 udpLen ++ [0, 0]) tmpl
  let h :=
    if ipv6 then putAt (o + 4) (beBytes 2 udpLen) h
    else
      let h := putAt (o + 2) (beBytes 2 (ipLen + udpLen) ++ beBytes 2 id) h
      let h := putAt (o + 10) [0, 0] h
      putAt (o + 10) (beBytes 2 (inetCheck (sum16 ((h.drop o).take 20)))) h
  let addrs := if ipv6 then (h.drop (o + 8)).take 32 else (h.drop (o + 12)).take 8
  let c := inetCheck (sum16 addrs + 17 + udpLen + sum16 ((h.drop u).take 8) + sum16 payload)
  putAt (u + 6) (beBytes 2 (if c = 0 then 0xFFFF else c)) h

end Sys2Proof.Machine
end

