-- ==== Sys2Proof/Machine/Frames.lean ====
section
/-! DEFINITION. What a received frame says: Ethernet, VLAN and redundancy control trailer, UDP, RTP, RTCP sender
reports and PTP messages (R78, R84, R108, R110, R113, R114). -/

namespace Sys2Proof.Machine

/-- Byte `i` of a message, 0 beyond its end. -/
def octet (bs : List Byte) (i : Nat) : Nat := (bs.getD i 0).toNat

/-- The big-endian number in `n` bytes at offset `o`. -/
def beAt (bs : List Byte) (o n : Nat) : Nat := beNat ((bs.drop o).take n)

/-! ## Ethernet (R84, R108) -/

/-- VLAN identifier of the one tag a frame may bear. (PRESUMED: log entry 100) -/
def vlanOf (bs : List Byte) : Option Nat := if beAt bs 12 2 = 0x8100 then some (beAt bs 14 2 % 4096) else none

def etypeOf (bs : List Byte) : Nat := beAt bs (ethHeader bs - 2) 2

/-- A redundancy control trailer (R108). -/
structure Rct where
  seq : Nat
  lanB : Bool
  deriving DecidableEq, Repr

/-- The trailer that a frame ends with: sequence number, LanId 0xA or 0xB, an LSDUsize that matches, the suffix
(R108). (DEDUCED: log entry 39) -/
def rctOf (bs : List Byte) : Option Rct :=
  let n := bs.length
  let t := bs.drop (n - 6)
  let lan := octet t 2 / 16
  if ethHeader bs + 6 ≤ n && beAt t 4 2 = 0x88FB && (lan = 0xA || lan = 0xB)
      && beAt t 2 2 % 4096 = (n - ethHeader bs) % 4096 then some { seq := beAt t 0 2, lanB := lan = 0xB }
  else none

/-- The frame with its trailer removed. -/
def stripRct (bs : List Byte) : List Byte := if (rctOf bs).isSome then bs.take (bs.length - 6) else bs

/-! ## UDP -/

/-- A UDP datagram: address family, destination address and port, payload. -/
structure Udp where
  ipv6 : Bool
  dst : List Word
  port : Nat
  payload : List Byte
  deriving DecidableEq, Repr

/-- The UDP datagram of a frame without trailer: IPv4 not fragmented, or IPv6 without extension headers.
(PRESUMED: log entry 100) -/
def udpOf (bs : List Byte) : Option Udp :=
  let o := ethHeader bs
  let word := fun k => BitVec.ofNat 32 (beAt bs k 4)
  let at_ := fun (ipv6 : Bool) (dst : List Word) (u : Nat) =>
    let len := beAt bs (u + 4) 2
    if 8 ≤ len && u + len ≤ bs.length then
      some { ipv6, dst, port := beAt bs (u + 2) 2, payload := (bs.drop (u + 8)).take (len - 8) : Udp }
    else none
  if etypeOf bs = 0x0800 then
    if octet bs o / 16 = 4 && octet bs (o + 9) = 17 && beAt bs (o + 6) 2 % 0x4000 = 0 then
      at_ false [word (o + 16)] (o + octet bs o % 16 * 4)
    else none
  else if etypeOf bs = 0x86DD && octet bs (o + 6) = 17 then
    at_ true [word (o + 24), word (o + 28), word (o + 32), word (o + 36)] (o + 40)
  else none

/-! ## PTP (R78, R84) -/

/-- The PTP message of a frame: EtherType 0x88F7, or UDP to port 319 or 320 (R84). -/
def ptpOf (bs : List Byte) : Option (List Byte) :=
  if etypeOf bs = 0x88F7 then some (bs.drop (ethHeader bs))
  else
    match udpOf bs with
    | some d => if d.port = 319 || d.port = 320 then some d.payload else none
    | none => none

/-- domainNumber and clockIdentity of a Sync message (R78). (PRESUMED: log entry 100) -/
def syncOfFrame (bs : List Byte) : Option (Nat × Nat) :=
  match ptpOf bs with
  | some p => if 34 ≤ p.length && octet p 0 % 16 = 0 then some (octet p 4, beAt p 20 8) else none
  | none => none

/-! ## RTP (R110) -/

/-- An RTP packet: header fields, the header with CSRC list and extension, and what follows it. -/
structure RtpPacket where
  version : Nat
  padded : Bool
  marker : Bool
  pt : Nat
  seq : Nat
  ts : Nat
  ssrc : Nat
  head : List Byte
  body : List Byte
  /-- outside its bytes: it carries DONL, it is protected (R111, R113) -/
  donl : Bool := false
  secured : Bool := false
  deriving DecidableEq, Repr

/-- The RTP packet of a datagram, CSRC list and header extension skipped; none when its header does not fit.
(PRESUMED: log entry 100) -/
def rtpOf (f : EthFrame) (d : List Byte) : Option RtpPacket :=
  let base := 12 + octet d 0 % 16 * 4
  let head := if octet d 0 / 16 % 2 = 1 then base + 4 + 4 * beAt d (base + 2) 2 else base
  if d.length < head then none
  else some
    { version := octet d 0 / 64, padded := octet d 0 / 32 % 2 = 1, marker := 128 ≤ octet d 1, pt := octet d 1 % 128
      seq := beAt d 2 2, ts := beAt d 4 4, ssrc := beAt d 8 4, head := d.take head, body := d.drop head
      donl := f.donl, secured := f.secured }

/-- A payload without its padding; none when the padding count is wrong. -/
def unpad (padded : Bool) (b : List Byte) : Option (List Byte) :=
  if !padded then some b
  else
    let n := octet b (b.length - 1)
    if n = 0 || b.length < n then none else some (b.take (b.length - n))

/-! ## RTCP (R113, R114) -/

/-- RTCP among RTP by its packet type (RFC 5761). (PRESUMED: log entry 100) -/
def isRtcp (d : List Byte) : Bool := octet d 0 / 64 = 2 && 192 ≤ octet d 1 && octet d 1 ≤ 223

/-- An RTCP sender report (R114). -/
structure SenderReport where
  ssrc : Nat
  ntpSec : Nat
  ntpFrac : Nat
  rtp : Nat
  deriving DecidableEq, Repr

/-- The sender report that an RTCP packet in the clear begins with. (PRESUMED: log entry 100) -/
def senderReportOf (d : List Byte) : Option SenderReport :=
  if octet d 1 = 200 && 28 ≤ d.length then
    some { ssrc := beAt d 4 4, ntpSec := beAt d 8 4, ntpFrac := beAt d 12 4, rtp := beAt d 16 4 }
  else none

/-- E flag and index of a protected RTCP packet, its clear head and its sealed part (RFC 7714).
(PRESUMED: log entry 100) -/
def srtcpParts (d : List Byte) : Bool × Nat × List Byte × List Byte :=
  let w := beAt d (d.length - 4) 4
  (decide (2 ^ 31 ≤ w), w % 2 ^ 31, d.take 8, (d.drop 8).take (d.length - 12))

end Sys2Proof.Machine
end

