-- ==== Sys2Proof/Machine/Surface.lean ====
section
/-! DEFINITION. Surface formats and where their planes and headers lie (R156 to R160). -/

namespace Sys2Proof.Machine

/-! ## Formats (R156) -/

def fmtPlanar (f : Nat) : Bool := f ≤ 3

def fmtMborin (f : Nat) : Bool := f = 2 || f = 3 || f = 6 || f = 7

/-- Bits per component of a format; 10 for PK32_C10. -/
def fmtDepth (f : Nat) : Nat := if f = 1 || f = 3 || f = 5 || f = 7 || f = 8 then 10 else 8

/-! ## Planes of blocks (R160) -/

/-- A plane of 16 × 4 sample blocks: its channels. -/
inductive PlaneKind where
  | luma8 | chroma8 | luma10 | chroma10 | argb8 | argb10
  deriving DecidableEq, Repr

/-- Byte width of one block row (R160). -/
def PlaneKind.bw : PlaneKind → Nat
  | .luma8 | .chroma8 => 16
  | .luma10 | .chroma10 => 32
  | .argb8 | .argb10 => 64

/-- The unit of a PACKED payload: half the byte width of a block row (R160). -/
def PlaneKind.unit (k : PlaneKind) : Nat := k.bw / 2

/-- The plane kinds of a format: plane 0 and the chroma plane. -/
def fmtPlane0 (f : Nat) : PlaneKind :=
  match f with
  | 0 | 2 => .luma8
  | 1 | 3 => .luma10
  | 4 | 6 => .argb8
  | _ => .argb10

def fmtPlane1 (f : Nat) : PlaneKind := if fmtDepth f = 10 then .chroma10 else .chroma8

/-! ## Surfaces in memory -/

/-- The header stride HS of a plane kind (R161). -/
def headerStride (k : PlaneKind) (stride : Nat) : Nat := roundUp (roundUp (stride / k.bw) 2) 64 * 64

/-- Luma block rows: H4 / 4. -/
def blockRows (h : Nat) : Nat := roundUp h 4

/-- The plane of a surface that holds luma (false) or chroma (true): kind, address, first header row. -/
def Surf.plane (f : Surf) (chroma : Bool) : PlaneKind × Nat × Nat :=
  if chroma then (fmtPlane1 f.fmt, f.plane1, blockRows f.h) else (fmtPlane0 f.fmt, f.plane0, 0)

end Sys2Proof.Machine
end

