-- ==== Sys2Proof/Machine/Pool.lean ====
section
/-! DEFINITION. The reference pool: buffers, marks, allocation and the hand-over of a frame (R134 to R142,
R35 to R42). -/

namespace Sys2Proof.Machine

/-- The page that holds the dispatcher window's registers (R150). -/
def pDsp : Nat := 56

def setDsp (c : Nat) (f : DspSt → DspSt) (s : State) : State :=
  { s with dsp := smSet c (f (smAt c s.dsp)) s.dsp }

def setBuf (b : Nat) (f : BufSt → BufSt) (s : State) : State :=
  { s with buf := smSet b (f (smAt b s.buf)) s.buf }

/-! ## Marks (R136) -/

def mkFill : Nat := 31

def mkRef : Nat := 30

def mkPend : Nat := 29

def mkNewest : Nat := 28

def mkHoldSw : Nat := 27

/-- HOLD_NG of a Ngurelo port: NGP in bit 24 to NGR in bit 26. -/
def mkHoldNg (p : Nat) : Nat := 24 + p

def marks (b : Nat) (s : State) : Word := s.regAt pDsp 0x890 b

def marked (b i : Nat) (s : State) : Bool := bit (marks b s) i

def setMark (b i : Nat) (on : Bool) (s : State) : State := s.setFldAt pDsp 0x890 b i i (b2n on)

def bufFree (b : Nat) (s : State) : Bool := marks b s = 0

/-- Clear a mark on every buffer of a list. -/
def clearMarks (i : Nat) (bs : List Nat) (s : State) : State := bs.foldl (fun s b => setMark b i false s) s

/-- The buffers that belong to a context. -/
def ownedBufs (c : Nat) (s : State) : List Nat := (s.buf.filter fun e => e.2.owner = some c).map (·.1)

/-- The context's NEWEST buffer. -/
def newestBuf (c : Nat) (s : State) : Option Nat := (ownedBufs c s).find? fun b => marked b mkNewest s

/-! ## Descriptors (R134, R135) -/

/-- The descriptor in 64 bytes, the context it names, and whether its CHECK holds. -/
def parseDesc (bs : List Byte) : Desc × Nat × Bool :=
  let n := fun o k => leNat ((bs.drop o).take k)
  ({ plane0 := n 0x00 8, plane1 := n 0x08 8, header := n 0x10 8, record := n 0x18 8, cmap := n 0x20 8
     bctmap := n 0x28 8, maxW := n 0x30 2, maxH := n 0x32 2, stride := n 0x34 4, depth := n 0x39 1 },
    n 0x38 1, n 0x3C 4 = (crc32c (bs.take 0x3C)).toNat)

/-- The conditions of R135 on a descriptor that names a context. -/
def descOk (c b : Nat) (d : Desc) (s : State) : Bool :=
  let cfg := ctxCfg c s
  inRecRegion d.record 64 s && inRecRegion d.cmap 2048 s
    && (d.bctmap = 0 || (inRecRegion d.bctmap 131072 s && bit cfg 30))
    && d.plane0 % 64 = 0 && d.plane1 % 64 = 0 && d.header % 64 = 0
    && (bufFree b s || match (smAt b s.buf).owner with
      | some o => o = c
      | none => true)

def poolBase (s : State) : Nat := s.pair pDsp 0x808

def poolCount (s : State) : Nat := s.rf pDsp 0x810 12 0

/-- Read the descriptors that name a context: the first bad one's address, or the copies (R134, R135). -/
def readDescs (bus : Bus) (m : Master) (c : Nat) : Nat → Nat → State → Except Nat (List (Nat × Desc)) × State
  | 0, _, s => (.ok [], s)
  | n + 1, b, s =>
    let a := poolBase s + 64 * b
    let (_, bs, s) := bus.read m a 64 s
    let (d, own, chk) := parseDesc bs
    if own ≠ c then readDescs bus m c n (b + 1) s
    else if !chk || !descOk c b d s then (.error a, s)
    else
      let (r, s) := readDescs bus m c n (b + 1) s
      (r.map ((b, d) :: ·), s)

/-! ## Allocation (R137) -/

/-- What a picture needs of its buffer. -/
structure Need where
  w : Nat
  h : Nat
  /-- the depth asked for, and whether a buffer of a greater depth will do -/
  depth : Nat
  atLeast : Bool
  planar : Bool
  mborin : Bool
  deriving Repr

/-- Whether a buffer holds a picture (R137). A PLANE0 of 0 names no plane. (DESIGN CHOICE: log entry 107) -/
def holds (n : Need) (d : Desc) : Bool :=
  n.w ≤ d.maxW && n.h ≤ d.maxH && (if n.atLeast then n.depth ≤ d.depth else d.depth = n.depth)
    && d.plane0 ≠ 0 && (!n.planar || d.plane1 ≠ 0) && (!n.mborin || d.header ≠ 0)

/-- The buffers of a context's copy that still belong to it (R135). -/
def ctxBufs (c : Nat) (s : State) : List Nat :=
  (smAt c s.dsp).bufs.filter fun b => (smAt b s.buf).owner = some c

/-- Those that hold a picture. -/
def holdingBufs (c : Nat) (n : Need) (s : State) : List Nat :=
  (ctxBufs c s).filter fun b => holds n (smAt b s.buf).desc

/-- The lowest-numbered FREE buffer that holds a picture, its FILL mark set (R136, R137). `fresh` are the buffers
freed in the clock of the request, which never takes them (R138); in WITHDRAWN the table is frozen (R31). -/
def allocBuf (c : Nat) (n : Need) (fresh : List Nat) (s : State) : Option Nat × State :=
  match (holdingBufs c n s).find? fun b => bufFree b s && !fresh.contains b with
  | none => (none, s)
  | some b => if s.dev = devWithdrawn then (none, s) else (some b, setMark b mkFill true s)

/-- The buffers of a context that the step from `was` to `s` has freed. -/
def freedBufs (c : Nat) (was s : State) : List Nat := (ctxBufs c s).filter fun b => bufFree b s && !bufFree b was

/-- Allocation by a block that has freed buffers since `was`: whether its request reaches the table in the clock of
the freeing is open (R138). (DESIGN CHOICE: log entry 102) -/
def allocAfter (was : State) (c : Nat) (n : Need) (s : State) : Option Nat × State :=
  match freedBufs c was s with
  | [] => allocBuf c n [] s
  | fresh =>
    let (same, s) := s.takeBool
    allocBuf c n (if same then fresh else []) s

/-- DSP_CTX_CTRL.EN. -/
def dspOn (c : Nat) (s : State) : Bool := bit (s.regAt pDsp 0x840 c) 0

/-! ## Delivery (R35, R37, R139, R140) -/

/-- A frame complete in buffer `b` is delivered: its record is written when a record region is set, and it
becomes the context's NEWEST. `n` are the counts its record carries. (DESIGN CHOICE: log entry 113) -/
def deliverWith (bus : Bus) (m : Master) (c b : Nat) (i : FrameInfo) (n : Counts) (s : State) : State :=
  let s := if recSize s = 0 then s else (bus.write m (smAt b s.buf).desc.record (recBytes c i n) s).2
  let s := showNewest c i n s
  let s := count c stAuOut (s.setRegAt pDsp 0x8A8 b (BitVec.ofNat 32 n.seq))
  let s := if i.conceal then s.bumpAt pDsp 0x868 c 1 else s
  setMark b mkNewest true (clearMarks mkNewest (ownedBufs c s) s)

/-- DSP_BUF_GEOM, the crop window and DSP_BUF_INFO of a stored picture (R140, R150). -/
def setGeometry (b w h cl ct cw ch : Nat) (d10 : Bool) (s : State) : State :=
  let s := s.setRegAt pDsp 0x898 b (BitVec.ofNat 32 (w * 65536 + h))
  let s := s.setRegAt pDsp 0x89C b (BitVec.ofNat 32 (cl * 65536 + ct))
  let s := s.setRegAt pDsp 0x8A0 b (BitVec.ofNat 32 (cw * 65536 + ch))
  s.setFldAt pDsp 0x8A4 b 8 8 (b2n d10)

/-- The surface of a stored picture. -/
def bufSurf (b : Nat) (s : State) : Surf :=
  let st := smAt b s.buf
  { fmt := st.fmt, plane0 := st.desc.plane0, plane1 := st.desc.plane1, header := st.desc.header
    stride := st.desc.stride, w := s.rfAt pDsp 0x898 b 31 16, h := s.rfAt pDsp 0x898 b 15 0 }

end Sys2Proof.Machine
end

