-- ==== Sys2Proof/Machine/Raster.lean ====
section
/-! DEFINITION. The raster of an output and its latch points: timing in force, line times, and how the LATCH
fields of a page are taken (R22, R186, R225, R226, R234, R235). -/

namespace Sys2Proof.Machine

def pCmp (n : Nat) : Nat := 82 + n
def pGrd (n : Nat) : Nat := 98 + n

def setCmp (n : Nat) (f : CmpSt → CmpSt) (s : State) : State :=
  { s with cmp := smSet n (f (smAt n s.cmp)) s.cmp }

def setGrd (n : Nat) (f : GrdSt → GrdSt) (s : State) : State :=
  { s with grd := smSet n (f (smAt n s.grd)) s.grd }

/-! ## Timing in force: the leader's (R225, R226, R234) -/

/-- The timing registers of an output as they govern its raster. -/
structure Timing where
  hA : Nat
  hT : Nat
  hFp : Nat
  hSync : Nat
  vA : Nat
  vT : Nat
  vFp : Nat
  vSync : Nat
  depth : Nat
  sched : Schedule

def timingOf (n : Nat) (s : State) : Timing :=
  let l := leaderOf n s
  let p := pOut l
  { hA := s.rf p 0x04C 31 16, hT := s.rf p 0x04C 15 0, hFp := s.rf p 0x050 12 0, hSync := s.rf p 0x050 25 16
    vA := s.rf p 0x054 31 16, vT := s.rf p 0x054 15 0, vFp := s.rf p 0x058 12 0, vSync := s.rf p 0x058 21 16
    depth := if s.rb p 0x05C 0 then 10 else 8
    sched := outSchedule l s }

/-- The start of line `line` after line 0, rounded up, in units of 2⁻⁴⁰ ns: line × P / V_TOTAL (R33, R226). -/
def lineTime40 (p32 vT line : Nat) : Nat := roundUp (line * p32 * 256) vT

/-- The same in units of 2⁻¹⁶ ns. -/
def lineTime16 (p32 vT line : Nat) : Nat := roundUp (line * p32) (vT * 65536)

/-- The counter less the phase, in units of 2⁻⁴⁰ ns: what SETs and STEPs have changed (R232). -/
def counterTerms (s : State) : Int := Int.ofNat s.tm.now - Int.ofNat s.tm.run

/-- Petal columns and rows of a raster (R43). -/
def petalCols (f : FrameIn) : Nat := roundUp f.hA 64
def petalRows (f : FrameIn) : Nat := roundUp f.vA 64

/-! ## Latching (R22, R186, R235) -/

/-- The crossing bound to PIX in TIM clocks of 2 ns, rounded up: 8 FAB clocks and 8 pixel periods (R22).
(DEDUCED: log entry 23) -/
def pixBound (n : Nat) (s : State) : Nat :=
  let t := timingOf n s
  roundUp 20 6 + roundUp (8 * t.sched.p) (2 * 2 ^ 32 * (t.hT * t.vT))

/-- The crossed registers of a page are taken in its domain: writes older than the bound have arrived; how many of
the younger ones have is open (R22). (DEDUCED: log entry 23) -/
def takeCrossed (page bound : Nat) (s : State) : State :=
  let q := s.xq.filter fun x => x.page = page
  let old := (q.takeWhile fun x => x.clk + bound ≤ s.clk).length
  let s := drainN page old s
  let young := q.length - old
  let s :=
    if young = 0 then s
    else
      let (w, s) := s.takeFree
      drainN page (w.toNat % (young + 1)) s
  let keep := s.latched.filter fun e => e.1 / 0x1000 % 0x100 ≠ page
  let new := s.pix.filter fun e => e.1 / 0x1000 % 0x100 = page
  { s with latched := new.foldl (fun m e => smPut resetOf e.1 e.2 m) keep }

/-- A latch point takes the LATCH fields of a page: the values present in PIX (R186). (DEDUCED: log entry 23) -/
def takeLatch (n page : Nat) (s : State) : State := takeCrossed page (pixBound n s) s

/-- The pairs that reached PIX since the last latch point have been taken (R187). -/
def clearArrived (page : Nat) (s : State) : State :=
  { s with arrived := s.arrived.filter fun k => k / 0x1000 % 0x100 ≠ page }

/-- A pair as latched. -/
def State.latchedPair (s : State) (page off : Nat) : Nat :=
  (s.latchedReg page off).toNat + 2 ^ 32 * (s.latchedReg page (off + 4)).toNat

end Sys2Proof.Machine
end

