-- ==== Sys2Proof/Machine/Pixels.lean ====
section
/-! DEFINITION. The tables of a pipe: transfer functions and coefficients (R170, R173). -/

namespace Sys2Proof.Machine

/-! ## Tables (R167, R168, R170, R173) -/

/-- Entry `i` of every transfer table at reset (R170). -/
def tfReset (i : Nat) : Nat := (i * 16383 + 2047) / 4095

/-- Entry `i` of table `t`: 0 to 3 the input tables, 4 and 5 the output tables. -/
def tfEntry (c : CmpSt) (t i : Nat) : Nat := smRead (fun k => tfReset (k % 4096)) (t * 4096 + i) c.tf

/-- The place of a coefficient: set, axis (0 horizontal, 1 vertical), phase, tap. -/
def coefKey (set axis phase tap : Nat) : Nat := ((set * 2 + axis) * 64 + phase) * 8 + tap

/-- A coefficient at reset, as its 10-bit register value: bilinear (R173). -/
def coefReset (k : Nat) : Nat :=
  let p := k / 8 % 64
  let tap := k % 8
  let first := if k / 512 % 2 = 0 then 3 else 2
  if tap = first then 256 - 4 * p else if tap = first + 1 then 4 * p else 0

def coefRaw (c : CmpSt) (key : Nat) : Nat := smRead coefReset key c.coef

/-! ## Blending (R174 to R178) -/

/-- Whether a raster position lies in the destination rectangle of a layer. -/
def inDst (l : LayerIn) (x y : Nat) : Bool := l.dx ≤ x && x < l.dx + l.dw && l.dy ≤ y && y < l.dy + l.dh

end Sys2Proof.Machine
end

