-- ==== Sys2Proof/Machine/Compose.lean ====
section
/-! DEFINITION. A composition pipe: its registers and tables, what its layers take, and its stop (R170, R173, R179 to
R192). -/

namespace Sys2Proof.Machine

def layOff (k r : Nat) : Nat := 0x100 + 0x80 * k + r

/-! ## Tables in use (R170, R173) -/

/-- The Lk_CTRL values that count for R170: as latched and as last written, of enabled layers.
(DESIGN CHOICE: log entry 111) -/
def ctrlsInUse (n : Nat) (s : State) : List Word :=
  (List.range 8).flatMap fun k =>
    [s.latchedReg (pCmp n) (layOff k 0), s.reg (pCmp n) (layOff k 0)].filter fun w => bit w 31

/-- A transfer table is in use: named by an enabled layer, or as the output table of an enabled pipe (R170, R179).
(DEDUCED: log entry 49) -/
def tfInUse (n t : Nat) (s : State) : Bool :=
  if t < 4 then (ctrlsInUse n s).any fun w => fld w 23 22 = t
  else s.enabled (pCmp n) && [s.latchedReg (pCmp n) 0x048, s.reg (pCmp n) 0x048].any fun w => fld w 2 2 = t - 4

def coefInUse (n set : Nat) (s : State) : Bool := (ctrlsInUse n s).any fun w => fld w 21 20 = set

/-- CMP_TBL_USE. -/
def tblUse (n : Nat) (s : State) : Word :=
  let sum := fun k f => (List.range k).foldl (fun a i => a + b2n (f i) * 2 ^ i) 0
  BitVec.ofNat 32 (sum 4 (fun i => coefInUse n i s) * 256 + sum 6 (fun i => tfInUse n i s))

/-! ## Register writes (R170, R173, R179, R190) -/

/-- The range rules of R179 for a LATCH field. -/
def cmpRange (off : Nat) (v : Word) : Bool :=
  match (off - 0x100) % 0x80 with
  | 0x18 => 1 ≤ fld v 31 16 && fld v 31 16 ≤ 8192 && 1 ≤ fld v 15 0 && fld v 15 0 ≤ 8192
  | 0x28 => fld v 31 16 ≤ 16384 && fld v 15 0 ≤ 16384
  | _ => true

def cmpCheck (n off : Nat) (v : Word) (s : State) : Verdict :=
  let p := pCmp n
  if off = 0x064 then
    let t := s.rf p 0x060 14 12
    if 6 ≤ t then .err 0x41 else if tfInUse n t s then .err 0x40 else .ok
  else if off = 0x06C then
    if coefInUse n (s.rf p 0x068 13 12) s then .err 0x40
    else if s.rb p 0x068 11 && 5 < s.rf p 0x068 2 0 then .err 0x41
    else .ok
  else
    match findRow p off with
    | some r =>
      if r.latch && v &&& r.resv ≠ 0 then .err 0x41
      else if 0x100 ≤ off && !cmpRange off v then .err 0x41
      else .ok
    | none => .ok

/-- ENTRY advances after each write of CMP_TF_DATA (R170, R179). (DEDUCED: log entry 49) -/
def tfAdvance (n : Nat) (s : State) : State :=
  s.setFld (pCmp n) 0x060 11 0 ((s.rf (pCmp n) 0x060 11 0 + 1) % 4096)

/-- TAP advances, and PHASE after the last tap of the axis (R173). (DEDUCED: log entry 49) -/
def coefAdvance (n : Nat) (s : State) : State :=
  let p := pCmp n
  let last := if s.rb p 0x068 11 then 5 else 7
  if s.rf p 0x068 2 0 = last then
    (s.setFld p 0x068 2 0 0).setFld p 0x068 10 5 ((s.rf p 0x068 10 5 + 1) % 64)
  else s.setFld p 0x068 2 0 (s.rf p 0x068 2 0 + 1)

def cmpEffect (n off : Nat) (v : Word) (s : State) : State :=
  let p := pCmp n
  if off = 0x064 then
    let k := s.rf p 0x060 14 12 * 4096 + s.rf p 0x060 11 0
    tfAdvance n (setCmp n (fun c => { c with tf := smPut (fun k => tfReset (k % 4096)) k (fld v 13 0) c.tf }) s)
  else if off = 0x06C then
    let k := coefKey (s.rf p 0x068 13 12) (s.rf p 0x068 11 11) (s.rf p 0x068 10 5) (s.rf p 0x068 2 0)
    coefAdvance n (setCmp n (fun c => { c with coef := smPut coefReset k (fld v 9 0) c.coef }) s)
  else s

/-- A write to a register of a CMP page. -/
def cmpWrite (m : Master) (n off : Nat) (v : Word) (s : State) : State :=
  let refused : Bool := (admitWrite m (pCmp n) off v s).isNone &&
    (match cmpCheck n off v s with
      | .err _ => true
      | _ => false)
  let t := regCommand m (pCmp n) off v (cmpCheck n off v) (cmpEffect n off v) s
  if off = 0x064 && refused then tfAdvance n t else t

def execTfDataWrite (m : Master) (n : Fin 16) (v : Word) (s : State) : Host.Outcome State Fault Refusal :=
  .next (issue m .write (pCmp n.val) 0x064 (cmpWrite m n.val 0x064 v) s)

def execCoefDataWrite (m : Master) (n : Fin 16) (v : Word) (s : State) : Host.Outcome State Fault Refusal :=
  .next (issue m .write (pCmp n.val) 0x06C (cmpWrite m n.val 0x06C v) s)

/-- A read of a CMP page. (DESIGN CHOICE: log entry 111) -/
def cmpRead (n off : Nat) (s : State) : Word × State :=
  let p := pCmp n
  let c := smAt n s.cmp
  match off with
  | 0x054 => (tblUse n s, s)
  | 0x064 =>
    let t := s.rf p 0x060 14 12
    (BitVec.ofNat 32 (if t < 6 then tfEntry c t (s.rf p 0x060 11 0) else 0), s)
  | 0x06C =>
    let tap := s.rf p 0x068 2 0
    (BitVec.ofNat 32 (if s.rb p 0x068 11 && 5 < tap then 0
      else coefRaw c (coefKey (s.rf p 0x068 13 12) (s.rf p 0x068 11 11) (s.rf p 0x068 10 5) tap)), s)
  | _ => (s.reg p off, s)

/-- BLK_STAT.BLOCK of a CMP page (R179). -/
def cmpBlock (n : Nat) (s : State) : Nat :=
  let rep := (List.range 8).foldl (fun a k => a + b2n (s.rb (pCmp n) (layOff k 0x40) 10) * 2 ^ k) 0
  s.rf (pCmp n) 0x070 7 0 * 256 + rep

/-! ## Holds (R136, R182) -/

/-- The pool buffers that the layers of a pipe hold. -/
def heldBufs (n : Nat) (s : State) : List Nat :=
  (List.range 8).filterMap fun k =>
    if s.rb (pCmp n) (layOff k 0x44) 31 then some (s.rf (pCmp n) (layOff k 0x44) 11 0) else none

/-- HOLD_CMP*n* follows the buffers that layers hold, from those held before. -/
def moveHolds (n : Nat) (before : List Nat) (s : State) : State :=
  let now := heldBufs n s
  let s := clearMarks n (before.filter fun b => !now.contains b) s
  now.foldl (fun s b => setMark b n true s) s

/-- CMP*n* is disabled or soft-reset: every hold is released, DELIVERED and Lk_FADDR_TAKEN are cleared, and the
frame in progress is abandoned (R182, R191, R192). (DESIGN CHOICE: log entry 111) -/
def cmpStop (n : Nat) (s : State) : State :=
  let before := heldBufs n s
  let s := (List.range 8).foldl (fun s k =>
    ((s.setReg (pCmp n) (layOff k 0x44) 0).setFld (pCmp n) (layOff k 0x40) 9 9 0).setReg (pCmp n)
      (layOff k 0x4C) 0xFFFFFFFF) s
  let s := moveHolds n before s
  let s := setCmp n (fun c => { c with failed := [] }) s
  let drop := fun (f : Frame) => { f with seq := none }
  setOut n (fun t => { t with coming := t.coming.map drop, scan := t.scan.map drop }) s

/-! ## Liveness records at the latch point (R38, R51, R184) -/

/-- The limits of a source context as its registers hold them. -/
def limitsNow (c : Nat) (s : State) : LvLimits :=
  { futureTol := s.rfAt pSrc 0x200 c 31 16, pressMode := s.rfAt pSrc 0x200 c 1 0
    wilt := (s.regAt pSrc 0x204 c).toNat, frames := s.rfAt pSrc 0x208 c 15 0
    tokenMs := s.rfAt pSrc 0x20C c 15 0 }

/-! ## Frames taken (R182 to R187) -/

/-- What a CTX-mode layer takes (R182, R183): the buffer it holds afterwards, whether it repeats, whether it
took a new one, the context in use, and whether a change of CTX waits. -/
structure Take where
  held : Option Nat
  repeats : Bool
  took : Bool
  ctx : Nat
  pending : Bool

/-- What a CTX-mode layer takes at a latch point (R182). (DEDUCED: log entry 49) -/
def takeCtx (held : Option Nat) (inUse named : Nat) (s : State) : Take :=
  let nb := newestBuf named s
  let inUse := if held.isNone then named else inUse
  let pending := decide (named ≠ inUse) && nb.isNone
  let ctx := if nb.isSome then named else inUse
  match nb, held with
  | some b, h =>
    if h = some b then { held, repeats := true, took := false, ctx, pending }
    else { held := some b, repeats := false, took := true, ctx, pending }
  | none, some _ => { held, repeats := true, took := false, ctx, pending }
  | none, none => { held, repeats := false, took := false, ctx, pending }

/-- The low words of the FADDR pairs that have reached PIX since the last latch point (R187). -/
def newFaddr (n k : Nat) (s : State) : Bool := s.arrived.contains (rkey (pCmp n) (layOff k 0x08) 0)

/-- Layer `k` takes its frame for frame number `no` (R182 to R187). (DESIGN CHOICE: log entry 111) -/
def takeLayer (n k no : Nat) (s : State) : State :=
  let p := pCmp n
  let o := layOff k
  let ctrl := s.latchedReg p (o 0)
  let s :=
    if newFaddr n k s then
      setCmp n (fun c => { c with paired := k :: c.paired.filter (· ≠ k) })
        (s.setReg p (o 0x4C) (BitVec.ofNat 32 no))
    else s
  let held := if s.rb p (o 0x44) 31 then some (s.rf p (o 0x44) 11 0) else none
  let named := fld ctrl 14 8
  if bit ctrl 30 then
    let s := (((s.setReg p (o 0x44) 0).setFld p (o 0x40) 31 16 0).setFld p (o 0x40) 11 10 0)
    if !(smAt n s.cmp).paired.contains k then s
    else
      let s := s.setFld p (o 0x40) 9 9 1
      if s.reg p (o 0x4C) = 0xFFFFFFFF then s.setReg p (o 0x4C) (BitVec.ofNat 32 no) else s
  else if bit ctrl 31 || held.isSome then
    let t := takeCtx held (smAt k (smAt n s.cmp).ctx) named s
    let s := setCmp n (fun c => { c with ctx := smSet k t.ctx c.ctx }) s
    let s := s.setReg p (o 0x44) (match t.held with
      | some b => BitVec.ofNat 32 (2 ^ 31 + b)
      | none => 0)
    let s := (s.setFld p (o 0x40) 11 11 (b2n t.pending)).setFld p (o 0x40) 10 10 (b2n t.repeats)
    if t.took then (s.setFld p (o 0x40) 31 16 0).setFld p (o 0x40) 9 9 1
    else if t.repeats then (s.bumpFldAt p (o 0x40) 0 31 16 1).bump p (o 0x48)
    else s.setFld p (o 0x40) 31 16 0
  else
    let s := setCmp n (fun c => { c with ctx := smSet k named c.ctx }) s
    (s.setFld p (o 0x40) 31 16 0).setFld p (o 0x40) 11 10 0

/-! ## Rows delivered (R192, R195, R196) -/

/-- The index of a petal in the tables of a frame. -/
def petalIdx (c r : Nat) : Nat := 64 * r + c

/-- The frame that a pipe composes: the coming one, else the one in scan. -/
def composing (n : Nat) (s : State) : Option Frame :=
  match (smAt n s.out).coming with
  | some f => some f
  | none => (smAt n s.out).scan

def setComposing (n : Nat) (f : Frame) (s : State) : State :=
  setOut n (fun t => if t.coming.isSome then { t with coming := some f } else { t with scan := some f }) s

/-- CMP_FRAME_COMPLETE: the last pixel of the frame has been delivered (R192). -/
def execCmpFrameComplete (n : Fin 16) (s : State) : Host.Outcome State Fault Refusal :=
  .next (whenPixel s (match composing n.val s with
    | none => s
    | some f =>
      match f.seq with
      | some q =>
        if f.delivered = petalRows f.inp && !f.completed then
          setComposing n.val { f with completed := true } (s.setReg (pCmp n.val) 0x050 (BitVec.ofNat 32 q))
        else s
      | none => s))

end Sys2Proof.Machine
end

