-- ==== Sys2Proof/Machine/Claims.lean ====
section
/-! DEFINITION. Pictures over Ngurelo: what a sender reads of a picture, the claim gate, the history of pictures,
taking a picture into the pool, and the duties with their loopback (R38, R40, R279 to R288, R294). -/

namespace Sys2Proof.Machine

/-- The lanes are idle in WATCH and TEST (R299). -/
def lanesLive (s : State) : Bool := s.dev = devBoot || s.dev = devRun || s.dev = devWithdrawn

def pNg (p : Nat) : Nat := 131 + p

def pKib : Nat := 134

def ngMaster (p : Nat) : Master := .ng ⟨p % 3, Nat.mod_lt _ (by decide)⟩

/-- KIB_DEVICE.ID and the boot tag (R277). -/
def ownId (s : State) : Nat := s.rf pKib 0x040 15 0

def ownTag (s : State) : Nat := (Config.bootTag s.pwr.resets).toNat % 255 + 1

/-- A field of a flit's payload, by its offset in the flit. -/
def pf (pl : List Byte) (off n : Nat) : Nat := leNat ((pl.drop (off - 0x10)).take n)

/-! ## Segments of a picture (R281) -/

/-- Plane and row of the segments, in the order sent. (DEDUCED: log entry 61) -/
def segments (fmt h heightBlk : Nat) (conceal bct : Bool) : List (Nat × Nat) :=
  let rows := fun (p n : Nat) => (List.range n).map fun r => (p, r)
  (if fmtMborin fmt then
      rows 0 (blockRows h) ++ (if fmtPlanar fmt then rows 1 (blockRows (roundUp h 2)) else [])
    else if fmt = 8 then rows 0 h
    else [])
    ++ (if conceal then [(2, 0)] else []) ++ (if bct then rows 3 heightBlk else [])

/-- Blocks in a block row (R281). -/
def blocksInRow (w : Nat) : Nat := roundUp w 16

/-- The header code of block `bx` in the packed codes of a block row. -/
def codeOf (codes : List Byte) (bx : Nat) : Nat :=
  let b := (codes.getD (bx / 2) 0).toNat
  if bx % 2 = 0 then b % 16 else b / 16

/-- Bytes that a block of a header code occupies: 0 for ZERO, 8 units for RAW. -/
def codeBytes (k : PlaneKind) (code : Nat) : Nat := if code ≤ 8 then code * k.unit else 0

/-- The length of a segment, once its bytes tell it. -/
def segLength (fmt w heightBlk widthBlk plane : Nat) (got : List Byte) : Option Nat :=
  match plane with
  | 2 => some (16 * heightBlk)
  | 3 => some (8 * widthBlk)
  | _ =>
    if fmt = 8 then some (4 * w)
    else
      let k := if plane = 1 then fmtPlane1 fmt else fmtPlane0 fmt
      let nb := blocksInRow w
      let n := roundUp nb 2
      if got.length < n then none
      else some (n + (List.range nb).foldl (fun a bx => a + codeBytes k (codeOf got bx)) 0)

/-! ## Sending (R38, R40, R280 to R282) -/

/-- A record as a port reads it: its fields, and whether it is trustworthy (R35, R38). -/
structure RecRead where
  bytes : List Byte
  good : Bool
  deriving Repr

def RecRead.nat (r : RecRead) (off n : Nat) : Nat := leNat ((r.bytes.drop off).take n)

/-- Read the record of a buffer. Without a record region there is none (R37). -/
def readRecord (bus : Bus) (m : Master) (b : Nat) (s : State) : RecRead × State :=
  if recSize s = 0 then ({ bytes := List.replicate 64 0, good := false }, s)
  else
    let (ok, bs, s) := bus.read m (smAt b s.buf).desc.record 64 s
    let r : RecRead := { bytes := bs, good := true }
    let flags := r.nat 0x0F 1
    let cmap := r.nat 0x28 8
    let bmap := r.nat 0x30 8
    let good := ok && r.nat 0x38 4 = (crc32c (bs.take 0x38)).toNat && r.nat 0x10 1 < 128
      && (!flags.testBit 3 || inRecRegion cmap (16 * r.nat 0x26 2) s)
      && (!flags.testBit 2 || inRecRegion bmap (roundUp (8 * r.nat 0x24 2) 64 * 64 * r.nat 0x26 2) s)
    ({ r with good }, s)

/-- Read a segment's bytes from a buffer; whether the read was served. -/
def readSegment (bus : Bus) (m : Master) (b : Nat) (r : RecRead) (seg : Nat × Nat) (s : State) : Bool × List Byte × State :=
  let f := bufSurf b s
  let y := seg.2
  match seg.1 with
  | 2 => bus.read m (r.nat 0x28 8) (16 * r.nat 0x26 2) s
  | 3 => bus.read m (r.nat 0x30 8 + y * (roundUp (8 * r.nat 0x24 2) 64 * 64)) (8 * r.nat 0x24 2) s
  | p =>
    if f.fmt = 8 then bus.read m (f.plane0 + y * f.stride) (4 * f.w) s
    else
      let (k, plane, row0) := f.plane (p = 1)
      let nb := blocksInRow f.w
      let (ok, codes, s) := bus.read m (f.header + (row0 + y) * headerStride k f.stride) (roundUp nb 2) s
      (List.range nb).foldl (fun acc bx =>
        let (ok2, d, s) := bus.read m (plane + y * 4 * f.stride + bx * 4 * k.bw)
          (codeBytes k (codeOf codes bx)) acc.2.2
        (acc.1 && ok2, acc.2.1 ++ d, s)) (ok, codes, s)

def readSegments (bus : Bus) (m : Master) (b : Nat) (r : RecRead) :
    List (Nat × Nat) → State → Bool × List ((Nat × Nat) × List Byte) × State
  | [], s => (true, [], s)
  | g :: gs, s =>
    let (ok1, d, s) := readSegment bus m b r g s
    let (ok2, rest, s) := readSegments bus m b r gs s
    ((ok1 || g.1 ≤ 1) && ok2, (g, d) :: rest, s)

/-- Cut bytes into pieces of at most `n`, with their offsets. -/
def pieces (n : Nat) : Nat → Nat → List Byte → List (Nat × List Byte)
  | 0, _, _ => []
  | fuel + 1, o, bs => if bs.isEmpty then [] else (o, bs.take n) :: pieces n fuel (o + n) (bs.drop n)

/-- A flit originated by this device; the link fills in SEQ, ACK and credits. -/
def ownFlit (type : Nat) (payload : List Byte) (s : State) : Flit :=
  { type, orig := ownId s, tag := ownTag s, payload := takeBytes 236 payload }

/-- The flits of the picture in buffer `b`, sent by `m` as picture `pic` of a stream with a
claim (R280 to R282). -/
def pictureFlits (bus : Bus) (m : Master) (b stream claim pic : Nat) (s : State) : List Flit × State :=
  let f := bufSurf b s
  let (r, s) := readRecord bus m b s
  let flags := r.nat 0x0F 1
  let segs := segments f.fmt f.h (r.nat 0x26 2) (flags.testBit 3) (flags.testBit 2)
  let (mapsOk, data, s) := readSegments bus m b r segs s
  let keep := r.good && mapsOk && r.nat 0x0E 1 = s.tm.epoch
    && (flags.testBit 6 || traceable s)
  let flags := if keep then flags else flags % 128
  let crop := leBytes 2 (s.rfAt 56 0x89C b 31 16) ++ leBytes 2 (s.rfAt 56 0x89C b 15 0)
    ++ leBytes 2 (s.rfAt 56 0x8A0 b 31 16) ++ leBytes 2 (s.rfAt 56 0x8A0 b 15 0)
  let start := leBytes 2 stream ++ leBytes 2 claim ++ leBytes 2 pic ++ leBytes 1 f.fmt ++ leBytes 1 flags
    ++ (r.bytes.take 0x0E) ++ leBytes 2 (r.nat 0x12 2) ++ leBytes 4 (r.nat 0x14 4) ++ leBytes 4 (r.nat 0x18 4)
    ++ leBytes 4 (r.nat 0x1C 4) ++ leBytes 4 (r.nat 0x20 4) ++ leBytes 2 (r.nat 0x24 2) ++ leBytes 2 (r.nat 0x26 2)
    ++ leBytes 2 f.w ++ leBytes 2 f.h ++ crop ++ leBytes 1 (fmtDepth f.fmt)
  let datas := data.flatMap fun g =>
    (pieces 224 g.2.length 0 g.2).map fun q =>
      ownFlit 0x11 (leBytes 2 stream ++ leBytes 2 pic ++ leBytes 1 g.1.1 ++ leBytes 1 q.2.length
        ++ leBytes 2 g.1.2 ++ leBytes 4 q.1 ++ q.2) s
  let fin := ownFlit 0x12 (leBytes 2 stream ++ leBytes 2 pic ++ leBytes 4 datas.length) s
  ([ownFlit 0x10 start s] ++ datas ++ [fin], s)

/-! ## The claim gate (R286 to R288) -/

/-- The rank of a claim and an originator, as one number. -/
def rankOf (claim orig : Nat) : Nat := claim * 65536 + (0xFFFF - orig)

def setGate (c : Nat) (f : GateSt → GateSt) (s : State) : State :=
  { s with gate := smSet c (f (smAt c s.gate)) s.gate }

/-- KIB_GATE_HOLD.MS in TIM clocks. -/
def gateHold (s : State) : Nat := s.rf pKib 0x04C 15 0 * 500000

/-- The hold window of a gate has passed (R288). -/
def gateExpired (g : GateSt) (s : State) : Bool :=
  match g.last with
  | some t => t + gateHold s < s.clk
  | none => false

/-- The accepted claim and originator, 0 once the gate has released. -/
def gateClaim (c : Nat) (s : State) : Nat × Nat :=
  let g := smAt c s.gate
  if gateExpired g s then (0, 0) else (g.claim, g.orig)

/-- The gate judges a picture: whether it is accepted, and whether its rank is a new one (R287).
(DEDUCED: log entry 61) -/
def gateJudge (c claim orig : Nat) (s : State) : Bool × Bool :=
  let (ac, ao) := gateClaim c s
  let have_ := if ac = 0 then 0 else rankOf ac ao
  let rank := rankOf claim orig
  (claim ≠ 0 && have_ ≤ rank, have_ < rank)

/-! ## Receiving a picture (R40, R282, R283, R287, R488, R489) -/

def setRx (c : Nat) (r : Option RxPic) (s : State) : State :=
  { s with rx := match r with
      | some x => smInsert c x s.rx
      | none => smErase c s.rx }

/-- The enabled context that takes a stream. -/
def ctxOfStream (stream : Nat) (s : State) : Option Nat :=
  (List.range 128).find? fun c =>
    ctxOn c s && ctxKind c s = kindNg && s.rfAt pSrc 0x10C c 15 0 = stream

/-- A picture in progress is abandoned and counted (R282). -/
def rxAbandon (c : Nat) (s : State) : State :=
  match smGet c s.rx with
  | none => s
  | some x =>
    let s := setRx c none (setMark x.buf mkFill false s)
    let s := match x.port with
      | some p => raiseBit (pNg p) 5 (s.bump (pNg p) 0x06C)
      | none => s
    dropFrame c s

/-- The pictures in progress that satisfy a test are abandoned. (DEDUCED: log entry 60) -/
def rxAbandonIf (f : Nat → RxPic → Bool) (s : State) : State :=
  (s.rx.filter fun e => f e.1 e.2).foldl (fun s e => rxAbandon e.1 s) s

/-- The picture of a flit that a port is receiving: its context. -/
def rxFind (port : Option Nat) (f : Flit) (s : State) : Option (Nat × RxPic) :=
  s.rx.find? fun e =>
    e.2.port = port && e.2.orig = f.orig && e.2.stream = pf f.payload 0x10 2 && e.2.pic = pf f.payload 0x12 2

/-- The last picture taken of an originator and stream, unless forgotten (R283). -/
def histOf (f : Flit) (stream : Nat) (s : State) : Option PicHist :=
  s.hist.find? fun h => h.orig = f.orig && h.stream = stream && h.tag = f.tag && s.clk < h.clk + gateHold s

/-- Whether a PIC_START is no later than the last picture taken (R283). (DEDUCED: log entry 61) -/
def picStale (f : Flit) (stream pic : Nat) (s : State) : Bool :=
  match histOf f stream s with
  | none => false
  | some h =>
    let d := (pic + 65536 - h.pic) % 65536
    !(1 ≤ d && d ≤ 32767)

/-- A PIC_START with another TAG shows that the sender has been reset (R283). -/
def forgetTags (f : Flit) (stream : Nat) (s : State) : State :=
  { s with hist := s.hist.filter fun h => !(h.orig = f.orig && h.stream = stream && h.tag ≠ f.tag) }

/-- The history of pictures of a duty, as R283 keeps it. (DEDUCED: log entry 61) -/
def takeHist (f : Flit) (stream pic : Nat) (s : State) : State :=
  let rest := s.hist.filter fun h => !(h.orig = f.orig && h.stream = stream)
  { s with hist := rest ++ [{ orig := f.orig, stream, tag := f.tag, pic, clk := s.clk }] }

/-- The buffer of a picture whose gate has accepted it (R282, step 1); `was` is the state as its PIC_START arrived.
(DEDUCED: log entry 61) -/
def rxAlloc (was : State) (port : Option Nat) (c : Nat) (f : Flit) (s : State) : State :=
  let pl := f.payload
  let fmt := pf pl 0x16 1
  let need : Need := { w := pf pl 0x3C 2, h := pf pl 0x3E 2, depth := pf pl 0x48 1, atLeast := false
                       planar := fmtPlanar fmt, mborin := fmtMborin fmt }
  let known := fmtMborin fmt || fmt = 8
  match if dspOn c s && known then allocAfter was c need s else (none, s) with
  | (none, s) => dropFrame c s
  | (some b, s) =>
    let flags := pf pl 0x17 1
    let x : RxPic := {
      port, orig := f.orig, stream := pf pl 0x10 2, pic := pf pl 0x14 2, buf := b, startClk := s.clk, start := pl
      todo := segments fmt (pf pl 0x3E 2) (pf pl 0x3A 2) (flags.testBit 3) (flags.testBit 2) }
    let s := setRx c (some x) s
    if flags.testBit 2 && (smAt b s.buf).desc.bctmap = 0 then rxAbandon c s else s

/-- A PIC_START is offered to the contexts of its stream (R282, R283, R287). (DEDUCED: log entry 61) -/
def rxStart (port : Option Nat) (f : Flit) (s : State) : State :=
  let stream := pf f.payload 0x10 2
  let claim := pf f.payload 0x12 2
  let pic := pf f.payload 0x14 2
  match ctxOfStream stream s with
  | none => s
  | some c =>
    if s.dev = devWithdrawn then s
    else if srcClosed s then srcRefused (ngMaster (port.getD 0)) s
    else
      let s := forgetTags f stream s
      if picStale f stream pic s then s
      else
      let was := s
      let s := rxAbandonIf (fun _ x => x.orig = f.orig && x.stream = stream) s
      let (accept, higher) := gateJudge c claim f.orig s
      if !accept then s.bumpAt pKib 0x18C c 1
      else
        let s := if higher then
            let s := rxAbandon c s
            raiseBit pKib 1 ((setGate c (fun g => { g with claim, orig := f.orig }) s).bumpAt pKib 0x188 c 1)
          else s
        let s := setGate c (fun g => { g with last := some s.clk }) s
        rxAlloc was port c f (takeHist f stream pic s)

/-- A complete segment is written (R282, step 2). -/
def rxWrite (bus : Bus) (m : Master) (x : RxPic) (seg : Nat × Nat) (bs : List Byte) (s : State) : State :=
  let d := (smAt x.buf s.buf).desc
  let fmt := pf x.start 0x16 1
  let w := pf x.start 0x3C 2
  let h := pf x.start 0x3E 2
  let y := seg.2
  match seg.1 with
  | 2 => (bus.write m d.cmap bs s).2
  | 3 => (bus.write m (d.bctmap + y * (roundUp (8 * pf x.start 0x38 2) 64 * 64)) bs s).2
  | p =>
    if fmt = 8 then (bus.write m (d.plane0 + y * d.stride) bs s).2
    else
      let f : Surf := { fmt, plane0 := d.plane0, plane1 := d.plane1, header := d.header, stride := d.stride, w, h }
      let (k, plane, row0) := f.plane (p = 1)
      let nb := blocksInRow w
      let codes := bs.take (roundUp nb 2)
      let r := (List.range nb).foldl (fun (acc : List Byte × State) bx =>
        let n := codeBytes k (codeOf codes bx)
        (acc.1.drop n, (bus.write m (plane + y * 4 * f.stride + bx * 4 * k.bw) (acc.1.take n) acc.2).2))
        (bs.drop (roundUp nb 2), s)
      (bus.write m (f.header + (row0 + y) * headerStride k f.stride) codes r.2).2

/-- Segments that need no further byte leave the list, each written. -/
def rxDrain (bus : Bus) (m : Master) : Nat → RxPic → State → RxPic × State
  | 0, x, s => (x, s)
  | n + 1, x, s =>
    match x.todo with
    | [] => (x, s)
    | g :: gs =>
      match segLength (pf x.start 0x16 1) (pf x.start 0x3C 2) (pf x.start 0x3A 2) (pf x.start 0x38 2) g.1 x.cur with
      | none => (x, s)
      | some len =>
        if x.cur.length < len then (x, s)
        else if len < x.cur.length then ({ x with bad := true }, s)
        else rxDrain bus m n { x with todo := gs, cur := [] } (rxWrite bus m x g x.cur s)

/-- A PIC_DATA flit (R281, R282). -/
def rxData (bus : Bus) (port : Option Nat) (f : Flit) (s : State) : State :=
  match rxFind port f s with
  | none => s
  | some (c, x) =>
    let plane := pf f.payload 0x14 1
    let len := pf f.payload 0x15 1
    let x := { x with flits := x.flits + 1 }
    if 3 < plane then rxAbandon c s
    else
      let fits := match x.todo with
        | g :: _ => g = (plane, pf f.payload 0x16 2) && pf f.payload 0x18 4 = x.cur.length && 1 ≤ len && len ≤ 224
        | [] => false
      if !fits then setRx c (some { x with bad := true }) s
      else
        let cur := x.cur ++ (f.payload.drop 12).take len
        let (x, s) := rxDrain bus (ngMaster (port.getD 0)) 1 { x with cur } s
        setRx c (some x) s

/-- The capture time that a received picture carries (R40). -/
def rxCapTime (x : RxPic) (s : State) : CapTime :=
  let t : NTime := { sec := pf x.start 0x18 8, ns := pf x.start 0x20 4 % 2 ^ 30, frac := pf x.start 0x24 2 }
  { t := t.t16, epoch := s.tm.epoch, valid := (pf x.start 0x17 1).testBit 7, network := true, origin := 3 }

/-- What the record of a received picture says (R40). -/
def rxInfo (x : RxPic) (s : State) : FrameInfo :=
  let d := (smAt x.buf s.buf).desc
  let flags := pf x.start 0x17 1
  { ct := rxCapTime x s
    crc := if flags.testBit 5 then some (BitVec.ofNat 32 (pf x.start 0x2C 4)) else none
    token := if flags.testBit 4 then some (BitVec.ofNat 32 (pf x.start 0x30 4)) else none
    asSent := (BitVec.ofNat 32 (pf x.start 0x2C 4), BitVec.ofNat 32 (pf x.start 0x30 4))
    w := 64 * pf x.start 0x38 2, h := 64 * pf x.start 0x3A 2
    conceal := flags.testBit 3, cmap := d.cmap
    bct := if flags.testBit 2 then some d.bctmap else none }

/-- A received picture is complete: it is an input of its context, its record is written and the dispatcher outputs
it (R40, R123, R282). -/
def rxComplete (bus : Bus) (c : Nat) (x : RxPic) (s : State) : State :=
  let b := x.buf
  let i := rxInfo x s
  let old := (newestBuf c s).map fun n => (smAt n s.buf).ct
  let late := match old with
    | some o => o.valid && i.ct.valid && i.ct.t ≤ o.t
    | none => false
  if late then rxAbandon c s
  else
    let n : Counts := { identRun := pf x.start 0x26 2, seq := pf x.start 0x28 4, hold := pf x.start 0x34 4 }
    let s := setGeometry b (pf x.start 0x3C 2) (pf x.start 0x3E 2) (pf x.start 0x40 2) (pf x.start 0x42 2)
      (pf x.start 0x44 2) (pf x.start 0x46 2) (pf x.start 0x48 1 = 10) s
    let s := setBuf b (fun t => { t with
      fmt := pf x.start 0x16 1, ct := i.ct, crc := i.crc.getD 0, token := i.token, bct := i.bct.isSome }) s
    let s := setRx c none (setMark b mkFill false s)
    deliverWith bus (ngMaster (x.port.getD 0)) c b i n (ctxInput c s)

/-- A PIC_END flit (R282, step 3). -/
def rxEnd (bus : Bus) (port : Option Nat) (f : Flit) (s : State) : State :=
  match rxFind port f s with
  | none => s
  | some (c, x) =>
    if x.bad || !x.todo.isEmpty || pf f.payload 0x14 4 ≠ x.flits then rxAbandon c s else rxComplete bus c x s

/-- A picture flit that has passed the link. -/
def rxFlit (bus : Bus) (port : Option Nat) (f : Flit) (s : State) : State :=
  match f.type with
  | 0x10 => rxStart port f s
  | 0x11 => rxData bus port f s
  | 0x12 => rxEnd bus port f s
  | _ => s

/-! ## Duties (R279, R284, R294) -/

def setDuty (d : Nat) (f : DutySt → DutySt) (s : State) : State :=
  { s with duty := smSet d (f (smAt d s.duty)) s.duty }

def dutyRole (d : Nat) (s : State) : Nat := s.rfAt pKib 0x108 d 1 0

def dutyStream (d : Nat) (s : State) : Nat := s.rfAt pKib 0x100 d 31 16

def dutyCtx (d : Nat) (s : State) : Nat := s.rfAt pKib 0x100 d 6 0

/-- KIB_DUTY_STAT.STATE (R294). -/
def dutyState (d : Nat) (s : State) : Nat :=
  match dutyRole d s with
  | 0 => 0
  | 1 => if (smAt d s.duty).standby then 2 else 1
  | _ => if s.rfAt pKib 0x108 d 31 16 = 0xFFFF then 4 else 3

/-- The claim that a duty sends (R294). -/
def dutyClaim (d : Nat) (s : State) : Nat :=
  match dutyState d s with
  | 0 => 0
  | 1 | 2 => 1
  | _ => s.rfAt pKib 0x108 d 31 16

/-- A duty sends pictures: STANDBY, ACTIVE or FORCED. -/
def dutySends (d : Nat) (s : State) : Bool :=
  s.enabled pKib && 2 ≤ dutyState d s && s.dev ≠ devWithdrawn
    && (ctxKind (dutyCtx d s) s = kindIp || ctxKind (dutyCtx d s) s = kindDp)

def ngActive (p : Nat) (s : State) : Bool := (smAt p s.ng).st = 2 && s.enabled (pNg p) && lanesLive s

/-- The ports of a duty that are ACTIVE. -/
def dutyPorts (d : Nat) (s : State) : List Nat :=
  (List.range 3).filter fun p => bit (s.regAt pKib 0x100 d) (13 + p) && ngActive p s

/-- The number of a duty's NEWEST picture, taken when it is first sent (R280). (DEDUCED: log entry 61) -/
def picNumber (d : Nat) (s : State) : Nat × State :=
  let t := smAt d s.duty
  match t.newPic with
  | some n => (n, s)
  | none => (t.nextPic, setDuty d (fun t => { t with
      nextPic := (t.nextPic + 1) % 65536, newPic := some t.nextPic }) s)

/-- Pictures no longer wait at the ports of duties that have stopped sending (R279). -/
def dropTodo (s : State) : State :=
  (s.duty.filter fun e => !e.2.todo.isEmpty && !dutySends e.1 s).foldl (fun s e =>
    setDuty e.1 (fun t => { t with todo := [] }) s) s

/-- The picture of a duty that is NEWEST waits at the duty's ports and passes through the loopback (R279, R284).
(DEDUCED: log entry 61) -/
def dutyOffer (bus : Bus) (d b : Nat) (s : State) : State :=
  let t := smAt d s.duty
  let ports := dutyPorts d s
  let s := (ports.filter t.todo.contains).foldl (fun s p => s.bump (pNg p) 0x068) s
  let s := setDuty d (fun t => { t with newPic := none, todo := ports }) s
  if (ctxOfStream (dutyStream d s) s).isSome then
    let (pic, s) := picNumber d s
    let (fs, s) := pictureFlits bus (ngMaster 0) b (dutyStream d s) (dutyClaim d s) pic s
    fs.foldl (fun s f => rxFlit bus none f s) s
  else s

end Sys2Proof.Machine
end

