-- ==== Sys2Proof/Machine/Dispatcher.lean ====
section
/-! DEFINITION. The dispatcher: engines in service, commitments and their placement, events and errors of
contexts, the window's registers (R129 to R133, R141 to R143, R150 to R152, R489, R490). -/

namespace Sys2Proof.Machine

def pCdc (n : Nat) : Nat := 56 + n

def setEng (n : Nat) (f : EngSt → EngSt) (s : State) : State :=
  { s with eng := smSet n (f (smAt n s.eng)) s.eng }

/-! ## Engines in service (R129, R133, R490) -/

def inService (n : Nat) (s : State) : Bool :=
  s.enabled (pCdc n) && !s.testHold (pCdc n) && !s.resetBusy (pCdc n)

/-- The engine with TEST_HOLD = 1. -/
def heldEngine (s : State) : Option Nat := (List.range 16).find? fun n => s.testHold (pCdc n)

/-- Engines that take commitments: in service and not draining. -/
def openEngines (s : State) : List Nat :=
  (List.range 16).filter fun n => inService n s && !(smAt n s.eng).draining

/-! ## Commitments (R130, R131) -/

/-- The engine that a placement gives a commitment. -/
def Placed.target (p : Placed) : Option Nat :=
  match p.moveTo with
  | some e => some e
  | none => p.engine

def Commit.isEnc : Commit → Bool
  | .enc _ => true
  | .dec _ => false

/-- The number by which ties are broken: context or channel. -/
def Commit.num : Commit → Nat
  | .dec c => c
  | .enc c => c

def onEngine (n : Nat) (ps : List Placed) : List Placed := ps.filter fun p => p.target = some n

def loadOf (n : Nat) (ps : List Placed) : Nat := (onEngine n ps).foldl (fun a p => a + p.rate) 0

def totalRate (ps : List Placed) : Nat := ps.foldl (fun a p => a + p.rate) 0

/-- Whether an engine has room for a commitment: same kind only, at most 500,000 kpixel/s (R130, R131). -/
def hasRoom (n : Nat) (c : Commit) (rate : Nat) (ps : List Placed) : Bool :=
  (onEngine n ps).all (fun p => p.what.isEnc = c.isEnc) && loadOf n ps + rate ≤ 500000

/-- The engine with room and the least committed rate, ties to the lowest number (R131). (DEDUCED: log entry 46) -/
def leastEngine (c : Commit) (rate : Nat) (engines : List Nat) (ps : List Placed) : Option Nat :=
  match engines.filter fun n => hasRoom n c rate ps with
  | [] => none
  | n :: ns => some (ns.foldl (fun b e => if loadOf e ps < loadOf b ps then e else b) n)

/-- Encode commitments first, then decreasing rate, ties to the lowest number (R131). -/
def placeBefore (a b : Placed) : Bool :=
  if a.what.isEnc ≠ b.what.isEnc then a.what.isEnc
  else if a.rate ≠ b.rate then decide (b.rate < a.rate)
  else decide (a.what.num ≤ b.what.num)

def insertPlaced (p : Placed) : List Placed → List Placed
  | [] => [p]
  | q :: qs => if placeBefore p q then p :: q :: qs else q :: insertPlaced p qs

/-- Commitments in the order in which R130 places them. (DEDUCED: log entry 46) -/
def sortPlaced (ps : List Placed) : List Placed := ps.foldl (fun acc p => insertPlaced p acc) []

/-- First fit of commitments, in order, onto engines: their engines, or none when one does not fit. -/
def firstFit (engines : List Nat) : List Placed → List Placed → Option (List Placed)
  | [], done => some done
  | p :: ps, done =>
    match engines.find? fun n => hasRoom n p.what p.rate done with
    | none => none
    | some e => firstFit engines ps (done ++ [{ p with engine := some e, moveTo := none }])

/-- Whether a picture of the commitment is in progress. -/
def busyCommit (c : Commit) (s : State) : Bool :=
  match c with
  | .dec x => s.eng.any fun e => match e.2.pic with
    | some p => p.ctx = x
    | none => false
  | .enc x => s.eng.any fun e => e.2.encoding = some x

def engMaster (n : Nat) : Master := .cdc ⟨n % 16, Nat.mod_lt _ (by decide)⟩

/-- The state area of a context (R132). -/
def stateArea (c : Nat) (s : State) : Nat := s.pair 56 0x814 + 0x10000 * c

/-- An engine saves a context's decoding state to its state area. The contents are the engine's own (R132).
(DESIGN CHOICE: log entry 94) -/
def saveState (bus : Bus) (c old : Nat) (s : State) : State :=
  let (bs, s) := s.takeBytes 0x10000
  (bus.write (engMaster old) (stateArea c s) bs s).2

/-- An engine restores a context's decoding state from its state area (R132). -/
def restoreState (bus : Bus) (c new : Nat) (s : State) : State := (bus.read (engMaster new) (stateArea c s) 0x10000 s).2.2

/-- A commitment changes to another engine, or to none: a context's decoding state is saved as it leaves an engine and
restored on the next one that takes it (R132, R490). (DEDUCED: log entry 46) -/
def moveCommit (bus : Bus) (c : Commit) (new : Option Nat) (s : State) : State :=
  match s.placed.find? fun p => p.what = c with
  | none => s
  | some q =>
    let saved : Bool := !c.isEnc && (q.saved || q.engine.isSome)
    let s := { s with placed := s.placed.map fun p =>
      if p.what = c then { p with
        engine := new, moveTo := none, saved := if q.engine = new then q.saved else saved && new.isNone } else p }
    if c.isEnc || q.engine = new then s
    else
      let s := match q.engine with
        | some o => saveState bus c.num o s
        | none => s
      match new with
      | some n => if saved then restoreState bus c.num n s else s
      | none => s

/-- A commitment takes the engine of an adopted placement, at its next picture boundary when a picture is in
progress (R131, R132). (DEDUCED: log entry 46) -/
def adoptOne (bus : Bus) (c : Commit) (target : Option Nat) (s : State) : State :=
  let bound := ((s.placed.find? fun p => p.what = c).bind (·.engine)).isSome
  if bound && target.isSome && busyCommit c s then
    { s with placed := s.placed.map fun p =>
        if p.what = c then { p with moveTo := if p.engine = target then none else target } else p }
  else moveCommit bus c target s

/-- Adopt a placement. -/
def adopt (bus : Bus) (plan : List Placed) (s : State) : State := plan.foldl (fun s q => adoptOne bus q.what q.engine s) s

/-- Place a new commitment (R130, R131): none when it does not fit. -/
def commitRate (bus : Bus) (c : Commit) (rate : Nat) (s : State) : Option State :=
  if 7000000 < totalRate s.placed + rate then none
  else
    let new : Placed := { what := c, rate, engine := none }
    match leastEngine c rate (openEngines s) s.placed with
    | some e => some { s with placed := s.placed ++ [{ new with engine := some e }] }
    | none =>
      match firstFit (openEngines s) (sortPlaced (s.placed ++ [new])) [] with
      | none => none
      | some plan => some (adopt bus plan { s with placed := s.placed ++ [new] })

def releaseRate (c : Commit) (s : State) : State :=
  { s with placed := s.placed.filter fun p => p.what ≠ c }

/-- Place commitments again, by first fit in decreasing order; one that does not fit stays unbound (R490).
(DEDUCED: log entry 46) -/
def placeAgain (bus : Bus) (ps : List Placed) (s : State) : State :=
  (sortPlaced ps).foldl (fun s p =>
    let others := s.placed.filter fun q => q.what ≠ p.what
    adoptOne bus p.what ((openEngines s).find? fun n => hasRoom n p.what p.rate others) s) s

/-- Commitments without an engine are placed again (R130, R490). (DEDUCED: log entry 46) -/
def placeUnbound (bus : Bus) (s : State) : State := placeAgain bus (s.placed.filter fun p => p.engine.isNone) s

def placedOf (c : Commit) (s : State) : Option Placed := s.placed.find? fun p => p.what = c

/-! ## Events and errors of a context (R143, R150, R151) -/

/-- An event on every CDC page (R151). -/
def raiseCdc (i : Nat) (s : State) : State :=
  (List.range 16).foldl (fun s n => raiseBit (pCdc n) i s) s

def dspEvent (c i : Nat) (s : State) : State :=
  let s := s.setRegAt pDsp 0x86C c (s.regAt pDsp 0x86C c ||| bitW i)
  if bit (s.regAt pDsp 0x870 c) i then raiseCdc 0 s else s

/-- DSP_EVT_PEND word `i`. -/
def dspPend (i : Nat) (s : State) : Word :=
  BitVec.ofNat 32 ((List.range 32).foldl (fun n b =>
    n + b2n (s.regAt pDsp 0x86C (32 * i + b) &&& s.regAt pDsp 0x870 (32 * i + b) ≠ 0) * 2 ^ b) 0)

def noUnit : Nat := 0xFFFFF

/-- An error of a class, with its detail and unit (R143). -/
def dspError (c cls detail unit : Nat) (s : State) : State :=
  let off := 0x850 + 4 * ((cls - 1) / 2)
  let s := if cls % 2 = 1 then s.bumpFldAt pDsp off c 15 0 1 else s.bumpFldAt pDsp off c 31 16 1
  let s := s.setRegAt pDsp 0x84C c (BitVec.ofNat 32 (cls * 2 ^ 28 + detail * 2 ^ 20 + unit % 2 ^ 20))
  dspEvent c 0 s

/-- DSP_CTX_STAT.SYNC codes. -/
def syncOff : Nat := 0

def syncWait : Nat := 1

def syncSynced : Nat := 2

def syncRecovering : Nat := 3

def syncUnsupported : Nat := 4

def syncOf (c : Nat) (s : State) : Nat := s.rfAt pDsp 0x848 c 22 20

def setSync (c st : Nat) (s : State) : State := s.setFldAt pDsp 0x848 c 22 20 st

/-! ## Released access units (R132, R489) -/

/-- The queue is cut to QDEPTH: the oldest is discarded with class 0xB (R132). -/
def trimQueue (c : Nat) : Nat → State → State
  | 0, s => s
  | n + 1, s =>
    if (smAt c s.dsp).queue.length ≤ s.rfAt pDsp 0x840 c 15 8 then s
    else
      let s := setDsp c (fun t => { t with queue := t.queue.drop 1 }) s
      trimQueue c n (dspEvent c 4 (dspError c 0xB 0 noUnit s))

/-- ING releases an access unit to the dispatcher (R132, R489). In WITHDRAWN the dispatcher is frozen and takes none
(R31). (DEDUCED: log entry 88) -/
def releaseAu (c ts : Nat) (nals : List (List Byte)) (s : State) : State :=
  let ct := auCapTime c ts s
  if !dspOn c s || s.dev = devWithdrawn then dropFrame c s
  else
    let s := setDsp c (fun t => { t with queue := t.queue ++ [{ no := s.auNo, ts, ct, nals }] })
      { s with auNo := s.auNo + 1 }
    trimQueue c ((smAt c s.dsp).queue.length) s

/-! ## Abandoning work (R17, R141, R490) -/

/-- An engine gives up its picture: FILL clears. -/
def dropPic (n : Nat) (s : State) : State :=
  match (smAt n s.eng).pic with
  | none => s
  | some p => setEng n (fun e => { e with pic := none }) (setMark p.buf mkFill false s)

/-- The engine time since a TIM clock, in µs rounded up, counts in CDC_ENG_BUSY (R149, R150). -/
def engineUsed (n since : Nat) (s : State) : State := s.bumpAt (pCdc n) 0x04C 0 (roundUp (s.clk - since) 500)

/-- An engine abandons its picture; the time it has used counts (R150). -/
def abandonPic (n : Nat) (s : State) : State :=
  match (smAt n s.eng).pic with
  | none => s
  | some p => engineUsed n p.startClk (dropPic n s)

/-- An engine abandons the mirror picture it codes; the time it has used counts (R150). -/
def abandonCoding (n : Nat) (s : State) : State :=
  match (smAt n s.eng).encoding with
  | none => s
  | some _ => engineUsed n (smAt n s.eng).encClk (setEng n (fun e => { e with encoding := none }) s)

/-- The engine that decodes a picture of a context. -/
def engineOf (c : Nat) (s : State) : Option Nat :=
  (s.eng.find? fun e => match e.2.pic with
    | some p => p.ctx = c
    | none => false).map (·.1)

/-- A DisplayPort frame in progress for a context is abandoned; its port, when there was one. -/
def abandonDpi (c : Nat) (s : State) : Bool × State :=
  match s.dpi.find? fun e => match e.2.frame with
    | some f => f.ctx = c
    | none => false with
  | none => (false, s)
  | some (p, d) =>
    let s := match d.frame with
      | some f => setMark f.buf mkFill false s
      | none => s
    (true, { s with dpi := smSet p { d with frame := none } s.dpi })

/-- A codec engine stops being enabled: its picture is abandoned and its commitments are placed again (R490). -/
def cdcStopped (bus : Bus) (n : Nat) (s : State) : State :=
  let s := match (smAt n s.eng).encoding with
    | some c => { s with enc := smSet c { smAt c s.enc with cur := none } s.enc }
    | none => s
  let s := abandonCoding n (abandonPic n s)
  let mine := onEngine n s.placed
  let left := s.placed.filter fun p => p.engine = some n
  let s := { s with placed := s.placed.map fun p => if p.moveTo = some n then { p with moveTo := none } else p }
  placeAgain bus mine (left.foldl (fun s p => moveCommit bus p.what (p.moveTo.filter (· ≠ n)) s) s)

/-! ## The window's registers (R141, R142, R150, R152) -/

/-- Some context has EN = 1, or some buffer is not FREE (R152). -/
def poolBusy (s : State) : Bool :=
  (List.range 128).any (fun c => dspOn c s) || s.buf.any fun e => !bufFree e.1 s

/-- The base of a pair as a write of its high word would commit it. -/
def commitBase (off : Nat) (v : Word) (s : State) : Nat :=
  (heldOf pDsp (off - 4) 0 s).toNat + fld v 7 0 * 2 ^ 32

/-- A range of memory lies in populated DRAM and outside the record region. -/
def inDram (a len : Nat) (s : State) : Bool :=
  a + len ≤ dramTop s && (recSize s = 0 || a + len ≤ recBase s || recBase s + recSize s ≤ a)

/-- Whether the state areas and the pool lie where R152 wants them (code 0x46). -/
def areasOk (s : State) : Bool :=
  inDram (s.pair pDsp 0x814) (128 * 0x10000) s && inDram (poolBase s) (64 * poolCount s) s

/-- The check of a write through the window, but for DSP_CTX_CTRL. -/
def dspCheck (m : Master) (off : Nat) (v : Word) (s : State) : Verdict :=
  let c := s.rfAt pDsp 0x81C (masterId m) 6 0
  let b := s.rfAt pDsp 0x820 (masterId m) 11 0
  match off with
  | 0x80C | 0x818 => if poolBusy s then .err 0x43 else .ok
  | 0x810 => if 4096 < fld v 12 0 then .err 0x40 else if poolBusy s then .err 0x43 else .ok
  | 0x844 => if 500000 < fld v 19 0 then .err 0x40 else if dspOn c s then .err 0x41 else .ok
  | 0x874 | 0x878 => if bit (s.regAt pDsp 0x840 c) 1 then .err 0x41 else .ok
  | 0x87C =>
    if fld v 15 8 < 2 || fld v 7 0 = 0 || 64 < fld v 7 0 then .err 0x40
    else if bit (s.regAt pDsp 0x840 c) 1 then .err 0x41 else .ok
  | 0x894 => if bit v 0 && (bufFree b s || marked b mkFill s) then .err 0x44 else .ok
  | _ => .ok

/-- The effect of an accepted write through the window, but for DSP_CTX_CTRL. -/
def dspEffect (m : Master) (off : Nat) (v : Word) (s : State) : State :=
  let c := s.rfAt pDsp 0x81C (masterId m) 6 0
  let b := s.rfAt pDsp 0x820 (masterId m) 11 0
  match off with
  | 0x870 => if s.regAt pDsp 0x86C c &&& v &&& 0xFF#32 ≠ 0 then raiseCdc 0 s else s
  | 0x894 => setMark b mkHoldSw (bit v 0) s
  | _ => s

/-- The context's picture in progress, its reference and pending marks, its waiting access units and its
commitment end (R141). -/
def dspDisable (c : Nat) (s : State) : State :=
  let s := match engineOf c s with
    | some n => abandonPic n s
    | none => s
  let s := (abandonDpi c s).2
  let s := match smGet c s.rx with
    | some x => setRx c none (setMark x.buf mkFill false s)
    | none => s
  let s := clearMarks mkPend (ownedBufs c s) (clearMarks mkRef (ownedBufs c s) s)
  let s := setDsp c (fun t => { t with queue := [], recovery := none, prevFrameNum := none, craEnded := false }) s
  setSync c syncOff (releaseRate (.dec c) s)

/-- Why an enable of a context is refused: the code, and for DESC_BAD the descriptor's address; else the state
in which it is admitted (R130, R135, R152). (DEDUCED: log entry 46) -/
def dspAdmit (bus : Bus) (page c : Nat) (s : State) : Except (Nat × Option Nat) State × State :=
  let rate := s.rfAt pDsp 0x844 c 19 0
  let ip := ctxKind c s = kindIp
  let eng : Master := .cdc ⟨(page - 56) % 16, Nat.mod_lt _ (by decide)⟩
  if ip && rate = 0 then (.error (0x40, none), s)
  else if !areasOk s then (.error (0x46, none), s)
  else
    let (r, s) := readDescs bus eng c (poolCount s) 0 s
    match r with
    | .error a => (.error (0x45, some a), s)
    | .ok ds =>
      let placed := if ip then commitRate bus (.dec c) rate s else some s
      match placed with
      | none => (.error (0x42, none), s)
      | some t =>
        let t := ds.foldl (fun t d =>
          (setBuf d.1 (fun b => { b with owner := some c, desc := d.2 }) t).setFldAt pDsp 0x8A4 d.1 31 24 c) t
        let t := setDsp c (fun q => { q with
          bufs := ds.map (·.1), queue := [], recovery := none, prevFrameNum := none, craEnded := false }) t
        (.ok (if ip then setSync c syncWait t else t), s)

/-- The check of a write of DSP_CTX_CTRL before an enable is judged (R141, R152). -/
def ctrlCheck (c : Nat) (v : Word) (s : State) : Verdict :=
  let old := s.regAt pDsp 0x840 c
  if fld v 15 8 = 0 || 32 < fld v 15 8 then .err 0x40
  else if bit v 2 && bit v 0 then .err 0x41
  else if bit old 0 && (fld v 15 8 ≠ fld old 15 8 || fld v 18 16 ≠ fld old 18 16) then .err 0x41
  else .ok

/-- A write of DSP_CTX_CTRL through a CDC page (R130, R141). -/
def dspCtrlWrite (bus : Bus) (m : Master) (page : Nat) (v : Word) (s : State) : State :=
  let c := s.rfAt pDsp 0x81C (masterId m) 6 0
  let put := fun s => storeReg m page 0x840 v s
  match admitWrite m page 0x840 v s with
  | some code => refuse m page 0x840 code s
  | none =>
    match ctrlCheck c v s with
    | .err code => refuse m page 0x840 code s
    | .drop => s.respond true 0
    | .ok =>
      if !dspOn c s && bit v 0 then
        match dspAdmit bus page c s with
        | (.ok t, _) => (put t).respond true 0
        | (.error (code, none), s) => refuse m page 0x840 code s
        | (.error (code, some a), s) =>
          (s.recordErr page code (masterId m) a).respond (!Config.codeErrors page code) 0
      else
        let s := if dspOn c s && !bit v 0 then dspDisable c s else s
        let s := if bit v 2 then clearMarks mkNewest (ownedBufs c s) s else s
        (put s).respond true 0

/-- A write to a register of a CDC page from 0x040 on. -/
def cdcWrite (bus : Bus) (m : Master) (page off : Nat) (v : Word) (s : State) : State :=
  if off = 0x840 then dspCtrlWrite bus m page v s
  else regCommand m page off v (dspCheck m off v) (dspEffect m off v) s

/-- The control word of the selected context with the bits of a mask replaced. (DESIGN CHOICE: log entry 12) -/
def withBits (old mask v : Word) : Word := (old &&& ~~~ mask) ||| (v &&& mask)

/-! ## Reading (R150) -/

/-- CDC_ENG_STAT. -/
def engStat (n : Nat) (s : State) : Word :=
  let mode :=
    if s.testHold (pCdc n) then 0
    else if (smAt n s.eng).draining then 3
    else if (onEngine n s.placed).any (fun p => p.what.isEnc) then 2
    else 1
  let c := match (smAt n s.eng).pic with
    | some p => p.ctx
    | none => 0xFF
  BitVec.ofNat 32 (c * 2 ^ 24 + mode)

/-- DSP_STAT. -/
def dspStat (s : State) : Word :=
  let held := (heldEngine s).getD 0x1F
  BitVec.ofNat 32 (held * 65536
    + (List.range 16).foldl (fun n i => n + b2n (inService i s) * 2 ^ i) 0)

/-- DSP_CTX_STAT of a context. -/
def dspCtxStat (c : Nat) (s : State) : Word :=
  let bound := (placedOf (.dec c) s).bind (·.engine)
  let free := ((ctxBufs c s).filter fun b => bufFree b s).length
  BitVec.ofNat 32 (bound.getD 0 * 2 ^ 24 + b2n bound.isSome * 2 ^ 23 + syncOf c s * 2 ^ 20
    + (smAt c s.dsp).queue.length * 256 + min free 255)

/-- A read of a CDC page. -/
def cdcRead (m : Master) (page off : Nat) (s : State) : Word × State :=
  let n := page - 56
  let c := s.rfAt pDsp 0x81C (masterId m) 6 0
  let b := s.rfAt pDsp 0x820 (masterId m) 11 0
  match off with
  | 0x040 => (engStat n s, s)
  | 0x044 => (BitVec.ofNat 32 (loadOf n s.placed), s)
  | 0x800 => (dspStat s, s)
  | 0x804 => (BitVec.ofNat 32 (totalRate s.placed), s)
  | 0x824 | 0x828 | 0x82C | 0x830 => (dspPend ((off - 0x824) / 4) s, s)
  | 0x848 => (dspCtxStat c s, s)
  | 0x894 => (BitVec.ofNat 32 (b2n (marked b mkHoldSw s)), s)
  | _ =>
    match findRow page off with
    | some r => (s.regAt (canonPage page off) off (winIdx r.win m s), s)
    | none => (0, s)

end Sys2Proof.Machine
end

