-- ==== Sys2Proof/Machine/Aes.lean ====
section
/-! DEFINITION. AES, and what is built on it: the key unwrap of RFC 3394 (R418), the key derivation of RFC 3711 (R420) and
the AEAD protection of RFC 7714 (R113, R262). -/

namespace Sys2Proof.Machine

/-! ## The block cipher -/

/-- The S-box and its inverse, one number for each row of sixteen. -/
def aesSboxRows : List Nat :=
  [0x637C777BF26B6FC53001672BFED7AB76, 0xCA82C97DFA5947F0ADD4A2AF9CA472C0,
   0xB7FD9326363FF7CC34A5E5F171D83115, 0x04C723C31896059A071280E2EB27B275,
   0x09832C1A1B6E5AA0523BD6B329E32F84, 0x53D100ED20FCB15B6ACBBE394A4C58CF,
   0xD0EFAAFB434D338545F9027F503C9FA8, 0x51A3408F929D38F5BCB6DA2110FFF3D2,
   0xCD0C13EC5F974417C4A77E3D645D1973, 0x60814FDC222A908846EEB814DE5E0BDB,
   0xE0323A0A4906245CC2D3AC629195E479, 0xE7C8376D8DD54EA96C56F4EA657AAE08,
   0xBA78252E1CA6B4C6E8DD741F4BBD8B8A, 0x703EB5664803F60E613557B986C11D9E,
   0xE1F8981169D98E949B1E87E9CE5528DF, 0x8CA1890DBFE6426841992D0FB054BB16]

def aesInvRows : List Nat :=
  [0x52096AD53036A538BF40A39E81F3D7FB, 0x7CE339829B2FFF87348E4344C4DEE9CB,
   0x547B9432A6C2233DEE4C950B42FAC34E, 0x082EA16628D924B2765BA2496D8BD125,
   0x72F8F66486689816D4A45CCC5D65B692, 0x6C704850FDEDB9DA5E154657A78D9D84,
   0x90D8AB008CBCD30AF7E45805B8B34506, 0xD02C1E8FCA3F0F02C1AFBD0301138A6B,
   0x3A9111414F67DCEA97F2CFCEF0B4E673, 0x96AC7422E7AD3585E2F937E81C75DF6E,
   0x47F11A711D29C5896FB7620EAA18BE1B, 0xFC563E4BC6D279209ADBC0FE78CD5AF4,
   0x1FDDA8338807C731B11210592780EC5F, 0x60517FA919B54A0D2DE57A9F93C99CEF,
   0xA0E03B4DAE2AF5B0C8EBBB3C83539961, 0x172B047EBA77D626E169146355210C7D]

/-- A byte through an S-box. -/
def aesBox (rows : List Nat) (x : Nat) : Nat := rows.getD (x / 16) 0 >>> (8 * (15 - x % 16)) % 256

/-- The double of a byte in the field of AES. -/
def aesDouble (x : Nat) : Nat := if x < 128 then 2 * x else (2 * x ^^^ 0x11B)

/-- The product of a byte and a number below 16 in the field of AES. -/
def aesMul (x k : Nat) : Nat :=
  let x2 := aesDouble x
  let x4 := aesDouble x2
  (if k.testBit 0 then x else 0) ^^^ (if k.testBit 1 then x2 else 0) ^^^ (if k.testBit 2 then x4 else 0)
    ^^^ (if k.testBit 3 then aesDouble x4 else 0)

def xorList (a b : List Nat) : List Nat := List.zipWith (· ^^^ ·) a b

/-- Each row `r` of the block turned left by `k * r` columns; the block lies column by column. -/
def aesShift (k : Nat) (b : List Nat) : List Nat :=
  (List.range 16).map fun i => b.getD ((i + 4 * k * (i % 4)) % 16) 0

/-- Each column times the matrix whose first row is given; every next row is turned right by one. -/
def aesMix (row b : List Nat) : List Nat :=
  (List.range 16).map fun i =>
    (List.range 4).foldl (fun v j => v ^^^ aesMul (b.getD (i / 4 * 4 + j) 0) (row.getD ((j + 4 - i % 4) % 4) 0)) 0

/-- The words of the key schedule, newest first, after `n` more; `nk` words are the key. -/
def aesExpand (nk : Nat) : Nat → List (List Nat) → List (List Nat)
  | 0, w => w
  | n + 1, w =>
    let i := w.length
    let last := w.headD []
    let mixed :=
      if i % nk = 0 then
        xorList ((last.drop 1 ++ last.take 1).map (aesBox aesSboxRows)) [Nat.repeat aesDouble (i / nk - 1) 1, 0, 0, 0]
      else if 6 < nk && i % nk = 4 then last.map (aesBox aesSboxRows)
      else last
    aesExpand nk n (xorList (w.getD (nk - 1) []) mixed :: w)

/-- The round keys of a key of 16 or 32 bytes. -/
def aesRoundKeys (key : List Byte) : List (List Nat) :=
  let k := key.map (·.toNat)
  let nk := k.length / 4
  let first := (List.range nk).map fun i => (k.drop (4 * i)).take 4
  let words := (aesExpand nk (4 * (nk + 7) - nk) first.reverse).reverse
  (List.range (nk + 7)).map fun i => ((words.drop (4 * i)).take 4).flatten

/-- The rounds after the first key addition; the last does not mix columns. -/
def aesRounds : List (List Nat) → List Nat → List Nat
  | [], b => b
  | k :: rest, b =>
    let b := aesShift 1 (b.map (aesBox aesSboxRows))
    aesRounds rest (xorList k (if rest.isEmpty then b else aesMix [2, 3, 1, 1] b))

/-- The encryption of a block. -/
def aesEncrypt (keys : List (List Nat)) (b : List Nat) : List Nat :=
  aesRounds (keys.drop 1) (xorList (keys.headD []) b)

/-- The inverse rounds, from the last key on; the first key addition comes last. -/
def aesInvRounds : List (List Nat) → List Nat → List Nat
  | [], b => b
  | k :: rest, b =>
    let b := xorList k ((aesShift 3 b).map (aesBox aesInvRows))
    aesInvRounds rest (if rest.isEmpty then b else aesMix [14, 11, 13, 9] b)

/-- The decryption of a block. -/
def aesDecrypt (keys : List (List Nat)) (b : List Nat) : List Nat :=
  let r := keys.reverse
  aesInvRounds (r.drop 1) (xorList (r.headD []) b)

/-- A block as a number, and a number as a block. -/
def blockNat (b : List Nat) : Nat := b.foldl (fun v x => v * 256 + x) 0

def natBlock (v : Nat) : List Nat := (beBytes 16 v).map (·.toNat)

/-- The encryption of a block given as a number. -/
def aesNat (keys : List (List Nat)) (v : Nat) : Nat := blockNat (aesEncrypt keys (natBlock v))

/-! ## The unwrap of RFC 3394 (R418) -/

/-- One step of the unwrap: the integrity value and the blocks of 64 bits, and the step's number, from 1. -/
def unwrapStep (keys : List (List Nat)) (n : Nat) (t : Nat × List Nat) (step : Nat) : Nat × List Nat :=
  let i := (step - 1) % n
  let b := blockNat (aesDecrypt keys (natBlock ((t.1 ^^^ step) * 2 ^ 64 + t.2.getD i 0)))
  (b / 2 ^ 64, t.2.set i (b % 2 ^ 64))

/-- The unwrap of RFC 3394: key, wrapped bytes; none when the integrity check fails (R418). (PRESUMED: log entry 9) -/
@[irreducible] def aesUnwrap (key wrapped : List Byte) : Option (List Byte) :=
  let n := wrapped.length / 8 - 1
  let block := fun i => beNat ((wrapped.drop (8 * i)).take 8)
  let r := ((List.range (6 * n)).map (· + 1)).reverse.foldl (unwrapStep (aesRoundKeys key) n)
    (block 0, (List.range n).map fun i => block (i + 1))
  if r.1 = 0xA6A6A6A6A6A6A6A6 then some (r.2.flatMap (beBytes 8)) else none

/-! ## The key derivation of RFC 3711 (R420) -/

/-- `len` bytes of the AES-CM key stream from a counter block. -/
def aesStream (keys : List (List Nat)) (first len : Nat) : List Byte :=
  ((List.range ((len + 15) / 16)).flatMap fun i => beBytes 16 (aesNat keys (first + i))).take len

/-- The length of the session key of a label: an encryption key, an authentication key, a salt.
(PRESUMED: log entry 9) -/
def labelLen (keyLen label : Nat) : Nat := if label % 3 = 0 then keyLen else if label % 3 = 1 then 20 else 12

/-- The key derivation of RFC 3711 with the AES-CM function and rate 0: master key, salt, label (R420). Where a salt of 96
bits lies in the 112 bits of the derivation is open. (PRESUMED: log entry 9) -/
@[irreducible] def srtpKdf (key salt : List Byte) (label : Nat) : List Byte :=
  let wide := if Config.saltLow then beNat salt else beNat salt * 2 ^ 16
  aesStream (aesRoundKeys key) ((wide ^^^ label * 2 ^ 48) * 2 ^ 16) (labelLen key.length label)

/-! ## The protection of RFC 7714 (R113, R262) -/

/-- The product in the field of GCM: `y` shifted once for every bit of `x`, the highest first. -/
def ghashMul (x y : Nat) : Nat :=
  ((List.range 128).foldl (fun (t : Nat × Nat) i =>
    (if x.testBit (127 - i) then t.1 ^^^ t.2 else t.1, if t.2 % 2 = 1 then t.2 / 2 ^^^ 0xE1 * 2 ^ 120 else t.2 / 2))
    (0, y)).1

/-- Bytes as blocks of 16, the last filled with zeros. -/
def ghashBlocks (bs : List Byte) : List Nat :=
  (List.range ((bs.length + 15) / 16)).map fun i => beNat (takeBytes 16 (bs.drop (16 * i)))

/-- The tag of GCM: initialisation vector, clear head, ciphertext. -/
def gcmTag (keys : List (List Nat)) (iv : Nat) (aad cipher : List Byte) : List Byte :=
  let h := aesNat keys 0
  let blocks := ghashBlocks aad ++ ghashBlocks cipher ++ [8 * aad.length * 2 ^ 64 + 8 * cipher.length]
  beBytes 16 (aesNat keys (iv * 2 ^ 32 + 1) ^^^ blocks.foldl (fun y b => ghashMul (y ^^^ b) h) 0)

/-- Bytes under the key stream of GCM. -/
def gcmCrypt (keys : List (List Nat)) (iv : Nat) (bs : List Byte) : List Byte :=
  List.zipWith (· ^^^ ·) bs (aesStream keys (iv * 2 ^ 32 + 2) bs.length)

/-- The key length of a suite (R113). -/
def suiteLen (suite : Nat) : Nat := if suite = 0 then 16 else 32

/-- The initialisation vector of a packet: its source and its index over the session salt. -/
def srtpIv (salt : List Byte) (index : Nat) (rtcp : Bool) (head : List Byte) : Nat :=
  let source := beNat ((head.drop (if rtcp then 4 else 8)).take 4)
  source * 2 ^ 48 + index ^^^ beNat salt

/-- The bytes that are authenticated beside the sealed ones; those of SRTCP end with the E flag and the index. -/
def srtpAad (index : Nat) (rtcp : Bool) (head : List Byte) : List Byte :=
  head ++ if rtcp then beBytes 4 (2 ^ 31 + index % 2 ^ 31) else []

/-- The sealing of RFC 7714 with the suites of R113: session keys, suite, index, whether RTCP, clear head, what is
sealed (R262). What a suite does with a master key of the other length is open. (PRESUMED: log entry 9) -/
@[irreducible] def srtpSeal (keys : List (List Byte)) (suite index : Nat) (rtcp : Bool) (head plain : List Byte) :
    List Byte :=
  let j := if rtcp then 3 else 0
  let key := keys.getD j []
  if key.length = suiteLen suite then
    let k := aesRoundKeys key
    let iv := srtpIv (keys.getD (j + 2) []) index rtcp head
    let cipher := gcmCrypt k iv plain
    cipher ++ gcmTag k iv (srtpAad index rtcp head) cipher
  else Config.oddSeal keys suite index rtcp head plain

/-- The opening of what RFC 7714 sealed; none when authentication fails (R113). (PRESUMED: log entry 9) -/
@[irreducible] def srtpOpen (keys : List (List Byte)) (suite index : Nat) (rtcp : Bool) (head sealed : List Byte) :
    Option (List Byte) :=
  let j := if rtcp then 3 else 0
  let key := keys.getD j []
  if key.length = suiteLen suite then
    let k := aesRoundKeys key
    let iv := srtpIv (keys.getD (j + 2) []) index rtcp head
    let cipher := sealed.take (sealed.length - 16)
    if 16 ≤ sealed.length && gcmTag k iv (srtpAad index rtcp head) cipher = sealed.drop (sealed.length - 16)
    then some (gcmCrypt k iv cipher) else none
  else Config.oddOpen keys suite index rtcp head sealed

end Sys2Proof.Machine
end

