-- ==== Sys2Proof/Machine/Keys.lean ====
section
/-! DEFINITION. The key store: slots, session keys, the VBAT secret store, random numbers, and clearing before
scan (R416, R418 to R421, R424, R426). -/

namespace Sys2Proof.Machine

def pKey : Nat := 2
def pEnc : Nat := 130

/-- A register of mirror channel `c` (R263). -/
def encOff (c r : Nat) : Nat := 0x100 + 0x80 * c + r

def encOn (c : Nat) (s : State) : Bool := s.rb pEnc (encOff c 0) 0

/-! ## Session keys (R420) -/

def keyUser : KeyUser → Nat
  | .ctx c => c.val
  | .channel c => 128 + c.val

/-- The slot of a user that is enabled with SRTP. -/
def userSlot (u : KeyUser) (s : State) : Option Nat :=
  match u with
  | .ctx c =>
    if ctxOn c.val s && bit (s.regAt pSrc 0x11C c.val) 0 then some (s.rfAt pSrc 0x11C c.val 15 8) else none
  | .channel c =>
    if encOn c.val s && s.rb pEnc (encOff c.val 0x30) 0 then some (s.rf pEnc (encOff c.val 0x30) 15 8) else none

/-- Session keys as the SRTP engines hold them. -/
def sessionKeys (user : Nat) (s : State) : Option (List (List Byte)) := smGet user s.key.sess

/-- The session keys of a user are zeroed when it is disabled. -/
def dropSession (user : Nat) (s : State) : State :=
  { s with key := { s.key with sess := smErase user s.key.sess } }

/-- SESSION_KEY_DERIVED: the derivation completes; an EMPTY slot gives no keys. -/
def execSessionKeyDerived (u : KeyUser) (s : State) : Host.Outcome State Fault Refusal :=
  .next (whenClocked s (match userSlot u s with
    | none => s
    | some slot =>
      match smGet slot s.key.slots with
      | none => s
      | some k =>
        let keys := (List.range 6).map fun l => srtpKdf k.key k.salt l
        { s with key := { s.key with sess := smInsert (keyUser u) keys s.key.sess } }))

/-- A slot is named by an enabled context or channel that has SRTP enabled (R418). -/
def slotInUse (slot : Nat) (s : State) : Bool :=
  (List.range 128).any (fun c => ctxOn c s && bit (s.regAt pSrc 0x11C c) 0 && s.rfAt pSrc 0x11C c 15 8 = slot)
    || (List.range 4).any fun c =>
      encOn c s && s.rb pEnc (encOff c 0x30) 0 && s.rf pEnc (encOff c 0x30) 15 8 = slot

/-! ## Commands (R418, R419) -/

/-- KEY_DATA as bytes: `n` bytes from DATA*i*. -/
def keyData (i n : Nat) (s : State) : List Byte :=
  ((List.range ((n + 3) / 4)).flatMap fun k => leBytes 4 (s.reg pKey (0x080 + 4 * (i + k))).toNat).take n

/-- KEY zeroes DATA0 to DATA13 after every command. -/
def zeroData (s : State) : State :=
  (List.range 14).foldl (fun s i => s.setReg pKey (0x080 + 4 * i) 0) s

def setSlot (slot : Nat) (k : Option KeySlot) (s : State) : State :=
  { s with key := { s.key with slots := match k with
      | some k => smInsert slot k s.key.slots
      | none => smErase slot s.key.slots } }

/-- The fused 256-bit device wrapping key (R418). -/
def wrapKey : List Byte := (List.range 32).map Config.wrapKeyByte

/-- What a slot command unwraps to. -/
def unwrapped (wrap : Bool) (s : State) : Option (List Byte) :=
  aesUnwrap (if wrap then s.vbt.secret.getD [] else wrapKey) (keyData 0 56 s)

/-- KEY_STAT.BUSY: a command is in progress (R419, R426). (DEDUCED: log entry 58) -/
def keyBusy (s : State) : Bool := s.key.vstore.isSome

/-- The fused counter with the programming in progress (R424). (DEDUCED: log entry 58) -/
def fuseTarget (s : State) : Nat := s.key.fusing.foldl (fun a f => max a f.2) (max Config.fuseSv.toNat s.fuseSv)

/-- The check of a write to the KEY page (R418, R424, R426). (DEDUCED: log entry 58) -/
def keyCheck (m : Master) (off : Nat) (v : Word) (s : State) : Verdict :=
  if 0x40 ≤ off && reservedSet pKey off v then .err 0x40
  else if (off = 0x048 || off = 0x050) && keyBusy s then .err 0x44
  else
    match off with
    | 0x048 =>
      let slot := s.rfAt pKey 0x044 (masterId m) 7 0
      let cmd := fld v 1 0
      if cmd ≠ 0 && slotInUse slot s then .err 0x42
      else if bit v 9 && s.vbt.secret.isNone then .err 0x43
      else if cmd = 0 then .ok
      else if cmd = 2 && (unwrapped (bit v 9) s).isNone then .err 0x41
      else .ok
    | 0x060 =>
      if fld v 7 0 < fuseTarget s || s.rf pKey 0x05C 23 16 < fld v 7 0 then .err 0x40
      else .ok
    | _ => .ok

/-- A slot command takes effect (R418). -/
def slotEffect (slot : Nat) (v : Word) (s : State) : State :=
  let len := bit v 8
  let n := if len then 32 else 16
  let done := fun (k : Option KeySlot) => raiseBit pKey 0 (zeroData (setSlot slot k s))
  match fld v 1 0 with
  | 1 => done (some { len256 := len, key := keyData 0 n s, salt := keyData 8 12 s })
  | 2 =>
    match unwrapped (bit v 9) s with
    | some d => done (some { len256 := len, key := d.take n, salt := (d.drop 32).take 12 })
    | none => s
  | 3 => done none
  | _ => s

/-- The clearing of R416 over the volatile stores; `ok` is what the hardware read-back found, which it finds at the next
clearings too. (DEDUCED: log entry 58) -/
def clearStores (ok : Bool) (s : State) : State :=
  let s := { s with key := { s.key with slots := [], sess := [] }, keyStuck := !ok }
  let s := s.setFld pKey 0x040 0 0 (b2n ok)
  if ok then s.setFld pKey 0x040 1 1 0
  else withdraw 8 0 (raiseBit pKey 1 (s.setFld pKey 0x040 1 1 1))

/-- A command on the VBAT secret store starts: its data is taken, and it completes within 3 VBT clocks, 91.55 µs (R22,
R419). (DEDUCED: log entry 58) -/
def vstoreStart (secret : Option (List Byte)) (s : State) : State :=
  let (w, s) := s.takeFree
  { s with key := { s.key with vstore := some (s.clk + w.toNat % 45777, secret) } }

/-- What the clock completes: a command on the VBAT secret store, and the programming of fuses (R419, R424).
(DESIGN CHOICE, DEDUCED: log entries 2, 58) -/
def keyTick (s : State) : State :=
  let s :=
    match s.key.vstore with
    | some (t, secret) =>
      if t ≤ s.clk then
        raiseBit pKey 0
          (zeroData { s with vbt := { s.vbt with secret }, key := { s.key with vstore := none } })
      else s
    | none => s
  match s.key.fusing with
  | (t, sv) :: rest => if t ≤ s.clk then { s with fuseSv := max s.fuseSv sv, key := { s.key with fusing := rest } } else s
  | [] => s

/-- The effect of an accepted write to the KEY page; `ok` is the read-back of a clearing. (DEDUCED: log entry 58) -/
def keyEffect (m : Master) (off : Nat) (v : Word) (ok : Bool) (s : State) : State :=
  match off with
  | 0x048 => slotEffect (s.rfAt pKey 0x044 (masterId m) 7 0) v s
  | 0x050 =>
    match fld v 1 0 with
    | 1 => vstoreStart (some (keyData 0 32 s)) s
    | 2 => vstoreStart none s
    | _ => s
  | 0x054 => if bit v 0 then clearStores ok s else s
  | 0x060 => { s with key := { s.key with fusing := s.key.fusing ++ [(s.clk + 5000000, fld v 7 0)] } }
  | _ => if 0x080 ≤ off then s.setReg pKey off v else s

/-- A write to a register of the KEY page. The low byte of KEY_DATA is byte 0. -/
def keyWriteWith (ok : Bool) (m : Master) (off : Nat) (v : Word) (s : State) : State :=
  let t := regCommand m pKey off v (keyCheck m off v) (keyEffect m off v ok) s
  if (admitWrite m pKey off v s).isNone && keyCheck m off v s = .err 0x41 then zeroData t else t

def keyWrite (m : Master) (off : Nat) (v : Word) (s : State) : State := keyWriteWith (!s.keyStuck) m off v s

/-- KEY_ZEROISE (R416, R426). (DEDUCED: log entry 58) -/
def execKeyZeroise (m : Master) (readBackZero : Bool) (s : State) : Host.Outcome State Fault Refusal :=
  .next (issue m .write pKey 0x054 (keyWriteWith readBackZero m 0x054 1) s)

/-- LOAD_PLAIN (R418). -/
def execLoadPlain (m : Master) (len256 : Bool) (s : State) : Host.Outcome State Fault Refusal :=
  .next (issue m .write pKey 0x048 (keyWrite m 0x048 (BitVec.ofNat 32 (b2n len256 * 256 + 1))) s)

/-- LOAD_WRAPPED (R418). (DEDUCED: log entry 58) -/
def execLoadWrapped (m : Master) (wrap len256 : Bool) (s : State) : Host.Outcome State Fault Refusal :=
  .next (issue m .write pKey 0x048 (keyWrite m 0x048 (BitVec.ofNat 32 (b2n wrap * 512 + b2n len256 * 256 + 2))) s)

/-- SLOT_CLEAR: CMD CLEAR (R418). -/
def execSlotClear (m : Master) (s : State) : Host.Outcome State Fault Refusal :=
  .next (issue m .write pKey 0x048 (keyWrite m 0x048 3) s)

/-- VSTORE_LOAD (R419). -/
def execVstoreLoad (m : Master) (s : State) : Host.Outcome State Fault Refusal :=
  .next (issue m .write pKey 0x050 (keyWrite m 0x050 1) s)

/-- VSTORE_CLEAR (R419). -/
def execVstoreClear (m : Master) (s : State) : Host.Outcome State Fault Refusal :=
  .next (issue m .write pKey 0x050 (keyWrite m 0x050 2) s)

/-- FUSE_SV_WRITE (R424). (DEDUCED: log entry 58) -/
def execFuseSvWrite (m : Master) (sv : BitVec 8) (s : State) : Host.Outcome State Fault Refusal :=
  .next (issue m .write pKey 0x060 (keyWrite m 0x060 (sv.setWidth 32)) s)

/-! ## Reading; random numbers (R421, R426) -/

/-- The read of KEY_RNG: conditioned physical entropy, or 0 after a failed health test. (DEDUCED: log entry 58) -/
def rngValue (s : State) : Word × State := if s.rb pKey 0x040 2 then (0, s) else s.takeFree

/-- RNG_READ (R421). -/
def execRngRead (m : Master) (s : State) : Host.Outcome State Fault Refusal :=
  .next (issue m .read pKey 0x058 (readCommand m pKey 0x058 rngValue) s)

/-- RNG_HEALTH_FAIL (R421). -/
def execRngHealthFail (s : State) : Host.Outcome State Fault Refusal :=
  .next (whenServed s (raiseBit pKey 2 (s.setFld pKey 0x040 2 2 1)))

/-- A read of the KEY page. KEY_DATA reads 0. -/
def keyRead (m : Master) (off : Nat) (s : State) : Word × State :=
  match off with
  | 0x040 =>
    (BitVec.ofNat 32 (s.key.slots.length * 65536 + b2n (keyBusy s) * 16 + b2n s.vbt.secret.isSome * 8) ||| (s.reg pKey 0x040 &&& 7), s)
  | 0x044 => (s.regAt pKey 0x044 (masterId m), s)
  | 0x04C =>
    (match smGet (s.rfAt pKey 0x044 (masterId m) 7 0) s.key.slots with
      | none => 0
      | some k => if k.len256 then 2 else 1, s)
  | 0x058 => rngValue s
  | 0x05C => (putFld (s.reg pKey 0x05C) 15 8 (max Config.fuseSv.toNat s.fuseSv), s)
  | _ => (if 0x080 ≤ off then 0 else s.reg pKey off, s)

end Sys2Proof.Machine
end

