-- ==== Sys2Proof/Machine/Source.lean ====
section
/-! DEFINITION. The SRC page: configuration and limits of source contexts, their enable and disable, statistics
and timeouts (R62 to R64, R102 to R105, R122 to R124, R488). -/

namespace Sys2Proof.Machine

/-- The context selected by a master (R16). (DEDUCED: log entry 24) -/
def srcSel (m : Master) (s : State) : Nat := s.rfAt pSrc 0x040 (masterId m) 6 0

/-! ## Checks (R64, R104) -/

/-- Two contexts that may not be enabled together (R104): `v` is the control word of the first.
(DESIGN CHOICE: log entry 106) -/
def ctxClash (c : Nat) (v : Word) (d : Nat) (s : State) : Bool :=
  let kind := fld v 3 1
  if d = c || !ctxOn d s || ctxKind d s ≠ kind then false
  else if kind = kindIp then
    let a := s.regAt pSrc 0x104 c
    let b := s.regAt pSrc 0x104 d
    fld a 31 28 = fld b 31 28 && fld a 15 0 = fld b 15 0
      && ((!bit a 16 && !bit b 16)
        || (bit a 16 && bit b 16 && s.regAt pSrc 0x108 c = s.regAt pSrc 0x108 d))
  else if kind = kindDp then fld v 11 8 = ctxPort d s
  else s.regAt pSrc 0x10C c = s.regAt pSrc 0x10C d

/-- An enable is refused with CTX_CONFLICT (R104). -/
def ctxConflict (c : Nat) (v : Word) (s : State) : Bool :=
  let kind := fld v 3 1
  kind = 0 || 3 < kind || 1 < fld v 5 4 || 1 < s.rfAt pSrc 0x11C c 2 1
    || (fld v 11 8 ≠ 0 && kind ≠ kindDp)
    || (kind = kindIp && s.rfAt pSrc 0x118 c 31 20 = 0)
    || (List.range 128).any fun d => ctxClash c v d s

/-- ING_PRP_CFG.FORGET_MS. -/
def forgetMs (s : State) : Nat := s.rf pIng 0x040 15 8

/-- A token side outside 0 and 4 to 256 (R122). -/
def badSide (n : Nat) : Bool := n ≠ 0 && (n < 4 || 256 < n)

/-- The record region would lie outside populated DRAM (R64). -/
def badRegion (base mib : Nat) (s : State) : Bool := mib ≠ 0 && dramTop s < base + mib * 0x100000

/-- Registers that an enabled context holds (R104). -/
def heldByEnable (off : Nat) : Bool := (0x104 ≤ off && off ≤ 0x11C) || off = 0x12C || off = 0x130

/-- The ranges of this page's fields (R64, R102, R104). (DEDUCED: log entry 36) -/
def srcRange (c off : Nat) (v : Word) (s : State) : Verdict :=
  let out := fun (lo hi n : Nat) => n < lo || hi < n
  match off with
  | 0x118 => if fld v 31 20 = 0 || 1000000 < fld v 19 0 then .err 0x46 else .ok
  | 0x120 => if out 1 1000 (fld v 26 16) || out 100 60000 (fld v 15 0) then .err 0x46 else .ok
  | 0x128 => if 1000000 < v.toNat then .err 0x46 else .ok
  | 0x130 => if badSide (fld v 31 16) || badSide (fld v 15 0) then .err 0x46 else .ok
  | 0x134 =>
    if out 50 60000 (fld v 15 0) then .err 0x46
    else if fld v 15 0 < 10 * forgetMs s then .err 0x45 else .ok
  | 0x204 => if out 1000 60000000 v.toNat then .err 0x40 else .ok
  | 0x208 => if fld v 15 0 < 2 then .err 0x40 else .ok
  | 0x20C => if out 100 60000 (fld v 15 0) then .err 0x40 else .ok
  | 0x1F4 =>
    if (List.range 128).any (fun d => ctxOn d s) then .err 0x41
    else if badRegion ((heldOf pSrc 0x1F0 0 s).toNat + fld v 7 0 * 2 ^ 32) (s.rf pSrc 0x1F8 15 0) s then .err 0x42
    else .ok
  | 0x1F8 =>
    if (List.range 128).any (fun d => ctxOn d s) then .err 0x41
    else if badRegion (recBase s) (fld v 15 0) s then .err 0x42 else .ok
  | 0x100 =>
    if 7 < fld v 11 8 then .err 0x46
    else if ctxOn c s then
      if (v ^^^ s.regAt pSrc 0x100 c) &&& 0xF3E ≠ 0 then .err 0x43 else .ok
    else if !bit v 0 then .ok
    else if ctxConflict c v s then .err 0x44
    else if s.rfAt pSrc 0x134 c 15 0 < 10 * forgetMs s then .err 0x45
    else .ok
  | _ => .ok

/-- The checks of a write to the SRC page (R102, R104, R113). (DEDUCED: log entry 36) -/
def srcCheck (m : Master) (off : Nat) (v : Word) (s : State) : Verdict :=
  let c := srcSel m s
  if heldByEnable off && ctxOn c s then .err 0x43 else srcRange c off v s

/-! ## Enable and disable (R105, R488) -/

/-- The unreleased access units of a context are discarded without a count (R105). -/
def jbAbandon (c : Nat) (s : State) : State :=
  setCtx c (fun t => { t with jb := [], jbNext := none, jbLeft := none, jbTop := none }) s

/-- Input in progress for a context is abandoned: unreleased access units without a count, frames and pictures
with one (R105). -/
def ctxAbandon (c : Nat) (s : State) : State :=
  let s := jbAbandon c s
  let (had, s) := abandonDpi c s
  let s := if had then dropFrame c s else s
  rxAbandon c s

/-- ENABLE has been written to 0 (R105, R420). (DEDUCED: log entry 37) -/
def ctxDisable (c : Nat) (s : State) : State := setCtxState c 0 (dropSession c (ctxAbandon c s))

/-- A context is enabled (R105); its claim gate holds the rank 0 (R287, R303). (DEDUCED: log entry 36) -/
def ctxEnable (c : Nat) (s : State) : State :=
  let s := setCtx c (fun t => { t with
    learned := none, lastInput := s.clk, sr := none, srtp := {}, srtcp := {}, jb := [], jbTop := none
    jbNext := none, jbLeft := none, seq := 0, identRun := 0, prevCrc := none, prevToken := none
    tokenCt := 0 }) s
  let s := (s.setFldAt pSrc 0x138 c 8 8 0).setFldAt pSrc 0x138 c 10 10 0
  setGate c (fun g => { last := g.last }) (setCtxState c 1 (srEdge c s))

/-- The twelve statistics counters are cleared (R124). -/
def statClear (c : Nat) (s : State) : State :=
  let s := (List.range 12).foldl (fun s i => s.setRegAt pSrc (0x150 + 4 * i) c 0) s
  setCtx c (fun t => { t with kib := 0 }) s

/-- A write of a liveness limit is kept with the limits before it (R51). (DESIGN CHOICE: log entry 29) -/
def noteLimits (c : Nat) (before : LvLimits) (s : State) : State :=
  { s with lvWrites := (s.lvWrites.filter fun e => s.clk < e.2.2 + 1000) ++ [(c, before, s.clk)] }

/-- The effect of an accepted write; `was` is the state before it. Every write of ENABLE = 1 starts FRAME_SEQ at 0
(R35); the other effects of an enable are those of a disabled context (R105, R110). (DEDUCED: log entry 36) -/
def srcEffect (m : Master) (off : Nat) (v : Word) (was s : State) : State :=
  let c := srcSel m was
  match off with
  | 0x100 =>
    if bit v 0 && !ctxOn c was then ctxEnable c s
    else if bit v 0 then setCtx c (fun t => { t with seq := 0 }) s
    else if ctxOn c was then ctxDisable c s
    else s
  | 0x120 => srEdge c s
  | 0x140 => if s.regAt pSrc 0x13C c &&& s.regAt pSrc 0x140 c ≠ 0 then raiseBit pSrc 0 s else s
  | 0x144 => if bit v 0 then statClear c s else s
  | 0x200 | 0x204 | 0x208 | 0x20C => noteLimits c (limitsNow c was) s
  | _ => s

/-- A write to a register of the SRC page. -/
def srcWrite (m : Master) (off : Nat) (v : Word) (s : State) : State :=
  regCommand m pSrc off v (srcCheck m off v) (srcEffect m off v s) s

/-- A read of the SRC page. A read of SRC_LAST_CT_SEC_LO captures the rest of the capture time (R63). -/
def srcRead (m : Master) (off : Nat) (s : State) : Word × State :=
  let c := srcSel m s
  match off with
  | 0x040 => (BitVec.ofNat 32 c, s)
  | 0x044 | 0x048 | 0x04C | 0x050 => (srcPend ((off - 0x044) / 4) s, s)
  | 0x108 =>
    (if s.rfAt pSrc 0x104 c 16 16 = 1 then s.regAt pSrc off c
      else BitVec.ofNat 32 ((smAt c s.ctx).learned.getD 0), s)
  | 0x138 => (putFld (s.regAt pSrc off c) 9 9 (b2n (srValid c s)), s)
  | 0x214 =>
    (s.regAt pSrc off c,
      setShadows m pSrc 0x218 [s.regAt pSrc 0x218 c, s.regAt pSrc 0x21C c, s.regAt pSrc 0x220 c] s)
  | 0x218 | 0x21C | 0x220 => readShadow m pSrc off 0 (s.regAt pSrc off c) s
  | _ => if 0x1F0 ≤ off && off < 0x200 then (s.reg pSrc off, s) else (s.regAt pSrc off c, s)

/-- SRC_CTX_ENABLE: a write of SRC_CTX_CTRL with ENABLE = 1 (R105). -/
def execSrcCtxEnable (m : Master) (ctrl : Word) (s : State) : Host.Outcome State Fault Refusal :=
  .next (issue m .write pSrc 0x100 (srcWrite m 0x100 (ctrl ||| 1)) s)

/-- SRC_CTX_DISABLE: a write of SRC_CTX_CTRL with ENABLE = 0 (R105). -/
def execSrcCtxDisable (m : Master) (ctrl : Word) (s : State) : Host.Outcome State Fault Refusal :=
  .next (issue m .write pSrc 0x100 (srcWrite m 0x100 (ctrl &&& ~~~ 1#32)) s)

/-- SRC_STAT_CLEAR (R124). -/
def execSrcStatClear (m : Master) (s : State) : Host.Outcome State Fault Refusal :=
  .next (issue m .write pSrc 0x144 (srcWrite m 0x144 1) s)

/-- The SRC page has been disabled: input in progress ends for every enabled context (R488).
(DEDUCED: log entry 37) -/
def srcStopped (s : State) : State :=
  ((List.range 128).filter fun c => ctxOn c s).foldl (fun s c => ctxAbandon c s) s

/-! ## Timeouts (R115, R123) -/

/-- A context at the instant `t` of the grid. -/
def timeoutAt (t c : Nat) (s : State) : State :=
  let st := ctxState c s
  if ctxOn c s && (st = 1 || st = 2) && (smAt c s.ctx).lastInput + s.rfAt pSrc 0x134 c 15 0 * 500000 ≤ t then
    ctxEvent c evTimeout (count c stTimeouts (setCtxState c 3 s))
  else s

/-- SRC_TIMEOUT_CHECK: the latest whole millisecond of the timer counter is evaluated (R123, R343). -/
def execSrcTimeoutCheck (s : State) : Host.Outcome State Fault Refusal :=
  let g := s.timer / 100000
  .next (whenClocked s (if g ≤ s.srcGrid then s
    else (List.range 128).foldl (fun s c => timeoutAt (g * 500000 + s.pwr.asleep) c s) { s with srcGrid := g }))

/-- SR_EXPIRE: SR_VALID of a context has fallen with the age of its sender report (R115). -/
def execSrExpire (c : Fin 128) (s : State) : Host.Outcome State Fault Refusal := .next (whenClocked s (srEdge c.val s))

end Sys2Proof.Machine
end

