-- ==== Sys2Proof/Machine/Capture.lean ====
section
/-! DEFINITION. The DisplayPort sink ports: lock, format changes, the start of a frame, AUX requests and the DPI pages
(R118 to R121). -/

namespace Sys2Proof.Machine

def pDpi (p : Nat) : Nat := 74 + p

def dpiMaster (p : Nat) : Master := .dpi ⟨p % 8, Nat.mod_lt _ (by decide)⟩

def setDpi (p : Nat) (f : DpiSt → DpiSt) (s : State) : State := { s with dpi := smSet p (f (smAt p s.dpi)) s.dpi }

/-- The port is enabled with LINK_EN = 1. -/
def dpiLive (p : Nat) (s : State) : Bool := s.enabled (pDpi p) && s.rb (pDpi p) 0x040 1

/-- The enabled DP context of a port. -/
def dpiCtx (p : Nat) (s : State) : Option Nat :=
  (List.range 128).find? fun c => ctxOn c s && ctxKind c s = kindDp && ctxPort c s = p

/-- A stream lies within R118. -/
def dpSupported (f : DpFormat) : Bool :=
  !f.other && (f.bpc = 8 || f.bpc = 10) && 640 ≤ f.width && f.width ≤ 3840 && 480 ≤ f.height && f.height ≤ 2160
    && f.hTotal ≤ 8192 && f.vTotal ≤ 4096 && f.pixelKhz ≤ 600000

/-- DPI_STAT and DPI_GEOM show a stream. -/
def showStream (p : Nat) (f : DpFormat) (s : State) : State :=
  let s := (s.setFld (pDpi p) 0x048 4 4 (b2n (f.bpc = 10))).setFld (pDpi p) 0x048 3 3 (b2n f.ycc)
  (s.setFld (pDpi p) 0x048 2 2 (b2n (dpSupported f))).setReg (pDpi p) 0x04C
    (BitVec.ofNat 32 (f.width % 65536 * 65536 + f.height % 65536))

/-- DP_LOCKED of the port's context. (DESIGN CHOICE: log entry 106) -/
def showLocked (p : Nat) (on : Bool) (s : State) : State :=
  match dpiCtx p s with
  | some c => s.setFldAt pSrc 0x138 c 10 10 (b2n on)
  | none => s

/-- DPI_LOCK_GAINED: a trained link has symbol lock and a valid MSA (R118, R119). -/
def execDpiLockGained (p : Fin 8) (f : DpFormat) (s : State) : Host.Outcome State Fault Refusal :=
  .next (whenClocked s (if !dpiLive p.val s || !s.rb (pDpi p.val) 0x048 1 then s
    else showLocked p.val (dpSupported f) (showStream p.val f (s.setFld (pDpi p.val) 0x048 0 0 1))))

/-- A frame in progress is discarded (R121). -/
def dpiDrop (p : Nat) (s : State) : State :=
  match (smAt p s.dpi).frame with
  | none => s
  | some fr => dropFrame fr.ctx (setDpi p (fun d => { d with frame := none }) (setMark fr.buf mkFill false s))

/-- Lock is lost (R121). -/
def dpiUnlock (p : Nat) (s : State) : State :=
  showLocked p false ((dpiDrop p s).setFld (pDpi p) 0x048 0 0 0)

/-- DPI_LOCK_LOSS. -/
def execDpiLockLoss (p : Fin 8) (s : State) : Host.Outcome State Fault Refusal := .next (whenClocked s (dpiUnlock p.val s))

/-! ## Frames (R120, R121, R137, R489) -/

/-- A change of geometry or colour format (R121). (DEDUCED: log entry 44) -/
def dpChanged (a b : DpFormat) : Bool :=
  a.width ≠ b.width || a.height ≠ b.height || a.bpc ≠ b.bpc || a.ycc ≠ b.ycc

/-- T_arr less the latency; the timestamp's error of at most ±20 ns is open (R120). (DESIGN CHOICE: log entry 45) -/
def arrivalTime (c : Nat) (s : State) : CapTime × State :=
  let (w, s) := s.takeFree
  let t : Int := Int.ofNat s.t16 + Int.ofNat (w.toNat % (40 * 65536 + 1)) - 20 * 65536
  let lat : Int := (s.regAt pSrc 0x128 c).toNat * 1000 * 65536
  (capTime (t - lat) s.tm.epoch 2 true (traceable s), s)

/-- A context takes a frame that begins; `was` is the state as it began (R137, R138). -/
def frameFor (was : State) (p c : Nat) (f : DpFormat) (s : State) : State :=
  let (ct, s) := arrivalTime c s
  if !dspOn c s then dropFrame c s
  else
    let need : Need := { w := f.width, h := f.height, depth := 10, atLeast := false, planar := false, mborin := false }
    match allocAfter was c need s with
    | (none, s) => dropFrame c s
    | (some b, s) => setDpi p (fun d => { d with frame := some { ctx := c, buf := b, ct, fmt := f } }) s

/-- DPI_FRAME_START (R118, R120, R121, R489). (DEDUCED: log entry 44) -/
def execDpiFrameStart (p : Fin 8) (f : DpFormat) (s : State) : Host.Outcome State Fault Refusal :=
  let q := p.val
  .next (whenClocked s (if !dpiLive q s || !s.rb (pDpi q) 0x048 0 then s
    else
      let was := s
      let s := showStream q f (dpiDrop q s)
      let last := (smAt q s.dpi).lastFmt
      let ok := dpSupported f
      let s := if ok then setDpi q (fun d => { d with lastFmt := some f }) s else s
      match dpiCtx q s with
      | none => s
      | some c =>
        if srcClosed s then srcRefused (dpiMaster q) s
        else if !ok then ctxEvent c evUnsupported (showLocked q false s)
        else
          let s := showLocked q true s
          let changed : Bool := match last with
            | some g => dpChanged g f
            | none => false
          if changed then ctxEvent c evFormatChange (dropFrame c s) else frameFor was q c f s))

/-! ## Link training at the sink (R118, R119) -/

/-- DPCD registers of MST, DSC, FEC and content protection. (PRESUMED: log entry 43) -/
def dpcdFeature (a : Nat) : Bool :=
  a = 0x021 || (0x060 ≤ a && a ≤ 0x06F) || a = 0x090 || a = 0x091 || (0x0A0 ≤ a && a ≤ 0x0AF) || a = 0x111 || a = 0x120
    || a = 0x160 || (0x1A0 ≤ a && a ≤ 0x1C2) || (0x280 ≤ a && a ≤ 0x2FF) || (0x1000 ≤ a && a ≤ 0x17FF)
    || (0x68000 ≤ a && a < 0x69500)

def dpcdAt (p a : Nat) (s : State) : Nat := (smAt a (smAt p s.dpi).dpcd).toNat

/-- TRAINING_PATTERN_SET: 0 none, 1 to 3 and 7 for TPS1 to TPS4. (PRESUMED: log entry 43) -/
def sinkPattern (p : Nat) (s : State) : Nat := dpcdAt p 0x102 s % 16

/-- DPI_STAT.RATE of LINK_BW_SET; 0 for a code of no rate. (PRESUMED: log entry 43) -/
def sinkRate (p : Nat) (s : State) : Nat :=
  match dpcdAt p 0x100 s with
  | 0x06 => 1
  | 0x0A => 2
  | 0x14 => 3
  | 0x1E => 4
  | _ => 0

/-- LANE_COUNT_SET; 0 for a count that R118 does not give. (PRESUMED: log entry 43) -/
def sinkLanes (p : Nat) (s : State) : Nat :=
  let n := dpcdAt p 0x101 s % 32
  if n = 1 || n = 2 || n = 4 then n else 0

/-- The status nibble of a lane while it trains: what the receiver has reached is open, but nothing beyond clock
recovery under TPS1 and nothing on a lane not in use. (DESIGN CHOICE: log entry 103) -/
def laneStatus (p i : Nat) (w : Word) (s : State) : Nat :=
  if sinkLanes p s ≤ i then 0
  else if sinkPattern p s = 1 then fld w (4 * i) (4 * i)
  else fld w (4 * i + 2) (4 * i)

/-- The receiver looks at the training pattern: bytes 0x202 to 0x204 (R118). (DESIGN CHOICE: log entry 103) -/
def lanesSeen (p : Nat) (s : State) : State :=
  let (w, s) := s.takeFree
  let n := fun i => laneStatus p i w s
  let align := if sinkPattern p s = 1 then 0 else fld w 16 16
  let seen := leBytes 1 (n 0 + 16 * n 1) ++ leBytes 1 (n 2 + 16 * n 3) ++ leBytes 1 align
  setDpi p (fun d => { d with lanes := seen }) s

/-- Every lane in use has clock recovery, equalisation and symbol lock, and the lanes are aligned.
(PRESUMED: log entry 43) -/
def lanesReady (p : Nat) (s : State) : Bool :=
  let l := (smAt p s.dpi).lanes
  0 < sinkRate p s && 0 < sinkLanes p s && octet l 2 % 2 = 1
    && (List.range (sinkLanes p s)).all fun i => octet l (i / 2) / 16 ^ (i % 2) % 8 = 7

/-- The source ends its training pattern: the link is trained, or the attempt has failed (R119).
(PRESUMED: log entry 43) -/
def trainEnded (p : Nat) (s : State) : State :=
  let page := pDpi p
  let ok := lanesReady p s
  let s := if ok then (((s.setFld page 0x048 11 8 (sinkRate p s)).setFld page 0x048 7 5 (sinkLanes p s)).setFld page 0x048 1 1 1)
    else s.bump page 0x050
  setDpi p (fun d => { d with lanes := [] }) s

/-- The source begins to train: the link it had is gone (R121). (PRESUMED: log entry 43) -/
def trainBegun (p : Nat) (s : State) : State := (dpiUnlock p s).setFld (pDpi p) 0x048 11 1 (fld (s.reg (pDpi p) 0x048) 4 2 * 2)

/-- Bytes that the source writes to the DPCD; a write of TRAINING_PATTERN_SET begins or ends training.
(PRESUMED: log entry 43) -/
def dpcdWrite (p a : Nat) (d : List Byte) (s : State) : State :=
  let was := sinkPattern p s
  let s := setDpi p (fun t => { t with
    dpcd := d.zipIdx.foldl (fun m e => smSet (a + e.2) e.1 m) t.dpcd }) s
  let now := sinkPattern p s
  if was = 0 && now ≠ 0 then trainBegun p s
  else if was ≠ 0 && now = 0 then trainEnded p s
  else s

/-! ## AUX (R118, R119) -/

/-- A byte of the DPCD; what R118 does not give is open. The status bytes are those last shown while training, and the
requests for swing and pre-emphasis are the receiver's own. (PRESUMED: log entry 43) -/
def dpcdByte (p a : Nat) (s : State) : Byte × State :=
  if dpcdFeature a then (0, s)
  else if a = 0 then (0x14, s)
  else if a = 1 then (0x1E, s)
  else if 0x100 ≤ a && a ≤ 0x10F then (smAt a (smAt p s.dpi).dpcd, s)
  else if 0x202 ≤ a && a ≤ 0x204 && sinkPattern p s ≠ 0 then ((smAt p s.dpi).lanes.getD (a - 0x202) 0, s)
  else
    let (w, s) := s.takeFree
    let b := BitVec.ofNat 8 (fld w 7 0)
    (if a = 2 then (b &&& 0xE0) ||| 4 else b, s)

def dpcdBytes (p : Nat) : Nat → Nat → State → List Byte × State
  | 0, _, s => ([], s)
  | n + 1, a, s =>
    let (b, s) := dpcdByte p a s
    let (bs, s) := dpcdBytes p n (a + 1) s
    (b :: bs, s)

/-- A byte of the EDID. (PRESUMED: log entry 43) -/
def edidByte (p i : Nat) (s : State) : Byte :=
  BitVec.ofNat 8 ((s.reg (pDpi p) (0x100 + 4 * (i / 4))).toNat / 256 ^ (i % 4))

/-- The answer to a request on the AUX channel. (PRESUMED: log entry 43) -/
def auxServe (p : Nat) (r : DpAux) (s : State) : State :=
  let answer := fun (ok : Bool) (d : List Byte) (s : State) => s.emit (.auxAnswer p ok d)
  match r with
  | .nativeRead a n =>
    let s := if sinkPattern p s ≠ 0 && a ≤ 0x204 && 0x202 < a + n then lanesSeen p s else s
    let (d, s) := dpcdBytes p n a s
    answer true d s
  | .nativeWrite a d => answer true [] (dpcdWrite p a d s)
  | .i2cWrite a d =>
    if a = 0x50 then
      answer true [] (match d.getLast? with
        | some b => setDpi p (fun t => { t with edidPtr := b.toNat }) s
        | none => s)
    else if a = 0x30 then answer (d.all fun b => b = 0) [] s
    else answer false [] s
  | .i2cRead a n =>
    if a = 0x50 then
      let at_ := (smAt p s.dpi).edidPtr
      let d := (List.range n).map fun i => edidByte p ((at_ + i) % 256) s
      answer true d (setDpi p (fun t => { t with edidPtr := (at_ + n) % 256 }) s)
    else answer false [] s

/-- DPI_AUX_REQUEST: answered while LINK_EN = 1 (R119). -/
def execDpiAuxRequest (p : Fin 8) (r : DpAux) (s : State) : Host.Outcome State Fault Refusal :=
  .next (whenClocked s (if dpiLive p.val s then auxServe p.val r s else s))

/-! ## The page (R119, R121) -/

def dpiCheck (p off : Nat) (s : State) : Verdict :=
  if 0x100 ≤ off && s.rb (pDpi p) 0x040 0 then .err 0x40 else .ok

def dpiPulsing (p : Nat) (s : State) : Bool := s.clk < (smAt p s.dpi).irqUntil

/-- The main link is switched off: lock and training are lost (R119, R121). (DESIGN CHOICE: log entry 106) -/
def dpiLinkOff (p : Nat) (s : State) : State :=
  setDpi p (fun d => { d with dpcd := [], lanes := [] }) ((dpiUnlock p s).setReg (pDpi p) 0x048 0)

/-- The effect of an accepted write to a DPI page; `was` is the state before it. A pulse on HPD does not restart the
comparison of R121, so only the rise of LINK_EN does. -/
def dpiEffect (p off : Nat) (v : Word) (was s : State) : State :=
  if off ≠ 0x040 then s
  else
    let s := s.setFld (pDpi p) 0x040 2 2 0
    let s :=
      if !bit v 1 then dpiLinkOff p s
      else if was.rb (pDpi p) 0x040 1 then s
      else setDpi p (fun d => { d with lastFmt := none }) s
    if bit v 2 && !dpiPulsing p s then
      (setDpi p (fun d => { d with irqUntil := s.clk + 375000 }) s).emit (.hpdPulse p)
    else s

/-- A write to a register of a DPI page. -/
def dpiWrite (m : Master) (p off : Nat) (v : Word) (s : State) : State :=
  regCommand m (pDpi p) off v (dpiCheck p off) (dpiEffect p off v s) s

/-- A read of a DPI page. -/
def dpiRead (p off : Nat) (s : State) : Word × State :=
  (if off = 0x040 then putFld (s.reg (pDpi p) off) 2 2 (b2n (dpiPulsing p s)) else s.reg (pDpi p) off, s)

/-- DPI_LINK_ENABLE: a write of LINK_EN = 1, HPD as it is (R121). -/
def execDpiLinkEnable (m : Master) (p : Fin 8) (s : State) : Host.Outcome State Fault Refusal :=
  .next (issue m .write (pDpi p.val) 0x040
    (fun s => dpiWrite m p.val 0x040 ((s.reg (pDpi p.val) 0x040 &&& 1) ||| 2) s) s)

/-- DPI_IRQ_HPD: a write of IRQ_HPD = 1, HPD and LINK_EN as they are (R119). -/
def execDpiIrqHpd (m : Master) (p : Fin 8) (s : State) : Host.Outcome State Fault Refusal :=
  .next (issue m .write (pDpi p.val) 0x040
    (fun s => dpiWrite m p.val 0x040 ((s.reg (pDpi p.val) 0x040 &&& 3) ||| 4) s) s)

end Sys2Proof.Machine
end

