-- ==== Sys2Proof/Machine/Crc.lean ====
section
/-! DEFINITION. The check-value units and the registers of the DMA engines (R372 to R373, R381 to R391). -/

namespace Sys2Proof.Machine

def pCrc (u : Nat) : Nat := 42 + u
def pDma (e : Nat) : Nat := 40 + e

/-! ## The computation (R381) -/

/-- CRC_CFG.WIDTH in bits. -/
def crcWidth (u : Nat) (s : State) : Nat :=
  match s.rf (pCrc u) 0x040 1 0 with
  | 0 => 8
  | 1 => 16
  | _ => 32

def crcMask (u : Nat) (s : State) : Word := BitVec.ofNat 32 (2 ^ crcWidth u s - 1)

/-- A register of `w` bits: bits above read 0 (R382). -/
def crcReg (u off : Nat) (s : State) : Word := s.reg (pCrc u) off &&& crcMask u s

/-- The low `n` bits of a word in reverse order. -/
def reflect (n : Nat) (v : Word) : Word :=
  BitVec.ofNat 32 ((List.range n).foldl (fun a i => a + b2n (bit v i) * 2 ^ (n - 1 - i)) 0)

structure CrcParams where
  w : Nat
  poly : Word
  refin : Bool
  deriving Repr

def CrcParams.mask (k : CrcParams) : Word := BitVec.ofNat 32 (2 ^ k.w - 1)

def crcShift (k : CrcParams) : Nat → Word → Word
  | 0, v => v
  | n + 1, v =>
    crcShift k n (if bit v (k.w - 1) then ((v <<< 1) ^^^ k.poly) &&& k.mask else (v <<< 1) &&& k.mask)

/-- Absorb one byte. -/
def crcByte (k : CrcParams) (v : Word) (b : Byte) : Word :=
  let x := if k.refin then reflect 8 (b.setWidth 32) else b.setWidth 32
  crcShift k 8 (v ^^^ (x <<< (k.w - 8)))

def crcParams (u : Nat) (s : State) : CrcParams :=
  { w := crcWidth u s, poly := crcReg u 0x044 s, refin := s.rb (pCrc u) 0x040 3 }

/-- Absorb bytes and count them (R383). -/
def crcAbsorb (u : Nat) (bs : List Byte) (s : State) : State :=
  let v := bs.foldl (crcByte (crcParams u s)) (crcReg u 0x058 s)
  (s.setReg (pCrc u) 0x058 v).setPairAt (pCrc u) 0x06C 0 ((s.pair (pCrc u) 0x06C + bs.length) % 2 ^ 64)

/-- START (R384). -/
def crcStart (u : Nat) (s : State) : State :=
  let s := (s.setReg (pCrc u) 0x058 (crcReg u 0x048 s)).setPairAt (pCrc u) 0x06C 0 0
  (s.setFld (pCrc u) 0x074 4 4 0).setFld (pCrc u) 0x074 1 0 0

/-- The result of the present value. -/
def crcResult (u : Nat) (s : State) : Word :=
  let v := crcReg u 0x058 s
  (if s.rb (pCrc u) 0x040 4 then reflect (crcWidth u s) v else v) ^^^ crcReg u 0x04C s

/-- FINISH (R384): the result, and whether the comparison failed. (DEDUCED: log entry 69) -/
def crcFinish (u : Nat) (s : State) : Word × Bool × State :=
  let p := pCrc u
  let r := crcResult u s
  let s := raiseBit p 1 (s.setReg p 0x068 r)
  if s.rb p 0x050 2 then
    if r = crcReg u 0x064 s then (r, false, s.setFld p 0x074 1 0 1)
    else (r, true, raiseBit p 0 (s.setFld p 0x074 1 0 2))
  else (r, false, s)

/-- The unit's feeding descriptor failed (R385). -/
def crcAbort (u : Nat) (s : State) : State := raiseBit (pCrc u) 2 (s.setFld (pCrc u) 0x074 4 4 1)

/-- CRC_STAT.BUSY: a feeding descriptor has started and has not completed (R386). -/
def crcBusy (u : Nat) (s : State) : Bool :=
  s.dma.any fun e => e.2.chans.any fun c => c.2.inflight.any fun d => d.fed && d.unit = u

/-- A unit is bound to a channel (R383). -/
def crcBoundTo (u e c : Nat) (s : State) : Bool :=
  let b := s.reg (pCrc u) 0x054
  bit b 31 && fld b 8 8 = e && fld b 2 0 = c

/-! ## Presets (R382) -/

/-- WIDTH code, POLY, INIT, reflected, XOROUT. -/
def crcPreset (n : Nat) : Nat × Word × Word × Bool × Word :=
  match n with
  | 1 => (2, 0x1EDC6F41, 0xFFFFFFFF, true, 0xFFFFFFFF)
  | 2 => (2, 0x04C11DB7, 0xFFFFFFFF, true, 0xFFFFFFFF)
  | 3 => (1, 0x1021, 0xFFFF, false, 0)
  | _ => (0, 0x07, 0, false, 0)

def crcLoad (u n : Nat) (s : State) : State :=
  let p := pCrc u
  let (w, poly, init, ref, xo) := crcPreset n
  let s := ((s.setFld p 0x040 1 0 w).setFld p 0x040 3 3 (b2n ref)).setFld p 0x040 4 4 (b2n ref)
  ((s.setReg p 0x044 poly).setReg p 0x048 init).setReg p 0x04C xo

/-! ## The CRC pages (R382 to R386, R389 to R391) -/

/-- Whether a write asks the unit to work. -/
def crcWork (off : Nat) (v : Word) : Bool := off = 0x05C || off = 0x060 || (off = 0x050 && fld v 1 0 ≠ 0)

/-- The checks of a write to a page of check-value units (R382 to R385). (DEDUCED: log entry 69) -/
def crcCheck (u off : Nat) (v : Word) (s : State) : Verdict :=
  let p := pCrc u
  let wide := off = 0x044 || off = 0x048 || off = 0x04C || off = 0x058 || off = 0x064
  let held := [0x040, 0x044, 0x048, 0x04C, 0x058, 0x06C, 0x070, 0x054].contains off || (off = 0x050 && fld v 1 0 ≠ 0)
  if !s.enabled p && crcWork off v then .err 0x07
  else if held && crcBusy u s then .err 0x40
  else if (off = 0x05C || off = 0x060) && s.rb p 0x054 31 then .err 0x41
  else if 0x40 ≤ off && reservedSet p off v then .err 0x42
  else if wide && v &&& ~~~ crcMask u s ≠ 0 then .err 0x42
  else if off = 0x040 && (4 < fld v 11 8 || fld v 1 0 = 3) then .err 0x42
  else .ok

def crcEffect (u off : Nat) (v : Word) (s : State) : State :=
  let p := pCrc u
  match off with
  | 0x040 => if fld v 11 8 = 0 then s else crcLoad u (fld v 11 8) s
  | 0x050 =>
    let s := s.setFld p 0x050 1 0 0
    let s := if bit v 0 then crcStart u s else s
    if bit v 1 then (crcFinish u s).2.2 else s
  | 0x05C => crcAbsorb u (leBytes 4 v.toNat) s
  | 0x060 => crcAbsorb u (leBytes 1 v.toNat) s
  | _ => s

/-- A write to a register of a CRC page. -/
def crcWrite (m : Master) (u off : Nat) (v : Word) (s : State) : State :=
  regCommand m (pCrc u) off v (crcCheck u off v) (crcEffect u off v) s

/-- CRC_START: a write of START = 1, CMP_EN as it is (R384). -/
def execCrcStart (m : Master) (u : Fin 8) (s : State) : Host.Outcome State Fault Refusal :=
  .next (issue m .write (pCrc u.val) 0x050
    (fun s => crcWrite m u.val 0x050 ((s.reg (pCrc u.val) 0x050 &&& 4) ||| 1) s) s)

/-- CRC_FINISH: a write of FINISH = 1, CMP_EN as it is (R384). -/
def execCrcFinish (m : Master) (u : Fin 8) (s : State) : Host.Outcome State Fault Refusal :=
  .next (issue m .write (pCrc u.val) 0x050
    (fun s => crcWrite m u.val 0x050 ((s.reg (pCrc u.val) 0x050 &&& 4) ||| 2) s) s)

/-- CRC_DATA (R383). -/
def execCrcData (m : Master) (u : Fin 8) (v : Word) (s : State) : Host.Outcome State Fault Refusal :=
  .next (issue m .write (pCrc u.val) 0x05C (crcWrite m u.val 0x05C v) s)

/-- CRC_DATA8 (R383). -/
def execCrcData8 (m : Master) (u : Fin 8) (v : Word) (s : State) : Host.Outcome State Fault Refusal :=
  .next (issue m .write (pCrc u.val) 0x060 (crcWrite m u.val 0x060 v) s)

/-- CRC_CFG_WRITE (R382). -/
def execCrcCfgWrite (m : Master) (u : Fin 8) (v : Word) (s : State) : Host.Outcome State Fault Refusal :=
  .next (issue m .write (pCrc u.val) 0x040 (crcWrite m u.val 0x040 v) s)

/-- A read of a CRC page. -/
def crcRead (u off : Nat) (s : State) : Word × State :=
  let p := pCrc u
  match off with
  | 0x044 | 0x048 | 0x04C | 0x058 | 0x064 => (crcReg u off s, s)
  | 0x05C | 0x060 => (0, s)
  | 0x074 =>
    (putFld (putFld (s.reg p off) 3 3 (b2n (s.rb p 0x054 31))) 2 2 (b2n (crcBusy u s)), s)
  | _ => (s.reg p off, s)

/-! ## Channels of a DMA engine (R372, R373, R379, R380, R387) -/

def dmaOff (c r : Nat) : Nat := 0x100 + 0x40 * c + r

def setEngine (e : Nat) (f : DmaEng → DmaEng) (s : State) : State :=
  { s with dma := smSet e (f (smAt e s.dma)) s.dma }

def dmaCh (e c : Nat) (s : State) : DmaCh := smAt c (smAt e s.dma).chans

def setCh (e c : Nat) (f : DmaCh → DmaCh) (s : State) : State :=
  setEngine e (fun g => { g with chans := smSet c (f (smAt c g.chans)) g.chans }) s

def dmaEn (e c : Nat) (s : State) : Bool := s.rb (pDma e) (dmaOff c 0) 0
def dmaPriv (e c : Nat) (s : State) : Bool := s.rb (pDma e) (dmaOff c 0) 3

/-- DMA_CH*c*_STAT.STATE. -/
def dmaState (e c : Nat) (s : State) : Nat :=
  let t := dmaCh e c s
  if !dmaEn e c s && t.inflight.isEmpty then 0
  else if t.halted then 2
  else 1

/-- A channel halts (R379). -/
def dmaHalt (e c : Nat) (s : State) : State :=
  if (dmaCh e c s).halted then s
  else raiseBit (pDma e) (8 + c) (setCh e c (fun t => { t with halted := true }) s)

/-- The completion ring (R377): entries, and whether it is full. -/
def cqSize (e : Nat) (s : State) : Nat := 2 ^ s.rf (pDma e) 0x048 3 0

/-- The completion ring has no free entry (R377). (DEDUCED: log entry 68) -/
def cqFull (e : Nat) (s : State) : Bool :=
  ((s.reg (pDma e) 0x04C).toNat + 1) % cqSize e s = (s.reg (pDma e) 0x050).toNat % cqSize e s

/-! ## The DMA pages (R387, R388) -/

/-- The channel and register of an offset of the page. -/
def dmaPlace (off : Nat) : Option (Nat × Nat) :=
  if 0x100 ≤ off ∧ off < 0x300 then some ((off - 0x100) / 0x40, (off - 0x100) % 0x40) else none

def ringSizeOk (n : Nat) : Bool := 4 ≤ n && n ≤ 12

def dmaCheck (priv : Bool) (e off : Nat) (v : Word) (s : State) : Verdict :=
  if 0x40 ≤ off && reservedSet (pDma e) off v then .err 0x41
  else
    match dmaPlace off with
    | some (c, r) =>
      if (r = 4 || r = 8 || r = 0xC) && (dmaEn e c s || !(dmaCh e c s).inflight.isEmpty) then .err 0x40
      else if r = 0xC && !ringSizeOk (fld v 3 0) then .err 0x41
      else if r = 0x14 && 2 ^ s.rf (pDma e) (dmaOff c 0xC) 3 0 ≤ v.toNat then .err 0x41
      else if r = 0 && bit v 3 && !priv then .err 0x42
      else .ok
    | none =>
      if (off = 0x040 || off = 0x044 || off = 0x048) && (List.range 8).any (fun c => dmaState e c s ≠ 0) then
        .err 0x40
      else if off = 0x048 && fld v 3 0 ≠ 0 && !ringSizeOk (fld v 3 0) then .err 0x41
      else .ok

/-- A channel's control has been written; `was` is EN before. (DEDUCED: log entry 68) -/
def dmaCtrlEffect (e c : Nat) (v : Word) (was : Bool) (s : State) : State :=
  let s := s.setFld (pDma e) (dmaOff c 0) 2 2 0
  if bit v 2 || (bit v 0 && !was) then setCh e c (fun t => { t with halted := false }) s else s

end Sys2Proof.Machine
end

