-- ==== Sys2Proof/Machine/Dma.lean ====
section
/-! DEFINITION. The DMA pages (R372, R373, R379, R380, R387, R388). -/

namespace Sys2Proof.Machine

/-- The effect of an accepted write to a DMA page; `was` is the state before it. (DEDUCED: log entry 68) -/
def dmaEffect (e off : Nat) (v : Word) (was s : State) : State :=
  let p := pDma e
  match dmaPlace off with
  | some (c, 0) => dmaCtrlEffect e c v (dmaEn e c was) s
  | some (c, 0xC) => (s.setReg p (dmaOff c 0x10) 0).setReg p (dmaOff c 0x14) 0
  | some _ => s
  | none =>
    if off = 0x048 then
      setEngine e (fun g => { g with phase := true }) ((s.setReg p 0x04C 0).setReg p 0x050 0)
    else if off = 0x050 && cqFull e s && !cqFull e was then raiseBit p 16 s
    else s

/-- A write to a register of a DMA page, by an access of the given PRIV. -/
def dmaWrite (m : Master) (priv : Bool) (e off : Nat) (v : Word) (s : State) : State :=
  regCommand m (pDma e) off v (dmaCheck priv e off v) (dmaEffect e off v s) s

/-- DMA_STAT (R387). -/
def dmaStat (e : Nat) (s : State) : Word :=
  BitVec.ofNat 32 (b2n (smAt e s.dma).cqError * 2 ^ 16
    + (List.range 8).foldl (fun n c =>
        n + b2n (dmaState e c s = 2) * 2 ^ (8 + c) + b2n (!(dmaCh e c s).inflight.isEmpty) * 2 ^ c) 0)

/-- A read of a DMA page. -/
def dmaRead (e off : Nat) (s : State) : Word × State :=
  let w := s.reg (pDma e) off
  match dmaPlace off with
  | some (c, 0x18) =>
    (BitVec.ofNat 32 (fld w 11 8 * 256 + (dmaCh e c s).inflight.length * 16 + dmaState e c s), s)
  | some _ => (w, s)
  | none => (if off = 0x054 then dmaStat e s else w, s)

/-- DMA_RESUME: a write of RESUME = 1, EN and PRIV as they are (R379). -/
def execDmaResume (m : Master) (e : Fin 2) (c : Fin 8) (s : State) : Host.Outcome State Fault Refusal :=
  .next (issue m .write (pDma e.val) (dmaOff c.val 0)
    (fun s => dmaWrite m (fixedPriv m true) e.val (dmaOff c.val 0) ((s.reg (pDma e.val) (dmaOff c.val 0) &&& 9) ||| 4) s) s)

/-- DMA_CH_DISABLE: a write of EN = 0, PRIV as it is (R380). -/
def execDmaChDisable (m : Master) (e : Fin 2) (c : Fin 8) (s : State) :
    Host.Outcome State Fault Refusal :=
  .next (issue m .write (pDma e.val) (dmaOff c.val 0)
    (fun s => dmaWrite m (fixedPriv m true) e.val (dmaOff c.val 0) (s.reg (pDma e.val) (dmaOff c.val 0) &&& 8) s) s)

/-- DMA_RING_CONFIG: a write of DMA_CH*c*_RING_CFG (R373). -/
def execDmaRingConfig (m : Master) (e : Fin 2) (c : Fin 8) (v : Word) (s : State) :
    Host.Outcome State Fault Refusal :=
  .next (issue m .write (pDma e.val) (dmaOff c.val 0xC) (dmaWrite m (fixedPriv m true) e.val (dmaOff c.val 0xC) v) s)

end Sys2Proof.Machine
end

