-- ==== Sys2Proof/Machine/Marking.lean ====
section
/-! DEFINITION. The sepal layer: petal states and ages, and the pixels that leave the guard stage (R33, R34, R43
to R59, R198, R201 to R207, R238). -/

namespace Sys2Proof.Machine

/-! ## Ages (R33, R34) -/

/-- The scan time of a petal row in units of 2⁻¹⁶ ns (R33). -/
def scanTime (f : FrameIn) (a r : Nat) : Nat :=
  let last := min (64 * r + 63) (f.vA - 1)
  a + lineTime16 f.p32 f.vT (last + 1) + 1000 * 65536

/-- The age of a capture time at a scan time in µs, and whether it lies in the future beyond the tolerance
(R34). (DEDUCED: log entry 26) -/
def ageOf (scan : Nat) (ct : Int) (tolUs : Nat) : Nat × Bool :=
  let d := Int.ofNat scan - ct
  if d < 0 then
    if -d ≤ Int.ofNat (tolUs * 1000 * 65536) then (0, false) else (0xFFFFFFFF, true)
  else (min 0xFFFFFFFF (roundUp d.toNat (1000 * 65536)), false)

/-! ## Petal states (R48 to R54) -/

def stVacant : Nat := 0
def stFresh : Nat := 1
def stWilted : Nat := 2
def stPressed : Nat := 3
def stConcealed : Nat := 4
def stUntimed : Nat := 5

/-- The UNTIMED reason of a layer in a petal, lowest code first; 0 when none holds (R49, R55).
(DEDUCED: log entry 26) -/
def untimedReason (f : FrameIn) (l : LayerIn) (c : Contrib) (scan : Nat) : Nat :=
  let r := l.record
  if c.reason ≠ 0 then c.reason
  else if r.bad then 1
  else if r.epoch ≠ f.epoch then 2
  else if (match c.maxCt with
    | some t => (ageOf scan t r.lim.futureTol).2
    | none => false) then 3
  else if r.network && !f.traceable then 4
  else if c.unknown || c.origin = 5 then 5
  else 0

/-- The frozen-content condition of the press mode (R57, R59, R60). -/
def frozen (r : RecIn) (age : Nat) : Bool :=
  match r.lim.pressMode with
  | 0 => false
  | 2 => r.lim.tokenMs * 1000 < age + r.hold
  | _ => r.lim.frames ≤ r.identRun

/-- The state of a layer in a petal, with its age and source (R49). (DEDUCED: log entry 97) -/
def judgeLayer (f : FrameIn) (c : Contrib) (scan : Nat) : Petal :=
  let l := f.layers.getD c.layer {}
  let r := l.record
  let why := untimedReason f l c scan
  let base : Petal := { layer := c.layer, src := if c.reason ≠ 0 then 0xFF else r.src
                        repeated := l.repeated, ct := c.minCt, tol := r.lim.futureTol }
  if why ≠ 0 then { base with state := stUntimed, reason := why }
  else
    let age := match c.minCt with
      | some t => (ageOf scan t r.lim.futureTol).1
      | none => 0xFFFFFFFF
    let st :=
      if c.conceal || c.origin = stConcealed then stConcealed
      else if frozen r age || c.origin = stPressed then stPressed
      else if r.lim.wilt < age || c.origin = stWilted then stWilted
      else stFresh
    { base with state := st, age }

/-- Whether `p` decides over `q`: the higher state, then the greater age, then the higher layer (R50). An UNTIMED
layer counts with the unknown age 0xFFFF_FFFF, so among several the highest decides. (DEDUCED: log entry 97) -/
def decides (p q : Petal) : Bool :=
  if p.state ≠ q.state then q.state < p.state
  else if p.age ≠ q.age then q.age < p.age
  else q.layer ≤ p.layer

/-- The petal from its contributing layers (R50). (DEDUCED: log entry 97) -/
def judgePetal (f : FrameIn) (cs : List Contrib) (scan : Nat) : Petal :=
  match cs.map fun c => judgeLayer f c scan with
  | [] => {}
  | p :: ps => ps.foldl (fun b q => if decides q b then q else b) p

/-- A petal under whole-output pressing, from its state as last evaluated from delivered pixels (R34, R53, R198).
(DEDUCED, DESIGN CHOICE: log entries 28, 113) -/
def pressPetal (old : Option Petal) (scan : Nat) : Petal :=
  match old with
  | none => { state := stPressed, whole := true }
  | some p =>
    if stPressed < p.state ∧ p.state = stUntimed then { p with age := 0xFFFFFFFF, whole := true }
    else
      let age := match p.ct with
        | some t => (ageOf scan t p.tol).1
        | none => 0xFFFFFFFF
      { p with state := max stPressed p.state, age, whole := true }

/-- The 8 bytes of a petal record (R54). -/
def petalBytes (p : Petal) : List Byte :=
  leBytes 4 p.age ++ leBytes 1 p.state ++ leBytes 1 p.src ++ leBytes 1 p.layer
    ++ leBytes 1 (b2n p.whole * 128 + b2n p.repeated * 64 + p.reason)

/-! ## Text (R206, R207) -/

def asciiDigits : Nat → Nat → List Nat
  | 0, _ => []
  | fuel + 1, v => (if v < 10 then [] else asciiDigits fuel (v / 10)) ++ [48 + v % 10]

/-- A number in decimal. -/
def dec (v : Nat) : List Nat := asciiDigits 11 v

/-- The age text of R207. -/
def ageText (a : Nat) : List Nat :=
  if a = 0xFFFFFFFF then [0x3E, 0x37, 0x31, 0x20, 0x6D, 0x69, 0x6E]
  else
    let d := roundUp a 100000
    if d < 1000 then dec (d / 10) ++ [0x2E] ++ dec (d % 10) ++ [0x20, 0x73]
    else
      let s := roundUp a 1000000
      if s < 1000 then dec s ++ [0x20, 0x73] else dec (roundUp a 60000000) ++ [0x20, 0x6D, 0x69, 0x6E]

/-- The text of a label petal (R207). -/
def labelText (words : List (List Nat)) (p : Petal) : List Nat :=
  words.getD (p.state - 2) [] ++ (if p.state = stWilted then 0x20 :: ageText p.age else [])

/-- A text: its origin, its clip rectangle's end, its characters. -/
structure TextBox where
  x : Nat
  y : Nat
  xEnd : Nat
  yEnd : Nat
  chars : List Nat

/-- The cells drawn: those wholly inside the clip rectangle, up to the first that is not (R206). -/
def cellsDrawn (t : TextBox) (scale : Nat) : Nat :=
  if t.y + 6 + 16 * scale ≤ t.yEnd then
    min t.chars.length ((t.xEnd - (t.x + 6)) / (8 * scale))
  else 0

/-- Whether a pixel lies in a drawn cell of a text, and whether it is a glyph pixel (R206). -/
def textPixel (t : TextBox) (scale x y : Nat) : Option Bool :=
  let x0 := t.x + 6
  let y0 := t.y + 6
  if x0 ≤ x && x < x0 + 8 * scale * cellsDrawn t scale && y0 ≤ y && y < y0 + 16 * scale then
    let ch := t.chars.getD ((x - x0) / (8 * scale)) 0
    let p := (x - x0) % (8 * scale)
    let row := if 0x20 ≤ ch && ch ≤ 0x7E then Config.font ch ((y - y0) / scale) else 0
    some (row.getLsbD (7 - p / scale))
  else none

/-! ## Pixels of the sepal layer (R201 to R205) -/

/-- Petal states by column and row; none outside the grid or where a reader has no record. -/
abbrev PetalMap := Nat → Nat → Option Petal

/-- Whether a petal exists and has the state `st`. -/
def sameState (pm : PetalMap) (st c r : Nat) : Bool :=
  match pm c r with
  | some p => p.state = st
  | none => false

/-- How many petals from (c, r) to the right, or downward, have the state `st`. -/
def runLen (pm : PetalMap) (st : Nat) (down : Bool) : Nat → Nat → Nat → Nat
  | 0, _, _ => 0
  | fuel + 1, c, r =>
    if sameState pm st c r then
      1 + (if down then runLen pm st down fuel c (r + 1) else runLen pm st down fuel (c + 1) r)
    else 0

/-- The text of a petal when it is a label petal (R205). -/
def labelBox (f : FrameIn) (pm : PetalMap) (c r : Nat) : Option TextBox :=
  match pm c r with
  | none => none
  | some p =>
    if p.state < stWilted || (c ≠ 0 && sameState pm p.state (c - 1) r)
        || (r ≠ 0 && sameState pm p.state c (r - 1)) then none
    else
      let xe := min f.hA (64 * (c + runLen pm p.state false (petalCols f) c r))
      let ye := min f.vA (64 * (r + runLen pm p.state true (petalRows f) c r))
      some { x := 64 * c, y := 64 * r, xEnd := xe - 4, yEnd := ye - 4, chars := labelText f.words p }

/-- The texts of the label petals of rows `rs`, in raster order. (DEDUCED: log entry 51) -/
def labels (f : FrameIn) (pm : PetalMap) (rs : List Nat) : List TextBox :=
  rs.flatMap fun r => (List.range (petalCols f)).filterMap fun c => labelBox f pm c r

/-- A colour at link depth 10 as the output carries it. -/
def colour (depth r g b : Nat) : Rgba :=
  let sh := fun v => if depth = 10 then v else v / 4
  { r := sh r, g := sh g, b := sh b }

/-- The colour of a marked state (R202). -/
def stateColour (depth st : Nat) : Rgba :=
  match st with
  | 2 => colour depth 1023 640 0
  | 3 => colour depth 640 0 1023
  | 4 => colour depth 1023 1023 0
  | _ => colour depth 1023 0 0

def hatchPixel (st x y : Nat) : Bool :=
  let up : Bool := (x + y) % 16 < 4
  let down : Bool := Int.emod (Int.ofNat x - Int.ofNat y) 16 < 4
  match st with
  | 2 => up
  | 3 => down
  | 4 => x % 16 < 4
  | _ => up || down

/-- Whether a pixel of a petal of state `st` is a border pixel (R203). -/
def borderPixel (f : FrameIn) (pm : PetalMap) (st x y : Nat) : Bool :=
  let c := x / 64
  let r := y / 64
  (x % 64 < 4 && (c = 0 || !sameState pm st (c - 1) r))
    || (min (64 * c + 64) f.hA ≤ x + 4 && !sameState pm st (c + 1) r)
    || (y % 64 < 4 && (r = 0 || !sameState pm st c (r - 1)))
    || (min (64 * r + 64) f.vA ≤ y + 4 && !sameState pm st c (r + 1))

/-- A pixel of cases 1 to 3 of R201; none when no case applies. (DEDUCED: log entry 51) -/
def sepalPixel (f : FrameIn) (pm : PetalMap) (ts : List TextBox) (x y : Nat) : Option Rgba :=
  match ts.findSome? fun t => textPixel t (f.scale + 1) x y with
  | some g => some (if g then colour f.depth 1023 1023 1023 else {})
  | none =>
    match pm (x / 64) (y / 64) with
    | none => none
    | some p =>
      if p.state < stWilted then none
      else if borderPixel f pm p.state x y || hatchPixel p.state x y then some (stateColour f.depth p.state)
      else none

def hexDigit (v : Nat) : Nat := if v < 10 then 48 + v else 55 + v

/-- The text of a fault tile: LAYERk FAULT 0xc (R204). -/
def faultText (k code : Nat) : List Nat :=
  [0x4C, 0x41, 0x59, 0x45, 0x52, 48 + k, 0x20, 0x46, 0x41, 0x55, 0x4C, 0x54, 0x20, 0x30, 0x78, hexDigit code]

/-- A pixel of a fault tile, the higher layer on top (R204). -/
def faultPixel (f : FrameIn) (x y : Nat) : Option Rgba :=
  f.layers.zipIdx.reverse.findSome? fun q =>
    match q.1.use with
    | .fault code =>
      let l := q.1
      if !inDst l x y then none
      else
        let box : TextBox := { x := l.dx, y := l.dy, xEnd := min f.hA (l.dx + l.dw)
                               yEnd := min f.vA (l.dy + l.dh), chars := faultText q.2 code }
        match textPixel box (f.scale + 1) x y with
        | some g => some (if g then colour f.depth 1023 1023 1023 else {})
        | none => some (if (x / 16 + y / 16) % 2 = 0 then colour f.depth 768 768 768 else {})
    | _ => none

/-- The petals of a frame as judged. -/
def framePetals (f : Frame) : PetalMap := fun c r =>
  if c < petalCols f.inp && r < f.evaluated then some (smAt (petalIdx c r) f.petals) else none

/-- The pixel that leaves GRD*n* (R201): with the sepal layer, and whether it is a sepal pixel.
(DEDUCED: log entry 51) -/
def outPixel (f : Frame) (ts : List TextBox) (x y : Nat) : Rgba × Bool :=
  match sepalPixel f.inp (framePetals f) ts x y with
  | some p => (p, true)
  | none =>
    match faultPixel f.inp x y with
    | some p => (p, false)
    | none =>
      match smGet (y / 64) f.pix with
      | some ls => ((ls.getD (y % 64) []).getD x {}, false)
      | none => (colour f.inp.depth 256 256 256, false)

def frameLabels (f : Frame) : List TextBox := labels f.inp (framePetals f) (List.range f.evaluated)

/-- The lines of a frame as transmitted. (DEDUCED: log entry 93) -/
def outLines (f : Frame) : List (List Rgba) :=
  (List.range f.inp.vA).map fun y => (List.range f.inp.hA).map fun x => (outPixel f (frameLabels f) x y).1

/-! ## Rectangle CRCs (R209, R210, R238) -/

/-- The bytes a pixel feeds to a rectangle CRC (R238). -/
def pixelBytes (p : Rgba) : List Byte := leBytes 2 p.r ++ leBytes 2 p.g ++ leBytes 2 p.b

/-- The positions of a rectangle in raster order. -/
def rectPositions (q : RectIn) : List (Nat × Nat) :=
  (List.range q.h).flatMap fun j => (List.range q.w).map fun i => (q.x + i, q.y + j)

/-- The CRC of a rectangle as transmitted: every pixel, or the sepal pixels only. -/
def rectCrc (f : Frame) (q : RectIn) (sepalOnly : Bool) : Word :=
  let ts := frameLabels f
  crc32c ((rectPositions q).flatMap fun p =>
    let (px, sepal) := outPixel f ts p.1 p.2
    if sepalOnly && !sepal then [] else pixelBytes px)

/-- The petal rows whose texts can reach a rectangle: those it touches, and the row above when the renderer counts
its petals as label petals (R205, R206, R210). (DEDUCED: log entry 51) -/
def refRows (f : FrameIn) (q : RectIn) (above : Bool) : List Nat :=
  (List.range (petalRows f)).filter fun r =>
    (if above then q.y / 64 ≤ r + 1 else q.y / 64 ≤ r) && r ≤ (q.y + q.h - 1) / 64

/-- The reference renderer's CRC of a rectangle, from the petals it read (R210). (DEDUCED: log entry 51) -/
def refCrc (f : FrameIn) (pm : PetalMap) (q : RectIn) (above : Bool) : Word :=
  let ts := labels f pm (refRows f q above)
  crc32c ((rectPositions q).flatMap fun p =>
    match sepalPixel f pm ts p.1 p.2 with
    | some px => pixelBytes px
    | none => [])

/-- Whether a rectangle lies wholly inside the active area (R211). -/
def rectInside (f : FrameIn) (q : RectIn) : Bool := q.x + q.w ≤ f.hA && q.y + q.h ≤ f.vA

end Sys2Proof.Machine
end

