-- ==== Sys2Proof/Machine/Guard.lean ====
section
/-! DEFINITION. A guard stage: its registers, counts, whole-output pressing and late rows (R193 to R219). -/

namespace Sys2Proof.Machine

/-! ## Registers (R194, R200, R208, R214, R218) -/

/-- Whether OUT*n*, or the leader of its group, is RELEASING or RUNNING (R194). -/
def outActive (n : Nat) (s : State) : Bool :=
  outReleasing ≤ outState n s || outReleasing ≤ outState (leaderOf n s) s

/-- A word of R208: bytes 0x20 to 0x7E, then zeros. -/
def wordOk (bs : List Nat) : Bool :=
  let tail := bs.dropWhile fun b => 0x20 ≤ b && b ≤ 0x7E
  tail.all (· = 0)

def wordBytes (v : Nat) : List Nat := (leBytes 8 v).map (·.toNat)

/-- Whether a range lies in populated DRAM outside the record region (R200). -/
def pmapPlaced (a len : Nat) (s : State) : Bool :=
  a + len ≤ dramTop s && (recSize s = 0 || a + len ≤ recBase s || recBase s + recSize s ≤ a)

/-- The conditions on a write to GRD_PMAP_CFG (R200, R214, R218). -/
def pmapCfgCheck (n : Nat) (v : Word) (s : State) : Verdict :=
  let p := pGrd n
  let slots := fld v 15 8
  let size := fld v 7 0
  if slots < 2 || 16 < slots || size = 0 then .err 0x40
  else if s.rb p 0x050 16 && fld v 15 0 ≠ s.rf p 0x050 15 0 then .err 0x41
  else if bit v 16 && !pmapPlaced (s.pair p 0x048) (slots * size * 4096) s then .err 0x42
  else .ok

def grdCheck (n off : Nat) (v : Word) (s : State) : Verdict :=
  let p := pGrd n
  if off = 0x008 then
    if (!bit v 0 || bit v 1) && outActive n s then .err 0x43 else .ok
  else if off = 0x050 then pmapCfgCheck n v s
  else if off = 0x04C then if s.rb p 0x050 16 then .err 0x41 else .ok
  else if 0x080 ≤ off && off < 0x0A0 && off % 8 = 4 then
    if wordOk (wordBytes ((heldOf p (off - 4) 0 s).toNat + 2 ^ 32 * v.toNat)) then .ok else .err 0x40
  else if 0x100 ≤ off && off % 0x20 = 0 then if 2 ≤ fld v 2 1 then .err 0x40 else .ok
  else if 0x100 ≤ off && off % 0x20 = 8 then
    if 1 ≤ fld v 31 16 && fld v 31 16 ≤ 512 && 1 ≤ fld v 15 0 && fld v 15 0 ≤ 512 then .ok else .err 0x40
  else .ok

/-- A write to a block-specific register of a GRD page. -/
def grdWrite (m : Master) (n off : Nat) (v : Word) (s : State) : State :=
  regCommand m (pGrd n) off v (grdCheck n off v) id s

/-- The counts of the last frame evaluated; the rest is captured for the reading master (R216). -/
def grdCounts (m : Master) (n : Nat) (s : State) : Word × State :=
  let p := pGrd n
  (s.reg p 0x068, setShadows m p 0x06C [s.reg p 0x06C, s.reg p 0x070, s.reg p 0x074] s)

def execGrdCntRead (m : Master) (n : Fin 16) (s : State) : Host.Outcome State Fault Refusal :=
  .next (issue m .read (pGrd n.val) 0x068 (readCommand m (pGrd n.val) 0x068 (heldRead (pGrd n.val) 0x068 (grdCounts m n.val))) s)

/-- A read of a GRD page. -/
def grdRead (m : Master) (n off : Nat) (s : State) : Word × State :=
  let p := pGrd n
  match off with
  | 0x068 => grdCounts m n s
  | 0x06C | 0x070 | 0x074 => readShadow m p off 0 (s.reg p off) s
  | 0x0A4 =>
    let ch := s.rf p 0x0A0 14 8
    (if 0x20 ≤ ch ∧ ch ≤ 0x7E then (Config.font ch (s.rf p 0x0A0 3 0)).setWidth 32 else 0, s)
  | _ => (s.reg p off, s)

/-- BLK_STAT.BLOCK of a GRD page: STALLED and MARKED (R214). -/
def grdBlock (n : Nat) (s : State) : Nat :=
  let g := smAt n s.grd
  b2n g.stalled * 2 ^ 15 + b2n g.marked * 2 ^ 14

/-! ## Verdicts (R211, R212, R239) -/

/-- OUT*n* is held or disabled before the next frame: the verdicts of the pending frame are NONE (R211, R239). -/
def noVerdicts (n : Nat) (s : State) : State :=
  (List.range 4).foldl (fun s v =>
    (s.setFld (pGrd n) (0x118 + 0x20 * v) 2 0 0).setFld (pOut n) (0x114 + 0x20 * v) 2 0 0) s

/-! ## Stalls and late rows (R196 to R198, R236) -/

/-- R53 begins to apply (R198). -/
def beginPress (n : Nat) (s : State) : State :=
  let was := (smAt n s.grd).pressing
  let s := setGrd n (fun g => { g with pressing := true, stalled := true }) s
  if was then s else raiseBit (pGrd n) 2 s

/-- The phase at which line 64r of a frame is due. -/
def rowDue (f : Frame) (r : Nat) : Nat := f.start + lineTime40 f.inp.p32 f.inp.vT (64 * r)

/-- The next row that the pipe owes is late from now on; the frame is an underflow frame (R196, R236). -/
def lateFrom (n : Nat) (f : Frame) (s : State) : State :=
  let s := setOut n (fun o => { o with scan := some { f with late := some f.delivered } }) s
  let s := raiseBit (pGrd n) 5 (s.bump (pGrd n) 0x064)
  let s := beginPress n s
  raiseBit (pOut n) 7 ((s.bump (pOut n) 0x0A4).bumpFldAt (pOut n) 0x044 0 31 24 1)

/-- A row of the frame in scan goes late when it is due and has not been delivered (R196). (DEDUCED: log entry 50) -/
def checkLate (n : Nat) (s : State) : State :=
  match (smAt n s.out).scan with
  | none => s
  | some f =>
    if f.isNew && f.late.isNone && f.delivered < petalRows f.inp && rowDue f f.delivered ≤ s.tm.run then
      lateFrom n f s
    else s

/-- ROW_LATE: line 64r is due and row `r` has not been delivered (R196). -/
def execRowLate (n : Fin 16) (r : Nat) (s : State) : Host.Outcome State Fault Refusal :=
  .next (whenPixel s (match (smAt n.val s.out).scan with
    | none => s
    | some f => if f.delivered ≤ r && r < petalRows f.inp then checkLate n.val s else s))

end Sys2Proof.Machine
end

