-- ==== Sys2Proof/Machine/Nal.lean ====
section
/-! DEFINITION. NAL units as the decoder meets them: those it discards, those with a bad header, and the liveness SEI
(R126, R143, R256, R259). -/

namespace Sys2Proof.Machine

/-! ## Headers (R126, R143) -/

/-- nal_unit_type. (PRESUMED: log entry 100) -/
def nalType (h265 : Bool) (n : List Byte) : Nat := if h265 then octet n 0 / 2 % 64 else octet n 0 % 32

/-- nuh_layer_id. (PRESUMED: log entry 100) -/
def nuhLayer (n : List Byte) : Nat := octet n 0 % 2 * 32 + octet n 1 / 8

/-- A reserved or unspecified type of the standard. (PRESUMED: log entry 100) -/
def nalUnknown (h265 : Bool) (t : Nat) : Bool :=
  if h265 then (10 ≤ t && t ≤ 15) || (22 ≤ t && t ≤ 31) || 41 ≤ t
  else t = 0 || t = 17 || t = 18 || (22 ≤ t && t ≤ 31)

/-- A NAL unit that the decoder discards without an error (R126). SEI messages are looked at one by one. -/
def nalIgnored (h265 : Bool) (n : List Byte) : Bool :=
  if h265 then 0 < nuhLayer n
  else let t := nalType false n; t = 14 || t = 15 || t = 20

/-- A NAL unit of error class 0x1: forbidden_zero_bit 1, a reserved or unspecified type, nuh_temporal_id_plus1 0
(R143). -/
def nalBad (h265 : Bool) (n : List Byte) : Bool :=
  128 ≤ octet n 0 || nalUnknown h265 (nalType h265 n) || (h265 && octet n 1 % 8 = 0)

/-- The NAL units that the decoder reads, and how many it discards with class 0x1 (R126, R143). -/
def siftNals (h265 : Bool) (ns : List (List Byte)) : List (List Byte) × Nat :=
  let seen := ns.filter fun n => !nalIgnored h265 n
  (seen.filter fun n => !nalBad h265 n, (seen.filter fun n => nalBad h265 n).length)

/-! ## SEI messages (R126, R256, R259) -/

/-- A NAL unit without emulation prevention bytes; `z` counts the zero bytes before. (PRESUMED: log entry 100) -/
def unemulate : Nat → List Byte → List Byte
  | _, [] => []
  | z, b :: bs =>
    if 2 ≤ z && b = 3 then unemulate 0 bs
    else b :: unemulate (if b = 0 then z + 1 else 0) bs

/-- A type or size of an SEI message: bytes 0xFF each worth 255 and a last byte; the value, and the bytes after it. -/
def seiNumber : List Byte → Nat × List Byte
  | [] => (0, [])
  | b :: bs =>
    if b = 0xFF then
      let (v, r) := seiNumber bs
      (v + 255, r)
    else (b.toNat, bs)

/-- The messages of an SEI payload: type and bytes. The last byte holds the trailing bits.
(PRESUMED: log entry 100) -/
def seiMessages : Nat → List Byte → List (Nat × List Byte)
  | 0, _ => []
  | n + 1, b =>
    if b.length < 2 then []
    else
      let (t, b) := seiNumber b
      let (k, b) := seiNumber b
      (t, b.take k) :: seiMessages n (b.drop k)

/-- The UUID of the liveness SEI (R256). -/
def seiUuid : List Byte :=
  [0x3B, 0x9E, 0x71, 0xC4, 0x05, 0xD2, 0x4A, 0x8F, 0xB1, 0x6C, 0x2E, 0x70, 0x93, 0x5A, 0xD4, 0x18]

/-- The first liveness SEI of an H.265 access unit: its payload (R256, R259). -/
def livenessSei (ns : List (List Byte)) : Option (List Byte) :=
  (ns.flatMap fun n =>
    if nalType true n = 39 && nuhLayer n = 0 && octet n 1 % 8 = 1 then
      let b := unemulate 0 (n.drop 2)
      (seiMessages b.length b).filterMap fun m => if m.1 = 5 && m.2.take 16 = seiUuid then some m.2 else none
    else []).head?

/-- The fields of a liveness SEI (R256). -/
structure SeiMsg where
  version : Nat
  flags : Nat
  domain : Nat
  gmId : Nat
  ct : NTime
  widthBlk : Nat
  heightBlk : Nat
  entries : List (Nat × Nat)
  checkOk : Bool
  deriving DecidableEq, Repr

/-- The fields of a liveness SEI message (R257, R259). (DEDUCED: log entry 104) -/
def parseSei (b : List Byte) : SeiMsg :=
  let w := beAt b 0x2A 2
  let h := beAt b 0x2C 2
  let last := 0x38 + 4 * w * h
  { version := octet b 0x10, flags := octet b 0x11, domain := octet b 0x12, gmId := beAt b 0x14 8
    ct := { sec := beAt b 0x1C 8, ns := beAt b 0x24 4 % 2 ^ 30, frac := beAt b 0x28 2 }
    widthBlk := w, heightBlk := h
    entries := (List.range (w * h)).map fun i =>
      let e := beAt b (0x38 + 4 * i) 4
      (e / 2 ^ 29, e % 2 ^ 29)
    checkOk := b.length = last + 4 && beAt b last 4 = (crc32c ((b.take last).drop 0x10)).toNat }

end Sys2Proof.Machine
end

