-- ==== Sys2Proof/Machine/Mirror.lean ====
section
/-! DEFINITION. Mirror streams: channels, the copied pixels, rate control, the liveness SEI and the RTP packets
(R248 to R265). -/

namespace Sys2Proof.Machine

def setEnc (c : Nat) (f : EncSt → EncSt) (s : State) : State :=
  { s with enc := smSet c (f (smAt c s.enc)) s.enc }

def encReg (c r : Nat) (s : State) : Word := s.reg pEnc (encOff c r)

def encFld (c r hi lo : Nat) (s : State) : Nat := s.rf pEnc (encOff c r) hi lo

/-- The output that a channel copies (R248). -/
def encOut (c : Nat) (s : State) : Nat := encFld c 4 11 8 s

/-- ENC_CH*c*_STAT.STATE (R251). -/
def encState (c : Nat) (s : State) : Nat :=
  if encOn c s then (if outState (encOut c s) s = outRunning then 2 else 1)
  else if (smAt c s.enc).stopped.isSome then 3
  else 0

/-- Frame numbers run from 0 to 0xFFFF_FFFE (R233). -/
def frameMod : Nat := 0xFFFFFFFF

/-! ## Sizes and commitments (R250) -/

def encScale (c : Nat) (s : State) : Nat := if encFld c 4 5 4 s = 1 then 2 else 1

/-- The cropped size of a channel. -/
def croppedSize (c : Nat) (s : State) : Nat × Nat :=
  let t := timingOf (encOut c s) s
  (t.hA / encScale c s, t.vA / encScale c s)

def coded (v : Nat) : Nat := roundUp v 8 * 8

/-- The encode commitment in kpixel/s. -/
def encRate (c : Nat) (s : State) : Nat :=
  let (w, h) := croppedSize c s
  let sc := (timingOf (encOut c s) s).sched
  let pix := coded w * coded h * 1000000
  let d := encFld c 4 2 0 s + 1
  if sc.n = 0 then (if sc.p = 0 then 7000001 else roundUp (pix * 2 ^ 32) (sc.p * d))
  else if sc.c = 0 then 7000001
  else roundUp (pix * 65536 * sc.n) (sc.c * d)

/-- The work area that a coded size needs, in bytes. -/
def workNeed (w h : Nat) : Nat :=
  let stride := roundUp (roundUp w 16 * 32) 64 * 64
  let hs := headerStride .luma10 stride
  let h4 := roundUp h 4
  let c4 := roundUp (h / 2) 4
  2 * (stride * (h + h / 2)) + 2 * (stride * (h4 * 4 + c4 * 4) + hs * (h4 + c4)) + 65536

def hdrLenOk (v6 : Bool) (n : Nat) : Bool := if v6 then n = 62 || n = 66 else n = 42 || n = 46

def gopOk (v : Word) : Bool := fld v 13 8 ≤ 51 && fld v 5 0 ≤ fld v 13 8

def rateOk (v : Word) : Bool :=
  1 ≤ fld v 31 24 && fld v 31 24 ≤ 32 && 1000 ≤ fld v 15 0 && fld v 15 0 ≤ 40000

def vbvOk (v : Word) : Bool := 10 ≤ fld v 9 0 && fld v 9 0 ≤ 1000

def payloadRangeOk (v : Word) : Bool := 1000 ≤ fld v 31 16 && fld v 31 16 ≤ 8900

/-- The conditions of code 0x41 at an enable (R250, R260). -/
def encRangeOk (c : Nat) (s : State) : Bool :=
  let (w, h) := croppedSize c s
  w % 2 = 0 && h % 2 = 0 && 64 ≤ w && w ≤ 4096 && 64 ≤ h && h ≤ 2304 && coded w * coded h ≤ 8912896
    && encFld c 4 5 4 s ≤ 1 && encFld c 0x30 2 1 s ≤ 1
    && gopOk (encReg c 8 s) && rateOk (encReg c 0xC s) && vbvOk (encReg c 0x10 s)
    && payloadRangeOk (encReg c 0x28 s) && hdrLenOk (bit (encReg c 0x28 s) 15) (encFld c 0x28 6 0 s)
    && encFld c 0xC 15 0 s * encFld c 0x10 9 0 s ≤ 40000000

/-- Whether the work area serves (code 0x43). -/
def workOk (c : Nat) (s : State) : Bool :=
  let (w, h) := croppedSize c s
  let size := encFld c 0x1C 15 0 s * 0x100000
  workNeed (coded w) (coded h) ≤ size && inDram (s.pair pEnc (encOff c 0x14)) size s

/-- An enable is judged: the code of its refusal, or the state with its commitment. (DEDUCED: log entry 57) -/
def encAdmit (bus : Bus) (c : Nat) (s : State) : Except Nat State :=
  if !encRangeOk c s then .error 0x41
  else
    match commitRate bus (.enc c) (encRate c s) s with
    | none => .error 0x42
    | some t => if workOk c s then .ok t else .error 0x43

/-! ## Channel states (R251, R265) -/

/-- The engine that codes for a channel leaves its picture. -/
def encLeave (c : Nat) (s : State) : State :=
  { s with eng := s.eng.map fun e =>
      if e.2.encoding = some c then (e.1, { e.2 with encoding := none }) else e }

/-- The picture in progress and the waiting inputs are abandoned. -/
def encAbandon (c : Nat) (s : State) : State :=
  let s := (List.range 16).foldl (fun s n => if (smAt n s.eng).encoding = some c then abandonCoding n s else s) s
  setEnc c (fun t => { t with cur := none, inputs := [] }) s

/-- The channel enters ENCODING: the next frame of its output is the first. -/
def encEnter (c : Nat) (s : State) : State :=
  let no := (smAt (encOut c s) s.out).nextNo
  setEnc c (fun t => { t with count := some no, taken := false, first := true, srClk := s.clk }) s

/-- The end of an enable: commitment, session keys, work and unsent packets. -/
def encEnd (c : Nat) (s : State) : State :=
  let s := dropSession (128 + c) (releaseRate (.enc c) (encAbandon c s))
  setEnc c (fun t => { t with count := none, packets := [] }) s

/-- The channels that copy an output. -/
def channelsOf (n : Nat) (s : State) : List Nat :=
  (List.range 4).filter fun c => encOn c s && encOut c s = n

/-- OUT*n* is disabled (R265). -/
def encOutDisabled (n : Nat) (s : State) : State :=
  (channelsOf n s).foldl (fun s c =>
    setEnc c (fun t => { t with count := none }) (encAbandon c s)) s

/-- ENC is disabled or reset, or the ZW96 enters WATCH: every channel abandons its work (R17, R440). -/
def encAbandonAll (s : State) : State :=
  (List.range 4).foldl (fun s c => setEnc c (fun t => { t with packets := [] }) (encAbandon c s)) s

/-! ## Starting a picture (R131, R252, R254, R265) -/

/-- The engine that a channel's commitment is bound to. -/
def encEngine (c : Nat) (s : State) : Option Nat := (placedOf (.enc c) s).bind (·.engine)

/-- A channel moves to the engine of an adopted placement at a picture boundary. -/
def encMove (c : Nat) (s : State) : State :=
  { s with placed := s.placed.map fun p =>
      if p.what = .enc c then { p with engine := p.target, moveTo := none } else p }

/-- Whether the next picture is an IDR (R252). -/
def encIdr (c : Nat) (inp : EncIn) (s : State) : Bool :=
  let period := encFld c 8 31 16 s
  let t := smAt c s.enc
  inp.first || t.ref.isEmpty || s.rb pEnc (encOff c 0) 1 || (period ≠ 0 && period ≤ t.sinceIdr)

/-- A waiting input picture of a channel goes to its engine when that is idle. -/
def encStart (c : Nat) (s : State) : State :=
  let s := if (smAt c s.enc).cur.isNone then encMove c s else s
  let t := smAt c s.enc
  match t.inputs, encEngine c s with
  | i :: rest, some e =>
    let g := smAt e s.eng
    if t.cur.isSome || !encOn c s || !s.enabled pEnc || !inService e s
        || g.pic.isSome || g.encoding.isSome then s
    else
      let p : EncPic := { inp := i, idr := encIdr c i s, gop := encReg c 8 s, rate := encReg c 0xC s }
      let s := s.setFld pEnc (encOff c 0) 1 1 0
      setEng e (fun g => { g with encoding := some c, encClk := s.clk })
        (setEnc c (fun t => { t with cur := some p, inputs := rest }) s)
  | _, _ => s

/-- Every channel that can start a picture starts it (R251). (DEDUCED: log entry 57) -/
def encStartAll (s : State) : State := (List.range 4).foldl (fun s c => encStart c s) s

/-! ## Copying a frame (R248, R249, R253, R257) -/

/-- Three code values of a line position, at 10 bits and at the channel's scale. -/
def copyPixel (scale depth : Nat) (lines : List (List Rgba)) (x y : Nat) : Nat × Nat × Nat :=
  let px := fun x y => (lines.getD y []).getD x ({} : Rgba)
  let up := fun v : Nat => if depth = 8 then v * 4 else v
  if scale = 2 then
    let ps := [px (2 * x) (2 * y), px (2 * x + 1) (2 * y), px (2 * x) (2 * y + 1), px (2 * x + 1) (2 * y + 1)]
    let avg := fun f : Rgba → Nat => (ps.foldl (fun a p => a + up (f p)) 0 + 2) / 4
    (avg (·.r), avg (·.g), avg (·.b))
  else
    let p := px x y
    (up p.r, up p.g, up p.b)

def clamp10 (v : Int) : Nat := if v < 0 then 0 else if 1023 < v then 1023 else v.toNat

/-- The conversion of R249. -/
def toYcc (p : Nat × Nat × Nat) : Nat × Nat × Nat :=
  let r := Int.ofNat p.1
  let g := Int.ofNat p.2.1
  let b := Int.ofNat p.2.2
  (clamp10 (Int.fdiv (2983 * r + 10034 * g + 1013 * b + 8192) 16384 + 64),
   clamp10 (Int.fdiv (-1644 * r - 5531 * g + 7175 * b + 8192) 16384 + 512),
   clamp10 (Int.fdiv (7175 * r - 6517 * g - 658 * b + 8192) 16384 + 512))

/-- The luma rows and the chroma rows of CbCr pairs of a copied frame. -/
def copyPlanes (scale depth w h : Nat) (lines : List (List Rgba)) : List (List Nat) × List (List Nat) :=
  let ycc := (List.range h).map fun y => (List.range w).map fun x => toYcc (copyPixel scale depth lines x y)
  let at_ := fun (f : Nat × Nat × Nat → Nat) (x y : Nat) =>
    f ((ycc.getD (min y (h - 1)) []).getD (min x (w - 1)) (0, 512, 512))
  let sub := fun (f : Nat × Nat × Nat → Nat) (j i : Nat) =>
    let row := fun y => at_ f (2 * j - 1) y + 2 * at_ f (2 * j) y + at_ f (2 * j + 1) y
    (row (2 * i) + row (2 * i + 1) + 4) / 8
  (ycc.map fun r => r.map (·.1),
   (List.range (h / 2)).map fun i => (List.range (w / 2)).flatMap fun j =>
     [sub (·.2.1) j i, sub (·.2.2) j i])

/-- The capture time that a petal's record tells (R257). -/
def petalCt (f : Frame) (r : Nat) (p : Petal) : Option Int :=
  if p.age = 0xFFFFFFFF || p.state = stUntimed then none
  else some (Int.ofNat (scanTime f.inp f.a r) - Int.ofNat (p.age * 1000 * 65536))

/-- A block's entry from its petals (R257). -/
def blockEntry (ps : List (Nat × Option Int)) : SeiEntry :=
  let live := ps.filter fun p => p.1 ≠ stVacant
  let ct := live.foldl (fun (a : Option (Option Int)) p =>
    match a, p.2 with
    | none, x => some x
    | some (some y), some x => some (some (min x y))
    | _, _ => some none) none
  (ps.foldl (fun a p => max a p.1) 0, ct.getD none)

/-- The entries of a copied frame, block row by block row. -/
def copyEntries (scale w h : Nat) (f : Frame) : List (List SeiEntry) :=
  let pet := fun c r =>
    if c < petalCols f.inp && r < petalRows f.inp then
      let p := smAt (petalIdx c r) f.petals
      [(p.state, petalCt f r p)]
    else []
  (List.range (roundUp h 64)).map fun by_ => (List.range (roundUp w 64)).map fun bx =>
    if f.slot.isNone then (stUntimed, none)
    else if scale = 2 then
      blockEntry (pet (2 * bx) (2 * by_) ++ pet (2 * bx + 1) (2 * by_) ++ pet (2 * bx) (2 * by_ + 1)
        ++ pet (2 * bx + 1) (2 * by_ + 1))
    else blockEntry (pet bx by_)

/-- The input picture made from a frame. -/
def copyFrame (c : Nat) (f : Frame) (s : State) : EncIn :=
  let t := smAt c s.enc
  let scale := encScale c s
  let (luma, chroma) := copyPlanes scale f.inp.depth t.w t.h (outLines f)
  { first := t.first, no := f.inp.no, a := f.a, out := encOut c s, luma, chroma
    slot := f.slot.isSome, traceable := f.inp.traceable
    entries := copyEntries scale (coded t.w) (coded t.h) f }

/-- Frames from `from_` to `no`; none when `no` comes before it. -/
def frameAhead (from_ no : Nat) : Option Nat :=
  let d := (no + frameMod - from_ % frameMod) % frameMod
  if d < frameMod / 2 then some d else none

/-- ENC_FRAME_COPY: OUT*n* has delivered a frame that is due for the channel (R248, R253).
(DESIGN CHOICE: log entry 55) -/
def execEncFrameCopy (c : Fin 4) (s : State) : Host.Outcome State Fault Refusal :=
  let c := c.val
  let t := smAt c s.enc
  .next (whenPixel s (match t.count, (smAt (encOut c s) s.out).prev with
    | some from_, some f =>
      match frameAhead from_ f.inp.no with
      | none => s
      | some d =>
        if !encOn c s || !s.enabled pEnc || d % (encFld c 4 2 0 s + 1) ≠ 0
            || (d = 0 && t.taken) then s
        else
          let s := setEnc c (fun t => { t with count := some f.inp.no, taken := true }) s
          if 2 ≤ t.inputs.length + b2n t.cur.isSome then
            raiseBit pEnc (4 + c) (s.bump pEnc (encOff c 0x4C))
          else
            encStartAll (setEnc c (fun t => { t with first := false, inputs := t.inputs ++ [copyFrame c f s] }) s)
    | _, _ => s))

/-! ## Rate control (R254, R255) -/

/-- t_mean: the mean frame period in units of 2⁻³² ns. -/
def tMean (n : Nat) (s : State) : Nat :=
  let sc := (timingOf n s).sched
  if sc.n = 0 then sc.p else sc.c * 65536 / sc.n

structure RcIn where
  b : Nat
  h : Nat
  target : Nat
  rows : Nat
  wctu : Nat
  qpMin : Nat
  qpMax : Nat
  idr : Bool
  deriving Repr

/-- The terms of R254 for a picture, unsigned words as wide as given there.
(DESIGN CHOICE, DEDUCED: log entries 55, 56) -/
def rcTerms (c : Nat) (p : EncPic) (s : State) : RcIn :=
  let t := smAt c s.enc
  let kbps := fld p.rate 15 0
  let tpic := tMean p.inp.out s * (encFld c 4 2 0 s + 1) % 2 ^ 64
  let b := kbps * 1000 * tpic / (1000000000 * 2 ^ 32) % 2 ^ 32
  let h := (kbps * encFld c 0x10 9 0 s + 2 ^ 64 - t.full) % 2 ^ 64
  { b, h, target := min (if p.idr then b * fld p.rate 31 24 else b) h
    rows := roundUp (coded t.h) 64, wctu := roundUp (coded t.w) 64
    qpMin := fld p.gop 5 0, qpMax := fld p.gop 13 8, idr := p.idr }

/-- The quantiser before a row (R254). (DEDUCED: log entry 56) -/
def rowQp (k : RcIn) (j used qp : Nat) : Nat :=
  let dev : Int := Int.ofNat used - Int.ofNat (k.target * j / k.rows)
  let lim := Int.ofNat (k.target / 16)
  let qp := if lim < dev then min (qp + 1) k.qpMax else qp
  if dev < -lim then max (qp - 1) k.qpMin else qp

/-- What coding a picture's rows came to. -/
structure RcOut where
  used : Nat := 0
  /-- slice data of the rows, each with its QP -/
  sent : List (Nat × List Byte) := []
  qp : Nat := 0
  qpSum : Nat := 0
  /-- first row cut under R255 -/
  cut : Option Nat := none
  deriving Repr

/-- Row `j` is coded, or cut under R255. (DEDUCED: log entry 56) -/
def codeRow (k : RcIn) (r : EncRows) (o : RcOut) (j : Nat) : RcOut :=
  let qp := rowQp k j o.used o.qp
  let o := { o with qp, qpSum := o.qpSum + qp }
  let reserve := 256 + 4 * k.wctu
  let row := r.rows.getD j { bits := 0 }
  let full := o.used + row.bits
  if o.cut.isNone && full + (k.rows - j - 1) * reserve ≤ k.h then
    { o with used := full, sent := o.sent ++ [(qp, row.data)] }
  else
    let row : CodedRow :=
      if k.idr then { bits := 4 * k.wctu, data := r.flat.getD j [] }
      else
        let w := r.skip.getD j { bits := 0 }
        { w with bits := min w.bits reserve }
    { o with used := o.used + row.bits, sent := o.sent ++ [(qp, row.data)], cut := some (o.cut.getD j) }

/-- The rows of a picture under rate control (R254, R255). (DESIGN CHOICE: log entry 55) -/
def codeRows (k : RcIn) (r : EncRows) (qp : Nat) : RcOut :=
  (List.range k.rows).foldl (codeRow k r) { qp }

/-! ## The liveness SEI (R256 to R258) -/

/-- The entries of a picture after rows were cut: the reference's, or UNTIMED in an IDR. (DEDUCED: log entry 56) -/
def cutEntries (p : EncPic) (cut : Option Nat) (ref : List (List SeiEntry)) : List (List SeiEntry) :=
  match cut with
  | none => p.inp.entries
  | some from_ =>
    if !p.inp.slot then p.inp.entries
    else p.inp.entries.zipIdx.map fun e =>
      if e.2 < from_ then e.1
      else if p.idr then e.1.map fun _ => (stUntimed, none)
      else ref.getD e.2 (e.1.map fun _ => (stUntimed, none))

/-- The picture capture time: the latest known block capture time. (DEDUCED: log entry 56) -/
def latestCt (es : List (List SeiEntry)) : Option Int :=
  es.flatten.foldl (fun (a : Option Int) e =>
    match a, e.2 with
    | some x, some y => some (max x y)
    | none, y => y
    | x, none => x) none

/-- The delta of a block entry in the SEI (R257, R258). (DEDUCED: log entry 56) -/
def seiDelta (c : Int) (e : SeiEntry) : Nat :=
  if e.1 = stVacant then 0
  else
    match e.2 with
    | none => 0x1FFFFFFF
    | some t =>
      let q := (-Int.fdiv (-(c - t)) 65536000).toNat
      if 0x1FFFFFFE < q then 0x1FFFFFFF else q

/-- The payload of the liveness SEI. -/
def seiPayload (c : Nat) (p : EncPic) (es : List (List SeiEntry)) (cut : Option Nat) (s : State) : List Byte :=
  let latest := latestCt es
  let valid := latest.isSome && p.inp.traceable && p.inp.slot
  let ct := latest.getD 0
  let n := NTime.ofT16 (if valid then ct.toNat else 0)
  let body := [1, if valid then 0x80 else 0] ++ beBytes 1 (s.rf pPtp 0x07C 15 8) ++ beBytes 1 (c * 16 + p.inp.out)
    ++ beBytes 8 (gmId s) ++ beBytes 8 n.sec ++ beBytes 4 n.ns ++ beBytes 2 n.frac
    ++ beBytes 2 ((es.headD []).length) ++ beBytes 2 es.length ++ beBytes 2 (cut.getD es.length)
    ++ beBytes 4 p.inp.no ++ beBytes 4 0
    ++ es.flatten.flatMap fun e => beBytes 4 (e.1 * 2 ^ 29 + seiDelta ct e)
  seiUuid ++ body ++ beBytes 4 (crc32c body).toNat

/-- Emulation prevention: 0x03 after two zero bytes before a byte of at most 0x03. -/
def emulate : Nat → List Byte → List Byte
  | _, [] => []
  | z, b :: bs =>
    if 2 ≤ z ∧ b.toNat ≤ 3 then 3 :: b :: emulate (if b = 0 then 1 else 0) bs
    else b :: emulate (if b = 0 then z + 1 else 0) bs

/-- The prefix SEI NAL unit with one user_data_unregistered message. -/
def seiNal (payload : List Byte) : List Byte :=
  let size := List.replicate (payload.length / 255) (0xFF : Byte) ++ [BitVec.ofNat 8 (payload.length % 255)]
  [0x4E, 0x01] ++ emulate 0 ([5] ++ size ++ payload ++ [0x80])

/-! ## RTP packets (R260) -/

/-- The fragments of a NAL unit's body, at most `n` bytes each. (DEDUCED: log entry 57) -/
def fragments (n : Nat) : Nat → List Byte → List (List Byte)
  | 0, _ => []
  | fuel + 1, bs => if bs.length ≤ n then [bs] else bs.take n :: fragments n fuel (bs.drop n)

/-- The RTP payloads of a NAL unit under RFC 7798: one packet, or fragmentation units. -/
def nalPayloads (limit : Nat) (nal : List Byte) : List (List Byte) :=
  if nal.length ≤ limit then [nal]
  else
    let b0 := (nal.getD 0 0).toNat
    let parts := fragments (limit - 3) nal.length (nal.drop 2)
    let last := parts.length - 1
    parts.zipIdx.map fun p =>
      [BitVec.ofNat 8 (b0 / 128 * 128 + 49 * 2 + b0 % 2), nal.getD 1 0,
        BitVec.ofNat 8 (b2n (p.2 = 0) * 128 + b2n (p.2 = last) * 64 + b0 / 2 % 64)] ++ p.1

/-- The packets of an access unit; the last one carries the marker. -/
def auPackets (c : Nat) (p : EncPic) (nals : List (List Byte)) (s : State) : List EncPkt :=
  let ts := p.inp.a * 90000 / 65536 / 1000000000 % 2 ^ 32
  let ps := nals.flatMap (nalPayloads (encFld c 0x28 31 16 s))
  ps.zipIdx.map fun q => { marker := decide (q.2 + 1 = ps.length), idr := p.idr, ts, payload := q.1, kbps := fld p.rate 15 0 }

/-! ## The bitstream (R250, R252) -/

/-- The parameter sets of a channel's stream: the conformance window removes what the coded size adds. -/
def streamHead (c : Nat) (s : State) : Config.StreamHead :=
  let t := smAt c s.enc
  { profileIdc := 2, highTier := false, levelIdc := 153, chromaIdc := 1, depth := 10, ctuSize := 64, minCb := 8
    decPicBufMinus1 := 1, reorder := 0, layers := 1, tiles := false, wavefront := false, scalingLists := false
    temporalMv := false, deblocking := true, sao := true, primaries := 1, transfer := 1, matrix := 1
    fullRange := false
    width := coded t.w, height := coded t.h, cropRight := coded t.w - t.w, cropBottom := coded t.h - t.h }

/-- The NAL units of an access unit in the order of R252: one independent slice segment per CTU row. PicOrderCnt counts
from the IDR. (DEDUCED: log entry 56) -/
def auNalUnits (c : Nat) (p : EncPic) (k : RcIn) (o : RcOut) (sei : List Byte) (s : State) : List (List Byte) :=
  let poc := if p.idr then 0 else (smAt c s.enc).sinceIdr
  (if p.idr then Config.parameterSets (streamHead c s) else []) ++ [sei]
    ++ o.sent.zipIdx.map fun r =>
      Config.sliceSegment { idr := p.idr, poc, address := r.2 * k.wctu, qp := r.1.1 } r.1.2

/-! ## The end of a picture (R254, R255) -/

/-- A mirror picture is finished. -/
def encFinish (c e : Nat) (p : EncPic) (r : EncRows) (s : State) : State :=
  let t := smAt c s.enc
  let k := rcTerms c p s
  let o := codeRows k r (t.qp.getD ((k.qpMin + k.qpMax) / 2))
  let es := cutEntries p o.cut t.ref
  let sei := seiNal (seiPayload c p es o.cut s)
  let pkts := auPackets c p (auNalUnits c p k o sei s) s
  let s := match o.cut with
    | none => s
    | some from_ =>
      raiseBit pEnc c ((s.bump pEnc (encOff c 0x44)).bumpAt pEnc (encOff c 0x48) 0 (k.rows - from_))
  let s := s.setReg pEnc (encOff c 0x38) (BitVec.ofNat 32 o.used)
  let s := s.setFld pEnc (encOff c 0x34) 15 8 (if k.rows = 0 then 0 else o.qpSum / k.rows)
  let s := s.bump pEnc (encOff c 0x3C)
  let s := setEnc c (fun t => { t with
    cur := none, qp := some o.qp, full := t.full + o.used - k.b, ref := es
    sinceIdr := if p.idr then 1 else t.sinceIdr + 1, packets := t.packets ++ pkts }) s
  let s := (s.bump (pCdc e) 0x048).bumpAt (pCdc e) 0x04C 0 r.encodeUs
  encStartAll (encLeave c s)

/-- ENC_PICTURE_COMPLETE (R254). (DESIGN CHOICE: log entries 55, 92) -/
def execEncPictureComplete (c : Fin 4) (r : EncRows) (s : State) : Host.Outcome State Fault Refusal :=
  .next (whenPixel s (
    let s := encStart c.val s
    match (smAt c.val s.enc).cur, encEngine c.val s with
    | some p, some e => encFinish c.val e p r s
    | _, _ => s))

/-! ## Registers (R263, R264) -/

/-- The channel and register of an offset of the page. -/
def encPlace (off : Nat) : Option (Nat × Nat) :=
  if 0x100 ≤ off ∧ off < 0x300 then some ((off - 0x100) / 0x80, (off - 0x100) % 0x80) else none

def encCheck (bus : Bus) (off : Nat) (v : Word) (s : State) : Verdict :=
  match encPlace off with
  | none => if off = 0x040 && fld v 15 0 ≠ 0 && (fld v 15 0 < 100 || 10000 < fld v 15 0) then .err 0x41 else .ok
  | some (c, r) =>
    if r ≠ 0 && r ≠ 8 && r ≠ 0xC && encOn c s then .err 0x40
    else
      let bad := match r with
        | 8 => !gopOk v
        | 0xC => !rateOk v
        | 0x10 => !vbvOk v
        | 0x28 => !payloadRangeOk v
        | _ => false
      if bad then .err 0x41
      else if r = 0 && bit v 0 && !encOn c s then
        match encAdmit bus c s with
        | .error code => .err code
        | .ok _ => .ok
      else .ok

/-- An accepted enable (R250, R251, R254, R260, R262). -/
def encEnable (bus : Bus) (c : Nat) (s : State) : State :=
  let (w, h) := croppedSize c s
  let s := match encAdmit bus c s with
    | .ok t => t
    | .error _ => s
  let s := setEnc c (fun _ => { w, h, srClk := s.clk }) s
  if outState (encOut c s) s = outRunning then encEnter c s else s

/-- The effect of an accepted write: `was` is EN before it. -/
def encEffect (bus : Bus) (off : Nat) (v : Word) (was : Bool) (s : State) : State :=
  match encPlace off with
  | some (c, 0) =>
    if bit v 0 && !was then encEnable bus c s
    else if !bit v 0 && was then encEnd c s
    else s
  | _ => s

/-- A write to a register of the ENC page. -/
def encWrite (bus : Bus) (m : Master) (off : Nat) (v : Word) (s : State) : State :=
  let was := match encPlace off with
    | some (c, _) => encOn c s
    | none => false
  regCommand m pEnc off v (encCheck bus off v) (encEffect bus off v was) s

/-- A read of the ENC page. -/
def encRead (off : Nat) (s : State) : Word × State :=
  match encPlace off with
  | some (c, 0x34) =>
    let e := encEngine c s
    let w := encReg c 0x34 s
    (putFld (putFld (putFld (putFld w 31 28 (e.getD 0)) 27 27 (b2n e.isSome)) 19 16
      ((smAt c s.enc).stopped.getD 0)) 2 0 (encState c s), s)
  | some _ => (s.reg pEnc off, s)
  | none =>
    if off = 0x044 then
      (BitVec.ofNat 32 ((List.range 4).foldl (fun n c => n + b2n (encState c s = 2) * 2 ^ c) 0), s)
    else (s.reg pEnc off, s)

end Sys2Proof.Machine
end

