-- ==== Sys2Proof/Machine/Scanout.lean ====
section
/-! DEFINITION. An output: states, release and hold, frame lock, latch points and line 0, its registers
(R220 to R239, R244 to R247). -/

namespace Sys2Proof.Machine

def setOutState (n st : Nat) (s : State) : State := s.setFld (pOut n) 0x044 1 0 st

/-- The outputs that follow a leader: itself and the members that take part in its release (R234). -/
def followers (l : Nat) (s : State) : List Nat :=
  (groupOf l s).filter fun m => m = l || (smAt m s.out).joined

/-- STATE of a leader and of the members that follow it; OUT_CTRL reads accordingly (R234, R244). -/
def setGroupState (l st : Nat) (s : State) : State :=
  let s := (followers l s).foldl (fun s m => setOutState m st s) s
  (s.setFld (pOut l) 0x040 0 0 (b2n (st = outReleasing))).setFld (pOut l) 0x040 1 1 0

/-! ## Stopping (R221, R223) -/

/-- The raster of an output stops: its frames end, and verdicts still pending are NONE. (DEDUCED: log entry 53) -/
def stopRaster (n : Nat) (s : State) : State :=
  setOut n (fun o => { o with coming := none, scan := none, prev := none, chosen := none, rechoose := false })
    (noVerdicts n s)

/-- A member leaves its leader's run: DISABLED names an output with ENABLE = 0 only, so an enabled member is HELD
(R220, R234). (DEDUCED: log entry 53) -/
def partMember (m : Nat) (s : State) : State :=
  if (smAt m s.out).joined then
    setOutState m (if s.enabled (pOut m) then outHeld else outDisabled) (setOut m (fun o => { o with joined := false }) s)
  else s

/-- OUT*n* stops as under ENABLE = 0 (R221, R440): raster, main link and AUX stop; the members that followed a leader stop
with it and stay HELD (R234). -/
def outStop (n : Nat) (s : State) : State :=
  let l := leaderOf n s
  let s :=
    if l = n then
      let g := followers n s
      let s := g.foldl (fun s m => encOutDisabled m (stopRaster m s)) s
      (g.filter (· ≠ n)).foldl (fun s m => partMember m s) (setGroupState n outDisabled s)
    else setOutState n outDisabled (encOutDisabled n (stopRaster n s))
  let s := (s.setFld (pOut n) 0x044 10 10 0).setFld (pOut n) 0x09C 0 0 0
  let s := (s.setFld (pOut n) 0x09C 1 1 0).setFld (pOut n) 0x098 1 1 0
  setOut n (fun o => { o with aux := none, job := none, own := none, again := false, joined := false })
    (s.setFld (pOut n) 0x0B4 0 0 0)

/-- The values that a write of the page replaces: of both words when it commits a pair (R13). -/
def replaced (n off : Nat) (was : State) : List (Nat × Word) :=
  let old := fun o => (o, was.reg (pOut n) o)
  match findRow (pOut n) off with
  | some r => if r.pair = .high then [old off, old (off - 4)] else [old off]
  | none => []

/-- A write of the page has replaced values in this clock; `was` is the state before it (R247). -/
def noteOut (n off : Nat) (was s : State) : State :=
  setOut n (fun o => { o with
    wroteClk := s.clk, wrote := replaced n off was ++ (if o.wroteClk = s.clk then o.wrote else []) }) s

/-- The other writes that reached the page in this clock are discarded (R247). (DEDUCED: log entry 54) -/
def undoWrites (n : Nat) (s : State) : State :=
  let o := smAt n s.out
  if o.wroteClk ≠ s.clk then s
  else
    let s := (o.wrote.filter fun e => e.1 ≠ 0x008).foldl (fun s e => s.setReg (pOut n) e.1 e.2) s
    { s with xq := s.xq.filter fun x => !(x.page = pOut n && x.clk = s.clk) }

/-- OUT*n* is written ENABLE = 0. The other writes that reach it in the clock are discarded (R221, R247).
(DEDUCED: log entry 54) -/
def outDisable (n : Nat) (s : State) : State :=
  setOut n (fun o => { o with offClk := some s.clk, wrote := [] }) (outStop n (undoWrites n s))

/-- A write that reaches OUT*n* in the clock of an ENABLE = 0 (R247). (DEDUCED: log entry 54) -/
def afterOff (n : Nat) (s : State) : Bool := (smAt n s.out).offClk = some s.clk

/-- OUT*n* is written ENABLE = 1 while it is 0: HELD, no frame produced, no release refused, no training since
(R221, R222, R234, R241). -/
def outStart (n : Nat) (s : State) : State :=
  let s := setOut n (fun o => { o with nextNo := 0, joined := false, unplugClk := none }) s
  let s := (((s.setReg (pOut n) 0x09C 0).setReg (pOut n) 0x048 0xFFFFFFFF).setFld (pOut n) 0x044 23 20 0).setFld (pOut n) 0x044 9 9 0
  if leaderOf n s = n then setGroupState n outHeld s else setOutState n outHeld s

/-! ## Release checks (R222, R225 to R227) -/

def hTimingOk (t : Timing) : Bool :=
  640 ≤ t.hA && t.hA ≤ 4096 && t.hA % 2 = 0 && t.hA + 64 ≤ t.hT && t.hT ≤ 8192
    && 8 ≤ t.hFp && t.hFp ≤ 4095 && 8 ≤ t.hSync && t.hSync ≤ 1023
    && t.hA + t.hFp + t.hSync + 16 ≤ t.hT

def vTimingOk (t : Timing) : Bool :=
  480 ≤ t.vA && t.vA ≤ 4096 && t.vA + 8 ≤ t.vT && t.vT ≤ 8192
    && 1 ≤ t.vFp && t.vFp ≤ 4095 && 1 ≤ t.vSync && t.vSync ≤ 63
    && t.vA + t.vFp + t.vSync + 2 ≤ t.vT

/-- f_nom × P in units of 2⁻³² (R226): pixels of a frame × 10⁹ × 2³². -/
def framePixels (t : Timing) : Nat := t.hT * t.vT * 1000000000 * 2 ^ 32

def pixelRateOk (t : Timing) : Bool :=
  t.sched.p ≠ 0 && 25000000 * t.sched.p ≤ framePixels t && framePixels t ≤ 600000000 * t.sched.p

/-- VB ≥ 64 × H_ACTIVE × 1.25 ns + 20,000 ns (R225). -/
def vblankOk (t : Timing) : Bool := (80 * t.hA + 20000) * t.vT * 2 ^ 32 ≤ (t.vT - t.vA) * t.sched.p

/-- Lane rate in kb/s, and lanes, by code (R227). -/
def laneRate (code : Nat) : Nat := match code with | 0 => 1620000 | 1 => 2700000 | 2 => 5400000 | _ => 8100000

def laneCount (code : Nat) : Nat := match code with | 0 => 1 | 1 => 2 | _ => 4

/-- The payload check at a rate and lane code (R227). -/
def payloadOk (t : Timing) (rate lanes : Nat) : Bool :=
  framePixels t * 3 * t.depth * 1000 ≤ laneCount lanes * laneRate rate * 1000 * 792 * t.sched.p

/-- The lowest failing release check; 0 when all pass (R222). (DESIGN CHOICE: log entry 112) -/
def releaseCheck (n : Nat) (s : State) : Nat :=
  let t := timingOf n s
  let g := groupOf n s
  if !hTimingOk t then 1
  else if !vTimingOk t then 2
  else if !pixelRateOk t then 3
  else if !t.sched.cycleOk || 1000000000 ≤ s.rf (pOut n) 0x068 29 0 then 4
  else if !vblankOk t then 5
  else if g.any (fun m => !payloadOk t (s.rf (pOut m) 0x094 7 6) (s.rf (pOut m) 0x094 5 4)) then 6
  else if g.any (fun m => !s.enabled (pGrd m)) then 7
  else if g.any (fun m => !s.enabled (pOut m)) then 8
  else if s.dev ≠ devRun then 9
  else 0

/-- An accepted release: F, the release latch point, the synthesiser locked (R222, R229, R234).
(DEDUCED, DESIGN CHOICE: log entries 52, 112) -/
def releaseEffect (n : Nat) (s : State) : State :=
  let t := timingOf n s
  let s := (groupOf n s).foldl (fun s m =>
    setGrd m (fun g => { g with seen := false })
      ((setOut m (fun o => { o with joined := decide (m ≠ n) }) s).setFld (pOut m) 0x044 10 10 1)) s
  let vb := lineTime40 t.sched.p t.vT (t.vT - t.vA)
  let j := t.sched.firstAt (s.t16 + 2000000 * 65536 + roundUp vb (2 ^ 24))
  let ahead := Int.ofNat (t.sched.instant j * 2 ^ 24) - Int.ofNat vb - counterTerms s
  setGroupState n outReleasing (setOut n (fun o => { o with j, rechoose := false, relRun := ahead.toNat }) s)

/-- HOLD = 1 has been written (R223). -/
def holdEffect (n : Nat) (s : State) : State :=
  let st := outState n s
  if st = outRunning then s
  else if st = outReleasing then
    let g := followers n s
    let s := g.foldl (fun s m => stopRaster m s) s
    g.foldl (fun s m => raiseBit (pOut m) 2 s) (setGroupState n outHeld s)
  else s.setFld (pOut n) 0x040 1 1 0

/-! ## Register writes (R224, R234, R244, R246) -/

/-- Registers whose writes a group member discards: its timing registers but OUT_LINK_CFG, OUT_CTRL (R234).
(DEDUCED: log entry 53) -/
def memberReg (off : Nat) : Bool := off = 0x040 || (0x04C ≤ off && off ≤ 0x080) || off = 0x090

def timingReg (off : Nat) : Bool := (0x04C ≤ off && off ≤ 0x080) || off = 0x090 || off = 0x094

/-- Whether a write of OUT_GROUP is out of range (R234). (DEDUCED: log entry 53) -/
def groupBad (n size : Nat) (s : State) : Bool :=
  let span := groupSpan size
  size = 3 || n % span ≠ 0 || ((List.range (span - 1)).map fun i => n + 1 + i).any fun m =>
    s.rf (pOut m) 0x090 1 0 ≠ 0 || (leaderOf m s ≠ m && leaderOf m s ≠ n) || outReleasing ≤ outState m s

def auxReqOk (r : Nat) : Bool := [0, 1, 4, 5, 8, 9].contains r

/-- A write that asks a disabled output for work: a release, a training, an AUX transaction (R17).
(PRESUMED: log entry 98) -/
def outWork (off : Nat) (v : Word) : Bool :=
  (off = 0x040 && bit v 0 && !bit v 1) || (off = 0x098 && bit v 1) || off = 0x0B0

/-- The checks of a write to the page of a scanout port (R17, R223, R234, R241 to R247). (PRESUMED: log entry 98) -/
def outCheck (n off : Nat) (v : Word) (s : State) : Verdict :=
  let p := pOut n
  if afterOff n s then .drop
  else if !s.enabled p && outWork off v then .err 0x07
  else if memberReg off && leaderOf n s ≠ n then .err 0x44
  else if timingReg off && outReleasing ≤ outState n s then .err 0x40
  else if 0x40 ≤ off && reservedSet p off v then .err 0x41
  else if off = 0x094 && fld v 5 4 = 3 then .err 0x41
  else if off = 0x090 && groupBad n (fld v 1 0) s then .err 0x41
  else if off = 0x0B0 && !auxReqOk (fld v 31 28) then .err 0x41
  else if 0x100 ≤ off && off % 0x20 = 8 && !(1 ≤ fld v 31 16 && fld v 31 16 ≤ 4096
      && 1 ≤ fld v 15 0 && fld v 15 0 ≤ 4096) then .err 0x41
  else if off = 0x0B0 && s.rb p 0x0B4 0 then .err 0x43
  else if off = 0x098 && bit v 1 && (s.rb p 0x09C 1 || !bit v 0 || s.dev ≠ devRun
      || (smAt n s.out).unplugClk = some s.clk) then .err 0x45
  else if off = 0x040 && bit v 0 && !bit v 1 && outState n s = outHeld && releaseCheck n s ≠ 0 then .err 0x42
  else .ok

/-- What a write refused in `s` leaves in `t` besides its code: TIMING_LOCKED, or REFUSE and REFUSED (R222,
R224). -/
def outRefused (n off : Nat) (v : Word) (s t : State) : State :=
  match outCheck n off v s with
  | .err 0x40 => raiseBit (pOut n) 4 t
  | .err 0x42 => raiseBit (pOut n) 3 (t.setFld (pOut n) 0x044 23 20 (releaseCheck n s))
  | _ => t

/-- OUT_CTRL has been written: HOLD acts before RELEASE (R223). -/
def outCtrlEffect (n : Nat) (v : Word) (s : State) : State :=
  let release := bit v 0 && !bit v 1 && outState n s = outHeld
  let s := if bit v 1 then holdEffect n s else s
  if release then releaseEffect n s
  else s.setFld (pOut n) 0x040 0 0 (b2n (outState n s = outReleasing))

/-- A leader's group has been written: those that were its members, as `was` has them, and are no more take their own state
again (R234). -/
def outGroupEffect (n : Nat) (was s : State) : State :=
  ((List.range 3).map fun i => n + 1 + i).foldl (fun s m =>
    if m < 16 && leaderOf m was = n && leaderOf m s ≠ n then partMember m s else s) s

/-! ## Line times and latch points (R222, R223, R230, R235 to R237) -/

/-- PIX clocks from a phase to an instant, in the present counter terms: ceil((i − now) / t_pix) (R230). -/
def pixClocks (t : Timing) (instant phase : Nat) (s : State) : Int :=
  let d := Int.ofNat (instant * 2 ^ 24) - counterTerms s - Int.ofNat phase
  let per := Int.ofNat (t.sched.p * 256)
  if per = 0 then 0 else -Int.fdiv (-(d * Int.ofNat (t.hT * t.vT))) per

/-- The first index from `j` whose instant can be met (R230). (DEDUCED: log entry 52) -/
def meetable (t : Timing) (phase : Nat) (s : State) : Nat → Nat → Nat
  | 0, j => j
  | k + 1, j =>
    if pixClocks t (t.sched.instant j) phase s < Int.ofNat (3 * t.hT / 4) then meetable t phase s k (j + 1)
    else j

/-- The slip line of a leader, or the blanking after its release latch point, which begins at phase `phase`: the
next instant is chosen for its group (R230, R232). (DEDUCED: log entry 52) -/
def slipLine (l phase : Nat) (s : State) : State :=
  let p := pOut l
  let t := timingOf l s
  let o := smAt l s.out
  let nowT := (Int.ofNat phase + counterTerms s).toNat / 2 ^ 24
  let from_ := if o.rechoose then t.sched.firstAt (nowT + lead64) else o.j
  let j := meetable t phase s 4 (max from_ (t.sched.firstAt nowT))
  let r := pixClocks t (t.sched.instant j) phase s
  let lines := (Int.fdiv (r - Int.ofNat (7 * t.hT / 4) + Int.ofNat t.hT - 1) (Int.ofNat t.hT)).toNat
  let slip := clampI (-32768) 32767 (r - Int.ofNat (lines * t.hT) - Int.ofNat t.hT)
  let skipped := j - from_
  let s := if skipped = 0 then s else raiseBit p 5 (s.bumpAt p 0x088 0 skipped)
  let s := if 0 < lines then raiseBit p 6 (s.bump p 0x08C) else s
  let s := s.setFld p 0x084 31 16 (BitVec.ofInt 16 slip).toNat
  let at_ := (Int.ofNat (t.sched.instant j * 2 ^ 24) - counterTerms s).toNat
  let s := setOut l (fun o => { o with j := j + 1, rechoose := false }) s
  (followers l s).foldl (fun s m =>
    setOut m (fun o => { o with chosen := some at_ }) s) s

/-- SLIP_LINE: line V_TOTAL − 1 of the leader's frame begins (R230). -/
def execSlipLine (n : Fin 16) (s : State) : Host.Outcome State Fault Refusal :=
  let l := leaderOf n.val s
  let o := smAt l s.out
  .next (whenPixel s (if outState l s = outRunning && o.scan.isNone && o.coming.isSome && o.chosen.isNone
      && o.slipRun ≤ s.tm.run then slipLine l o.slipRun s else s))

/-- SYNTH_LOCK_LOSS (R229): SYNTH_LOCK falls, and an output that is RELEASING or RUNNING withdraws the ZW96. -/
def execSynthLockLoss (n : Fin 16) (s : State) : Host.Outcome State Fault Refusal :=
  let p := pOut n.val
  let lost := s.rb p 0x044 10
  let s1 := s.setFld p 0x044 10 10 0
  .next (whenPixel s (if lost && outReleasing ≤ outState n.val s then withdraw 4 n.val s1 else s1))

end Sys2Proof.Machine
end

