-- ==== Sys2Proof/Machine/Link.lean ====
section
/-! DEFINITION. The DisplayPort source port of an output: link training, hot plug and the AUX channel (R240 to
R243), and the reads and writes of the OUT page. -/

namespace Sys2Proof.Machine

/-! ## The AUX channel (R243) -/

/-- The port itself uses the channel: it trains, or checks the lanes. -/
def auxTaken (n : Nat) (s : State) : Bool := (smAt n s.out).job.isSome

/-- A transaction is out on the channel and waits for its reply. -/
def inFlight (x : Option AuxTx) : Bool := x.any fun t => t.sent.isSome && t.deferred.isNone

/-- A transaction goes out; without LINK_EN the channel is inactive and nothing leaves the port (R244). -/
def auxOut (n : Nat) (x : AuxTx) (s : State) : State :=
  if s.rb (pOut n) 0x098 0 then s.emit (.auxRequest n x.req x.addr x.len x.data) else s

/-- A transaction of firmware goes out on the channel. -/
def auxSend (n : Nat) (x : AuxTx) (s : State) : State :=
  setOut n (fun o => { o with aux := some { x with sent := some s.clk, deferred := none } }) (auxOut n x s)

/-- A transaction of the port goes out on the channel. -/
def ownSend (n : Nat) (x : AuxTx) (s : State) : State :=
  setOut n (fun o => { o with own := some { x with sent := some s.clk, deferred := none } }) (auxOut n x s)

/-- The port's next transaction: it goes out at once, or when the transaction of firmware in flight has ended. -/
def ownPut (n : Nat) (x : AuxTx) (s : State) : State :=
  if inFlight (smAt n s.out).aux then setOut n (fun o => { o with own := some x }) s else ownSend n x s

/-- A transaction of the port that waited for firmware's goes out. -/
def ownRelease (n : Nat) (s : State) : State :=
  match (smAt n s.out).own with
  | some x => if x.sent.isNone then ownSend n x s else s
  | none => s

/-- A waiting transaction of firmware goes out once the port has finished with the channel. -/
def auxRelease (n : Nat) (s : State) : State :=
  match (smAt n s.out).aux with
  | some x => if x.sent.isNone then auxSend n x s else s
  | none => s

/-- The port has finished with the channel. -/
def jobEnd (n : Nat) (s : State) : State :=
  auxRelease n (setOut n (fun o => { o with job := none, own := none, again := false }) s)

/-- The result of a transaction of firmware is written and AUX_DONE raised. (DEDUCED: log entry 54) -/
def auxFinish (n result count : Nat) (s : State) : State :=
  ownRelease n (raiseBit (pOut n) 13 (setOut n (fun o => { o with aux := none })
    (s.setReg (pOut n) 0x0B4 (BitVec.ofNat 32 (count * 256 + result * 2)))))

/-- Byte `i` of the AUX data registers. -/
def auxByte (n i : Nat) (s : State) : Byte :=
  BitVec.ofNat 8 (s.rf (pOut n) (0x0B8 + i / 4 * 4) (8 * (i % 4) + 7) (8 * (i % 4)))

def auxPutBytes (n : Nat) : Nat → List Byte → State → State
  | _, [], s => s
  | i, b :: bs, s =>
    auxPutBytes n (i + 1) bs
      (s.setFld (pOut n) (0x0B8 + i / 4 * 4) (8 * (i % 4) + 7) (8 * (i % 4)) b.toNat)

/-- OUT_AUX_CMD has been written: the transaction is issued, waits for the channel, or ends at once with HPD
low. (DEDUCED: log entry 54) -/
def auxIssue (n : Nat) (v : Word) (s : State) : State :=
  if !s.rb (pOut n) 0x044 9 then auxFinish n 4 0 s
  else
    let len := fld v 27 24 + 1
    let x : AuxTx := { req := fld v 31 28, addr := fld v 19 0, len
                       data := if fld v 28 28 = 0 then (List.range len).map fun i => auxByte n i s else [] }
    let s := s.setFld (pOut n) 0x0B4 0 0 1
    if auxTaken n s then setOut n (fun o => { o with aux := some x }) s else auxSend n x s

/-! ## Link training: its steps on the AUX channel (R241) -/

/-- The frame in scan is no longer transmitted. (DEDUCED: log entry 54) -/
def videoOff (n : Nat) (s : State) : State :=
  setOut n (fun o => { o with scan := o.scan.map fun f => { f with video := false } }) s

/-- TRAINED falls. -/
def untrain (n : Nat) (s : State) : State := videoOff n (s.setFld (pOut n) 0x09C 0 0 0)

/-- A training attempt fails. -/
def trainFail (n result : Nat) (s : State) : State :=
  let p := pOut n
  let s := (untrain n s).setFld p 0x09C 4 2 result
  let s := (s.setFld p 0x09C 1 1 0).setFld p 0x098 1 1 0
  jobEnd n (raiseBit p 12 (s.bump p 0x0A0))

/-- The byte that LINK_BW_SET takes for a rate code, and the code of a sink's MAX_LINK_RATE.
(PRESUMED: log entry 98) -/
def bwByte (rate : Nat) : Nat := match rate with | 0 => 0x06 | 1 => 0x0A | 2 => 0x14 | _ => 0x1E
def bwCode (b : Nat) : Nat := if 0x1E ≤ b then 3 else if 0x14 ≤ b then 2 else if 0x0A ≤ b then 1 else 0

/-- The lane code of a sink's MAX_LANE_COUNT. (PRESUMED: log entry 98) -/
def laneCode (b : Nat) : Nat := if 4 ≤ b % 32 then 2 else if 2 ≤ b % 32 then 1 else 0

/-- TRAINING_LANEx_SET of a drive: swing, MAX_SWING_REACHED, pre-emphasis, MAX_PRE-EMPHASIS_REACHED.
(PRESUMED: log entry 98) -/
def driveByte (d : Nat) : Nat :=
  d % 4 + (if d % 4 = 3 then 4 else 0) + d / 4 * 8 + (if d / 4 = 3 then 32 else 0)

/-- TRAINING_PATTERN_SET of the equalisation pattern; TPS4 is scrambled. (PRESUMED: log entry 98) -/
def patternByte (tps : Nat) : Nat := if tps = 4 then 0x07 else 0x20 + tps

/-- The transaction of each step of a training (R241, steps 1 to 7). (PRESUMED: log entry 98) -/
def trainTx (t : Training) (ssc : Bool) : AuxTx :=
  let write := fun addr (bs : List Nat) =>
    ({ req := 8, addr, len := bs.length, data := bs.map (BitVec.ofNat 8) } : AuxTx)
  let lanes := t.drive.map driveByte
  match t.step with
  | 0 => { req := 9, addr := 0x00000, len := 16, data := [] }
  | 1 => write 0x100 [bwByte t.rate, 0x80 + laneCount t.lanes]
  | 2 => write 0x107 [if ssc then 0x10 else 0]
  | 3 => write 0x102 (0x21 :: lanes)
  | 5 => write 0x102 (patternByte t.tps :: lanes)
  | 7 => write 0x102 [0]
  | _ => { req := 9, addr := 0x00202, len := 6, data := [] }

/-- The status nibble of a lane: clock recovery, equalisation, symbol lock. (PRESUMED: log entry 98) -/
def laneNibble (data : List Byte) (i : Nat) : Nat := (data.getD (i / 2) 0).toNat / 16 ^ (i % 2) % 16

def allLanes (t : Training) (mask : Nat) (data : List Byte) : Bool :=
  (List.range (laneCount t.lanes)).all fun i => Nat.land (laneNibble data i) mask = mask

/-- The drive that the sink's ADJUST_REQUEST asks for, per lane. (PRESUMED: log entry 98) -/
def adjusted (t : Training) (data : List Byte) : List Nat :=
  (List.range (laneCount t.lanes)).map fun i => laneNibble (data.drop 4) i

/-- The start of a setting: step 3 of R241 with the least drive. -/
def atSetting (t : Training) (rate lanes : Nat) : Training :=
  { t with step := 1, rate, lanes, drive := List.replicate (laneCount lanes) 0, same := 1, tries := 1, loops := 0 }

/-- The setting tried after a failure: the next lower rate, below RBR half the lanes at the first rate
(R241, step 6). (PRESUMED: log entry 98) -/
def nextSetting (t : Training) : Option (Nat × Nat) :=
  if t.rate ≠ 0 then some (t.rate - 1, t.lanes) else if t.lanes ≠ 0 then some (t.rate0, t.lanes - 1) else none

/-- Clock recovery (2) or equalisation (3) has failed at a setting (R241, step 6). -/
def trainBack (n code : Nat) (t : Training) (s : State) : Training :=
  match nextSetting t with
  | some (r, l) =>
    if s.rb (pOut n) 0x094 1 && payloadOk (timingOf n s) r l then atSetting t r l else { t with result := some code }
  | none => { t with result := some code }

/-- The sink's capabilities have been read (R241, steps 1 and 2). (PRESUMED: log entry 98) -/
def trainCaps (n : Nat) (t : Training) (data : List Byte) (s : State) : Training :=
  let b := fun i => (data.getD i 0).toNat
  let (r, l) := (s.rf (pOut n) 0x094 7 6, s.rf (pOut n) 0x094 5 4)
  let (r1, l1) := (min r (bwCode (b 1)), min l (laneCode (b 2)))
  let t := { t with tps := if (b 3).testBit 7 then 4 else if (b 2).testBit 6 then 3 else 2 }
  if r1 = r ∧ l1 = l then atSetting { t with rate0 := r } r l
  else if !s.rb (pOut n) 0x094 1 || !payloadOk (timingOf n s) r1 l1 then { t with result := some 4 }
  else atSetting { t with rate0 := r1 } r1 l1

/-- The status after a try of clock recovery: at most 5 tries at one swing level and 10 in all (R241, step 4).
(PRESUMED: log entry 98) -/
def trainClock (n : Nat) (t : Training) (data : List Byte) (s : State) : Training :=
  if allLanes t 1 data then { t with step := 5, loops := 0 }
  else
    let d := adjusted t data
    let same := if d.map (· % 4) = t.drive.map (· % 4) then t.same + 1 else 1
    if t.tries = 10 || 5 < same then trainBack n 2 t s
    else { t with step := 3, drive := d, same, tries := t.tries + 1 }

/-- The status after a loop of equalisation: at most 6 loops (R241, step 5). (PRESUMED: log entry 98) -/
def trainEqual (n : Nat) (t : Training) (data : List Byte) (s : State) : Training :=
  if !allLanes t 1 data then trainBack n 3 t s
  else if allLanes t 7 data && (data.getD 2 0).getLsbD 0 then { t with step := 7 }
  else if t.loops = 5 then trainBack n 3 t s
  else { t with step := 5, drive := adjusted t data, loops := t.loops + 1 }

/-- The training after the reply to the transaction of its step. -/
def trainReply (n : Nat) (t : Training) (data : List Byte) (s : State) : Training :=
  match t.step with
  | 0 => trainCaps n t data s
  | 4 => trainClock n t data s
  | 6 => trainEqual n t data s
  | 7 => { t with result := some 1 }
  | k => { t with step := k + 1 }

/-- The training goes on with the transaction of its step, unless it has its result (R241). -/
def trainGo (n : Nat) (t : Training) (s : State) : State :=
  let s := setOut n (fun o => { o with job := some (.train t), own := none }) s
  if t.result.isSome then s else ownPut n (trainTx t (s.rb (pOut n) 0x094 2)) s

/-- Training starts with the read of the sink's capabilities, or fails at once with HPD low.
(DEDUCED, PRESUMED: log entries 54, 98) -/
def trainStart (n : Nat) (s : State) : State :=
  let p := pOut n
  if !s.rb p 0x044 9 then trainFail n 5 s
  else trainGo n { startClk := s.clk } (((untrain n s).setFld p 0x09C 1 1 1).setFld p 0x098 1 1 1)

/-- A plug or a lane failure trains when AUTO_TRAIN = 1 and training may run; a training under way stays, and a disabled
output does none (R220, R241, R247). (DEDUCED: log entry 54) -/
def autoTrain (n : Nat) (s : State) : State :=
  let p := pOut n
  if s.enabled p && s.rb p 0x094 0 && s.rb p 0x098 0 && s.rb p 0x044 9 && s.dev = devRun && !s.rb p 0x09C 1 then trainStart n s
  else s

/-- LINK_TRAIN_DONE: the attempt ends with the result it has reached, or after 200 ms in failure of the step it is
at (R241). (DEDUCED, PRESUMED: log entries 54, 98) -/
def execLinkTrainDone (n : Fin 16) (s : State) : Host.Outcome State Fault Refusal :=
  let n := n.val
  let p := pOut n
  .next (whenPixel s (match (smAt n s.out).job with
    | some (.train t) =>
      match t.result with
      | some 1 =>
        let s := s.setReg p 0x09C (BitVec.ofNat 32 (t.rate * 1024 + t.lanes * 256 + 1 * 4 + 1))
        jobEnd n (raiseBit p 11 (s.setFld p 0x098 1 1 0))
      | some r => trainFail n r s
      | none =>
        if s.clk < t.startClk + 100000000 then s
        else trainFail n (if t.step < 3 then 6 else if t.step < 5 then 2 else 3) s
    | _ => s))

/-- Whether a lane that the trained link uses has lost clock recovery, equalisation or symbol lock, or interlane
alignment is lost, in DPCD 0x00200 to 0x00205 (R242). (PRESUMED: log entry 98) -/
def lanesLost (n : Nat) (data : List Byte) (s : State) : Bool :=
  let d := data.drop 2
  ((List.range (laneCount (s.rf (pOut n) 0x09C 9 8))).any fun i => Nat.land (laneNibble d i) 7 ≠ 7)
    || !(d.getD 2 0).getLsbD 0

/-- A lane-status failure: TRAINED falls, and the link is trained again when AUTO_TRAIN = 1 (R242). -/
def laneFailed (n : Nat) (s : State) : State := if s.rb (pOut n) 0x09C 0 then autoTrain n (untrain n s) else s

/-- The port reads the lane status of a trained link (R242). -/
def lanesRead (n : Nat) (s : State) : State :=
  ownPut n { req := 9, addr := 0x00200, len := 6, data := [] }
    (setOut n (fun o => { o with job := some .lanes, again := false }) s)

/-- The read of the lane status has ended: with data that show a loss the link fails; an IRQ_HPD that has come meanwhile
has it made again (R242). (DEDUCED: log entry 54) -/
def lanesEnd (n : Nat) (data : Option (List Byte)) (s : State) : State :=
  let again := (smAt n s.out).again
  let s := jobEnd n s
  let s := if data.any fun d => lanesLost n d s then laneFailed n s else s
  if again && s.rb (pOut n) 0x09C 0 then lanesRead n s else s

/-- A transaction of the port has been answered with data, or has failed (none). (PRESUMED: log entry 98) -/
def ownDone (n : Nat) (data : Option (List Byte)) (s : State) : State :=
  match (smAt n s.out).job, data with
  | some (.train t), some d => trainGo n (trainReply n t d s) s
  | some (.train t), none => trainGo n { t with result := some 6 } s
  | some .lanes, d => lanesEnd n d s
  | none, _ => s

/-! ## Replies (R243) -/

/-- A reply to a transaction of the port. -/
def ownReply (n : Nat) (x : AuxTx) (r : AuxAnswer) (s : State) : State :=
  match r with
  | .ack data count => ownDone n (some (data.take (min count x.len))) s
  | .nack _ => ownDone n none s
  | .defer =>
    if x.defers = 7 then ownDone n none s
    else setOut n (fun o => { o with own := some { x with deferred := some s.clk, defers := x.defers + 1 } }) s

/-- A reply to a transaction of firmware. -/
def fwReply (n : Nat) (x : AuxTx) (r : AuxAnswer) (s : State) : State :=
  match r with
  | .ack data count =>
    auxFinish n 0 (min count x.len)
      (if x.req % 2 = 1 then auxPutBytes n 0 (data.take (min count x.len)) s else s)
  | .nack count => auxFinish n 1 (min count x.len) s
  | .defer =>
    if x.defers = 7 then auxFinish n 2 0 s
    else ownRelease n (setOut n (fun o => { o with
      aux := some { x with deferred := some s.clk, defers := x.defers + 1 } }) s)

/-- AUX_REPLY: the sink's answer to the transaction in flight; an inactive channel carries none (R243, R244).
(DESIGN CHOICE: log entry 11) -/
def execAuxReply (n : Fin 16) (r : AuxAnswer) (s : State) : Host.Outcome State Fault Refusal :=
  let n := n.val
  let o := smAt n s.out
  .next (whenPixel s (if !s.rb (pOut n) 0x098 0 then s
    else if inFlight o.own then ownReply n (o.own.getD default) r s
    else if inFlight o.aux then fwReply n (o.aux.getD default) r s
    else s))

/-- AUX_REPLY_TIMEOUT: 400 µs without a reply; up to 3 retries (R243). -/
def execAuxReplyTimeout (n : Fin 16) (s : State) : Host.Outcome State Fault Refusal :=
  let n := n.val
  let o := smAt n s.out
  let due := fun (x : AuxTx) => x.sent.any fun c => c + 200000 ≤ s.clk
  .next (whenPixel s (match inFlight o.own, o.own, inFlight o.aux, o.aux with
    | true, some x, _, _ =>
      if !due x then s else if x.timeouts = 3 then ownDone n none s
      else ownSend n { x with timeouts := x.timeouts + 1 } s
    | _, _, true, some x =>
      if !due x then s else if x.timeouts = 3 then auxFinish n 3 0 s
      else auxSend n { x with timeouts := x.timeouts + 1 } s
    | _, _, _, _ => s))

/-- AUX_DEFER_RETRY: 500 µs after a DEFER reply the transaction is sent again (R243). -/
def execAuxDeferRetry (n : Fin 16) (s : State) : Host.Outcome State Fault Refusal :=
  let n := n.val
  let o := smAt n s.out
  let due := fun (x : AuxTx) => x.deferred.any fun c => c + 250000 ≤ s.clk
  .next (whenPixel s (match o.own, o.aux with
    | some x, _ => if due x && !inFlight o.aux then ownSend n x s else s
    | none, some x => if due x && !auxTaken n s then auxSend n x s else s
    | none, none => s))

/-! ## Hot plug (R242) -/

/-- HPD_IRQ: a low pulse of 0.25 ms to below 2 ms; with the link trained the port reads the lane status, after a read
under way once more. -/
def execHpdIrq (n : Fin 16) (s : State) : Host.Outcome State Fault Refusal :=
  let n := n.val
  let p := pOut n
  .next (whenPixel s (if !s.enabled p || !s.rb p 0x044 9 then s
    else
      let s := raiseBit p 10 s
      if !s.rb p 0x09C 0 then s
      else if auxTaken n s then setOut n (fun o => { o with again := true }) s
      else lanesRead n s))

/-- HPD_UNPLUG: HPD low for 2 ms. -/
def execHpdUnplug (n : Fin 16) (s : State) : Host.Outcome State Fault Refusal :=
  let n := n.val
  let p := pOut n
  .next (whenPixel s (if !s.enabled p || !s.rb p 0x044 9 then s
    else
      let s := setOut n (fun o => { o with unplugClk := some s.clk }) (raiseBit p 9 (s.setFld p 0x044 9 9 0))
      if s.rb p 0x09C 1 then trainFail n 5 s else jobEnd n (untrain n s)))

/-- A plug: HPD has been high for 2 ms after an unplug or after enable (R242); with AUTO_TRAIN it trains (R241). -/
def plug (n : Nat) (s : State) : State :=
  let p := pOut n
  if !s.enabled p || s.rb p 0x044 9 then s else autoTrain n (raiseBit p 8 (s.setFld p 0x044 9 9 1))

/-- HPD_PLUG. -/
def execHpdPlug (n : Fin 16) (s : State) : Host.Outcome State Fault Refusal := .next (whenPixel s (plug n.val s))

/-! ## The OUT page (R244) -/

/-- OUT_LINK_CTRL has been written. Without LINK_EN the main link and AUX are off; the RESULT of a training cut
by it is open, and a transaction on its way gets no reply any more. (DEDUCED: log entry 54) -/
def linkCtrlEffect (n : Nat) (v : Word) (s : State) : State :=
  let p := pOut n
  if bit v 1 then trainStart n s
  else if bit v 0 then s.setFld p 0x098 1 1 (b2n (s.rb p 0x09C 1))
  else if s.rb p 0x09C 1 then
    let (w, s) := s.takeFree
    trainFail n (2 + w.toNat % 5) s
  else jobEnd n (untrain n s)

/-- The effect of an accepted write to a block-specific register of an OUT page; `was` is the state before it. -/
def outEffect (n off : Nat) (v : Word) (was s : State) : State :=
  match off with
  | 0x040 => outCtrlEffect n v s
  | 0x090 => outGroupEffect n was s
  | 0x098 => linkCtrlEffect n v s
  | 0x0B0 => auxIssue n v s
  | _ => s

/-- A write to a block-specific register of an OUT page. What an accepted one replaces is kept for its clock (R247). -/
def outWrite (m : Master) (n off : Nat) (v : Word) (s : State) : State :=
  let p := pOut n
  let t := regCommand m p off v (outCheck n off v) (fun t => noteOut n off s (outEffect n off v s t)) s
  if (admitWrite m p off v s).isNone then
    match outCheck n off v s with
    | .err _ => outRefused n off v s t
    | _ => t
  else t

/-- OUT_RELEASE: a write of OUT_CTRL with RELEASE = 1 (R222). -/
def execOutRelease (m : Master) (n : Fin 16) (s : State) : Host.Outcome State Fault Refusal :=
  .next (issue m .write (pOut n.val) 0x040 (outWrite m n.val 0x040 1) s)

/-- OUT_HOLD: a write of OUT_CTRL with HOLD = 1 (R223). -/
def execOutHold (m : Master) (n : Fin 16) (s : State) : Host.Outcome State Fault Refusal :=
  .next (issue m .write (pOut n.val) 0x040 (outWrite m n.val 0x040 2) s)

/-- LINK_TRAIN: a write of TRAIN = 1, LINK_EN as it is; or a plug or lane failure with AUTO_TRAIN (R241). -/
def execLinkTrain (n : Fin 16) (c : TrainCause) (s : State) : Host.Outcome State Fault Refusal :=
  .next (match c with
    | .write m => issue m .write (pOut n.val) 0x098
        (fun s => outWrite m n.val 0x098 ((s.reg (pOut n.val) 0x098 &&& 1) ||| 2) s) s
    | .plug => whenPixel s (plug n.val s)
    | .laneFailure => whenPixel s (laneFailed n.val s))

/-- A write of OUT_AUX_CMD (R243, R244). -/
def auxWrite (m : Master) (n req : Nat) (len : BitVec 4) (addr : BitVec 20) (s : State) : State :=
  outWrite m n 0x0B0 (BitVec.ofNat 32 (req * 2 ^ 28 + len.toNat * 2 ^ 24 + addr.toNat)) s

def execAuxI2cWrite (m : Master) (n : Fin 16) (len : BitVec 4) (addr : BitVec 20) (s : State) :
    Host.Outcome State Fault Refusal :=
  .next (issue m .write (pOut n.val) 0x0B0 (auxWrite m n.val 0x0 len addr) s)

def execAuxI2cRead (m : Master) (n : Fin 16) (len : BitVec 4) (addr : BitVec 20) (s : State) :
    Host.Outcome State Fault Refusal :=
  .next (issue m .write (pOut n.val) 0x0B0 (auxWrite m n.val 0x1 len addr) s)

def execAuxI2cWriteMot (m : Master) (n : Fin 16) (len : BitVec 4) (addr : BitVec 20) (s : State) :
    Host.Outcome State Fault Refusal :=
  .next (issue m .write (pOut n.val) 0x0B0 (auxWrite m n.val 0x4 len addr) s)

def execAuxI2cReadMot (m : Master) (n : Fin 16) (len : BitVec 4) (addr : BitVec 20) (s : State) :
    Host.Outcome State Fault Refusal :=
  .next (issue m .write (pOut n.val) 0x0B0 (auxWrite m n.val 0x5 len addr) s)

def execAuxNativeWrite (m : Master) (n : Fin 16) (len : BitVec 4) (addr : BitVec 20) (s : State) :
    Host.Outcome State Fault Refusal :=
  .next (issue m .write (pOut n.val) 0x0B0 (auxWrite m n.val 0x8 len addr) s)

def execAuxNativeRead (m : Master) (n : Fin 16) (len : BitVec 4) (addr : BitVec 20) (s : State) :
    Host.Outcome State Fault Refusal :=
  .next (issue m .write (pOut n.val) 0x0B0 (auxWrite m n.val 0x9 len addr) s)

/-- A read of an OUT page. -/
def outRead (n off : Nat) (s : State) : Word × State :=
  let l := leaderOf n s
  if off = 0x044 then
    let grouped := l ≠ n || 1 < (groupOf n s).length
    (putFld (putFld (s.reg (pOut n) off) 19 16 l) 11 11 (b2n grouped), s)
  else (s.reg (pOut n) off, s)

end Sys2Proof.Machine
end

