-- ==== Sys2Proof/Machine/Ngurelo.lean ====
section
/-! DEFINITION. A Ngurelo port: training, the sequenced link with replay and credits, forwarding, sending and
receiving pictures (R266 to R283, R300 to R302). -/

namespace Sys2Proof.Machine

def setNg (p : Nat) (f : NgSt → NgSt) (s : State) : State :=
  { s with ng := smSet p (f (smAt p s.ng)) s.ng }

/-- The flit types that carry a sequence number (R272). (DEDUCED: log entry 59) -/
def sequenced (t : Nat) : Bool := t = 0x10 || t = 0x11 || t = 0x12 || t = 0x20

def knownType (t : Nat) : Bool := t ≤ 3 || sequenced t

/-- Virtual channel 1 carries pictures (R268). -/
def onVc1 (t : Nat) : Bool := t = 0x10 || t = 0x11 || t = 0x12

/-! ## Flits on the wire (R267) -/

/-- The 256 bytes of a flit; a stomped one ends with the inverted CRC (R269). -/
def flitBytes (f : Flit) : List Byte :=
  let body := leBytes 1 f.type ++ leBytes 1 (b2n (onVc1 f.type) * 128) ++ leBytes 2 f.seq ++ leBytes 2 f.ack
    ++ leBytes 1 (f.credit0 * 16 + f.credit1) ++ leBytes 1 f.hops ++ leBytes 2 f.dst ++ leBytes 2 f.orig
    ++ leBytes 1 f.tag ++ [0, 0, 0] ++ takeBytes 236 f.payload
  let c := crc32c body
  body ++ leBytes 4 (if f.crc = .stomped then ~~~ c else c).toNat

/-- A flit leaves: it carries the current ACK and returns credits (R272, R274). -/
def ngEmit (p : Nat) (f : Flit) (s : State) : State :=
  let t := smAt p s.ng
  let c0 := min t.freed0 15
  let c1 := min t.freed1 15
  let s := setNg p (fun t => { t with freed0 := t.freed0 - c0, freed1 := t.freed1 - c1, ackDue := none }) s
  s.emit (.flit p (flitBytes { f with ack := t.rxSeq, credit0 := c0, credit1 := c1 }))

/-- A link flit without a payload. -/
def linkFlit (type : Nat) (s : State) : Flit := { type, orig := ownId s, tag := ownTag s }

/-- Send waiting flits while credits and the replay store allow, VC0 first (R272, R274). (DEDUCED: log entry 59) -/
def pump (p : Nat) : Nat → State → State
  | 0, s => s
  | n + 1, s =>
    let t := smAt p s.ng
    if t.st ≠ 2 || !lanesLive s || 1024 ≤ t.held.length then s
    else
      let send := fun (f : Flit) (s : State) =>
        let f := { f with seq := (t.txSeq + 1) % 65536 }
        pump p n (ngEmit p f (setNg p (fun t => { t with txSeq := f.seq, held := t.held ++ [(f, s.clk)] }) s))
      match t.q0, t.q1 with
      | f :: fs, _ =>
        if 0 < t.cr0 then send f (setNg p (fun t => { t with q0 := fs, cr0 := t.cr0 - 1 }) s)
        else
          match t.q1 with
          | g :: gs => if 0 < t.cr1 then send g (setNg p (fun t => { t with q1 := gs, cr1 := t.cr1 - 1 }) s) else s
          | [] => s
      | [], g :: gs => if 0 < t.cr1 then send g (setNg p (fun t => { t with q1 := gs, cr1 := t.cr1 - 1 }) s) else s
      | [], [] => s

def pumpAll (p : Nat) (s : State) : State :=
  let t := smAt p s.ng
  pump p (t.q0.length + t.q1.length) s

/-- Queue flits for sending. -/
def enqueue (p : Nat) (fs : List Flit) (s : State) : State :=
  pumpAll p (setNg p (fun t => { t with
    q0 := t.q0 ++ fs.filter (fun f => !onVc1 f.type), q1 := t.q1 ++ fs.filter (fun f => onVc1 f.type) }) s)

/-- IDLE flits fill the link when nothing is ready; they return the credits that are left (R274). They are no reply
that R272 waits for. (DEDUCED: log entry 59) -/
def ngIdle (p : Nat) (s : State) : State :=
  let t := smAt p s.ng
  if ngActive p s && (t.freed0 ≠ 0 || t.freed1 ≠ 0) then
    setNg p (fun u => { u with ackDue := t.ackDue }) (ngEmit p (linkFlit 0 s) s)
  else s

def ngIdleAll (s : State) : State := (List.range 3).foldl (fun s p => ngIdle p s) s

/-! ## Link state (R270, R273, R301) -/

/-- A training attempt begins. -/
def ngTrain (p : Nat) (s : State) : State :=
  setNg p (fun t => { t with st := 1, phase := 1, startClk := s.clk, trainRx := 0, trainTx := 0 }) s

/-- The link is taken down: flits and the picture being sent are dropped, pictures it carried are abandoned.
(DEDUCED: log entry 60) -/
def ngDown (p : Nat) (s : State) : State :=
  let t := smAt p s.ng
  let s := match t.tx with
    | some (_, b) => setMark b (mkHoldNg p) false s
    | none => s
  let s := setNg p (fun _ => {}) s
  let s := s.duty.foldl (fun s d => setDuty d.1 (fun u => { u with todo := u.todo.filter (· ≠ p) }) s) s
  let s := if t.st = 2 then raiseBit (pNg p) 1 s else s
  rxAbandonIf (fun _ x => x.port = some p) s

/-- Down, and up again while LINK_EN = 1. -/
def ngRestart (p : Nat) (s : State) : State :=
  let s := ngDown p s
  if s.rb (pNg p) 0x040 0 && s.enabled (pNg p) then ngTrain p s else s

/-- A give-up (R273). (DEDUCED: log entry 60) -/
def giveUp (p : Nat) (s : State) : State :=
  ngRestart p (raise (pNg p) 6 (s.bump (pNg p) 0x054))

/-- A training attempt fails: 1 ms in WAIT (R270). -/
def trainFails (p : Nat) (s : State) : State :=
  let s := setNg p (fun _ => { st := 3, waitClk := s.clk }) s
  raiseBit (pNg p) 3 ((s.setFld (pNg p) 0x040 1 1 0).bump (pNg p) 0x060)

/-- The TRAIN flit of this port (R271). (DEDUCED: log entry 59) -/
def trainFlit (p : Nat) (s : State) : Flit :=
  { linkFlit 3 s with
    payload := takeBytes 236 (leBytes 2 (ownId s) ++ leBytes 1 (ownTag s) ++ leBytes 1 p ++ [1, 32, 224]) }

/-- Phase 5: ACTIVE (R270, R271). -/
def ngUp (p : Nat) (s : State) : State :=
  let t := smAt p s.ng
  let s := setNg p (fun _ => { st := 2, train := t.train, cr0 := t.train.buf0, cr1 := t.train.buf1 }) s
  raiseBit (pNg p) 0 (s.setFld (pNg p) 0x040 1 1 0)

/-- NG_TRAIN_PHASE_DONE: the condition of a phase holds (R270). -/
def execNgTrainPhaseDone (p : Fin 3) (s : State) : Host.Outcome State Fault Refusal :=
  let p := p.val
  let t := smAt p s.ng
  .next (whenClocked s (if t.st ≠ 1 || !lanesLive s then s
    else if t.phase < 3 then setNg p (fun t => { t with phase := t.phase + 1 }) s
    else if t.phase = 3 then ngEmit p (trainFlit p s) (setNg p (fun t => { t with phase := 4 }) s)
    else if 3 ≤ t.trainRx && 3 ≤ t.trainTx then ngUp p s
    else s))

/-- NG_TRAIN_TIMEOUT: 10 ms without ACTIVE (R270). -/
def execNgTrainTimeout (p : Fin 3) (s : State) : Host.Outcome State Fault Refusal :=
  let t := smAt p.val s.ng
  .next (whenClocked s (if t.st = 1 && t.startClk + 5000000 ≤ s.clk then trainFails p.val s else s))

/-- NG_TRAIN_RETRY: 1 ms of WAIT has passed (R270). -/
def execNgTrainRetry (p : Fin 3) (s : State) : Host.Outcome State Fault Refusal :=
  let t := smAt p.val s.ng
  .next (whenClocked s (if t.st = 3 && t.waitClk + 500000 ≤ s.clk && lanesLive s then ngTrain p.val s else s))

/-! ## Acknowledgement and replay (R272, R273) -/

/-- A number is at or before another, modulo 2¹⁶. -/
def seqLe (a b : Nat) : Bool := (b + 65536 - a) % 65536 < 32768

/-- The partner's ACK releases held flits; replays end once it passes the flit that caused them.
(DEDUCED: log entry 59) -/
def takeAck (p a : Nat) (s : State) : State :=
  setNg p (fun t => { t with
    held := t.held.filter fun h => !seqLe h.1.seq a
    replay := match t.replay with
      | some (c, seq, n) => if seqLe seq a then none else some (c, seq, n)
      | none => none }) s

/-- A replay of every held flit; one too many is a give-up. -/
def startReplay (p : Nat) (s : State) : State :=
  let t := smAt p s.ng
  match t.held with
  | [] => s
  | (h, _) :: _ =>
    let (first, cause, n) := t.replay.getD (s.clk, h.seq, 0)
    if !lanesLive s then s
    else if s.rf (pNg p) 0x04C 11 8 ≤ n then giveUp p s
    else
      let s := setNg p (fun t => { t with
        replay := some (first, cause, n + 1), held := t.held.map fun e => (e.1, s.clk) }) s
      t.held.foldl (fun s e => ngEmit p e.1 s) (s.bump (pNg p) 0x050)

/-- NG_REPLAY_TIMEOUT: the oldest held flit has waited 2 µs. -/
def execNgReplayTimeout (p : Fin 3) (s : State) : Host.Outcome State Fault Refusal :=
  .next (whenClocked s (match (smAt p.val s.ng).held with
    | (_, c) :: _ => if c + 1000 ≤ s.clk then startReplay p.val s else s
    | [] => s))

/-- NG_GIVE_UP: BUDGET_US has passed since the first replay. -/
def execNgGiveUp (p : Fin 3) (s : State) : Host.Outcome State Fault Refusal :=
  .next (whenClocked s (match (smAt p.val s.ng).replay with
    | some (c, _, _) => if c + s.rf (pNg p.val) 0x04C 7 0 * 500 ≤ s.clk then giveUp p.val s else s
    | none => s))

/-- NG_BLOCK_LOCK_LOSS: treated as a give-up. -/
def execNgBlockLockLoss (p : Fin 3) (s : State) : Host.Outcome State Fault Refusal :=
  .next (whenClocked s (if (smAt p.val s.ng).st = 2 then giveUp p.val s else s))

/-- NG_ACK_SEND: nothing else was sent within 256 ns of an ACK advance. -/
def execNgAckSend (p : Fin 3) (s : State) : Host.Outcome State Fault Refusal :=
  let t := smAt p.val s.ng
  .next (whenClocked s (match t.ackDue with
    | some c => if ngActive p.val s && c + 128 ≤ s.clk then ngEmit p.val (linkFlit 1 s) s else s
    | none => s))

/-! ## Receiving (R268, R269, R272, R275) -/

/-- A flit with an unexpected SEQ or a bad CRC is answered with one LINK_NAK until the expected one comes. -/
def nak (p : Nat) (s : State) : State :=
  if (smAt p s.ng).naking then s
  else ngEmit p (linkFlit 2 s) (setNg p (fun t => { t with naking := true }) s)

/-- The ports that a flit is forwarded to (R275, step 4). -/
def forwardPorts (p : Nat) (f : Flit) (s : State) : List Nat :=
  if f.dst = ownId s || f.hops ≤ 1 then []
  else (List.range 3).filter fun q => q ≠ p && s.rb (pNg p) 0x048 q && ngActive q s

/-- A flit whose DST is reserved. -/
def dstReserved (f : Flit) : Bool := f.dst = 0 || f.dst = 0xFFFE

/-- A bad flit was forwarded before its CRC arrived: its copies are stomped (R269). (DEDUCED: log entry 59) -/
def forwardStomped (p : Nat) (f : Flit) (s : State) : State :=
  let t := smAt p s.ng
  if !sequenced f.type || f.seq ≠ (t.rxSeq + 1) % 65536 || f.orig = ownId s || dstReserved f then s
  else (forwardPorts p f s).foldl (fun s q =>
    let u := smAt q s.ng
    let busy := if onVc1 f.type then !u.q1.isEmpty || u.cr1 = 0 else !u.q0.isEmpty || u.cr0 = 0
    if busy || 1024 ≤ u.held.length then s
    else ngEmit q { f with hops := f.hops - 1, seq := (u.txSeq + 1) % 65536, crc := .stomped } s) s

/-- The link's handling of a flit: whether it is taken, and the state; while training, bad CRCs are counted (R269,
R272). -/
def linkRx (p : Nat) (f : Flit) (s : State) : Bool × State :=
  let t := smAt p s.ng
  if !lanesLive s then (false, s)
  else if t.st ≠ 2 then
    (false, if t.st ≠ 1 || t.phase ≠ 4 then s
      else match f.crc with
      | .bad => s.bump (pNg p) 0x058
      | .stomped => s.bump (pNg p) 0x05C
      | .good => s)
  else
    match f.crc with
    | .bad => (false, nak p (forwardStomped p f (s.bump (pNg p) 0x058)))
    | .stomped => (false, forwardStomped p f (s.bump (pNg p) 0x05C))
    | .good =>
      let s := takeAck p f.ack s
      let s := setNg p (fun t => { t with cr0 := t.cr0 + f.credit0, cr1 := t.cr1 + f.credit1 }) s
      let s := pumpAll p s
      if !knownType f.type then (false, s.bump (pNg p) 0x064)
      else if !sequenced f.type then (true, s)
      else if f.seq = (t.rxSeq + 1) % 65536 then
        let v := onVc1 f.type
        (true, setNg p (fun t => { t with
          rxSeq := f.seq, naking := false, ackDue := some (t.ackDue.getD s.clk)
          freed0 := t.freed0 + b2n !v, freed1 := t.freed1 + b2n v }) s)
      else (false, nak p s)

/-- NG_CRC_ERROR: a flit of any type with a bad CRC that is not stomped (R269, R272). -/
def execNgCrcError (p : Fin 3) (f : Flit) (s : State) : Host.Outcome State Fault Refusal :=
  .next (whenClocked s (linkRx p.val { f with crc := .bad } s).2)

/-! ## Sending pictures (R279) -/

/-- NG_PIC_SEND_END: the last flit of the picture has been sent. -/
def execNgPicSendEnd (p : Fin 3) (s : State) : Host.Outcome State Fault Refusal :=
  let p := p.val
  let t := smAt p s.ng
  .next (whenClocked s (match t.tx with
    | some (_, b) =>
      if t.q1.any fun f => f.orig = ownId s then s
      else setMark b (mkHoldNg p) false (setNg p (fun t => { t with tx := none }) s)
    | none => s))

/-! ## Timeouts of pictures, history and gates (R282, R283, R288) -/

/-- NG_PIC_TIMEOUT: 100 ms after PIC_START without PIC_END. -/
def execNgPicTimeout (c : Fin 128) (s : State) : Host.Outcome State Fault Refusal :=
  .next (whenClocked s (match smGet c.val s.rx with
    | some x => if x.startClk + 50000000 ≤ s.clk then rxAbandon c.val s else s
    | none => s))

/-- PIC_HISTORY_FORGET. -/
def execPicHistoryForget (orig stream : Nat) (s : State) : Host.Outcome State Fault Refusal :=
  .next (whenClocked s { s with hist := s.hist.filter fun h =>
    !(h.orig = orig && h.stream = stream && h.clk + gateHold s ≤ s.clk) })

/-- GATE_RELEASE: the hold window has passed. -/
def execGateRelease (c : Fin 128) (s : State) : Host.Outcome State Fault Refusal :=
  .next (whenClocked s (if gateExpired (smAt c.val s.gate) s then
    setGate c.val (fun g => { g with claim := 0, orig := 0 }) s else s))

/-! ## The port pages (R300 to R302) -/

/-- The largest BUDGET_US of the three ports, with `v` in place of port `p`'s. -/
def maxBudget (p : Nat) (v : Nat) (s : State) : Nat :=
  (List.range 3).foldl (fun a q => max a (if q = p then v else s.rf (pNg q) 0x04C 7 0)) 0

def ngCheck (p off : Nat) (v : Word) (s : State) : Verdict :=
  match off with
  | 0x040 =>
    if (bit v 1 && !bit v 0) || (bit v 0 && ownId s = 0) then .err 0x42 else .ok
  | 0x04C =>
    if fld v 11 8 < 1 || 4 < fld v 11 8 || fld v 7 0 < 4 || 12 < fld v 7 0 then .err 0x40
    else if s.rf pKib 0x044 31 16 < 100 * maxBudget p (fld v 7 0) s then .err 0x41
    else .ok
  | _ => .ok

/-- LINK_EN or RETRAIN has been written; `was` is LINK_EN before. -/
def ngCtrlEffect (p : Nat) (v : Word) (was : Bool) (s : State) : State :=
  if !bit v 0 then (ngDown p s).setFld (pNg p) 0x040 1 1 0
  else if !s.enabled (pNg p) then s
  else if bit v 1 then ngTrain p (ngDown p s)
  else if !was then ngTrain p s
  else s

def ngWrite (m : Master) (p off : Nat) (v : Word) (s : State) : State :=
  let was := s.rb (pNg p) 0x040 0
  regCommand m (pNg p) off v (ngCheck p off v)
    (fun s => if off = 0x040 then ngCtrlEffect p v was s else s) s

/-- The page is enabled or disabled (R17). -/
def ngEnable (p : Nat) (s : State) : State := if s.rb (pNg p) 0x040 0 then ngTrain p s else s

def ngDisable (p : Nat) (s : State) : State := ngDown p s

/-- NG_LINK_ENABLE: a write of LINK_EN = 1 (R270). -/
def execNgLinkEnable (m : Master) (p : Fin 3) (s : State) : Host.Outcome State Fault Refusal :=
  .next (issue m .write (pNg p.val) 0x040 (ngWrite m p.val 0x040 1) s)

/-- NG_RETRAIN: a write of RETRAIN = 1, LINK_EN as it is (R301). -/
def execNgRetrain (m : Master) (p : Fin 3) (s : State) : Host.Outcome State Fault Refusal :=
  .next (issue m .write (pNg p.val) 0x040
    (fun s => ngWrite m p.val 0x040 ((s.reg (pNg p.val) 0x040 &&& 1) ||| 2) s) s)

/-- A read of a port page. -/
def ngRead (p off : Nat) (s : State) : Word × State :=
  if off = 0x044 then
    let t := smAt p s.ng
    (if t.st = 2 then BitVec.ofNat 32 (t.train.device * 65536 + t.train.port % 4 * 16384 + 2)
      else BitVec.ofNat 32 (3 * 16384 + t.st), s)
  else (s.reg (pNg p) off, s)

end Sys2Proof.Machine
end

