-- ==== Sys2Proof/Machine/Kibiter.lean ====
section
/-! DEFINITION. The Kibiter: heartbeats and claim notices sent, peers, duty states, takeover, and the KIB page (R289
to R300, R303 to R305). -/

namespace Sys2Proof.Machine

def setKib (f : KibSt → KibSt) (s : State) : State := { s with kib := f s.kib }

def kibMaster : Master := .kib

/-- KIB_STAT.STATE: what is sent; 0 while KIB sends nothing, as it does during entry to WATCH (R290, R299, R440). -/
def kibState (s : State) : Nat :=
  if !s.enabled pKib || watchPending s then 0
  else if s.dev = devBoot then 1
  else if s.dev = devRun then 2
  else if s.dev = devWithdrawn then 3
  else 0

/-! ## Events of duties (R303) -/

def dutyEvent (d i : Nat) (s : State) : State :=
  let s := s.setRegAt pKib 0x114 d (s.regAt pKib 0x114 d ||| bitW i)
  if bit (s.regAt pKib 0x118 d) i then raiseBit pKib 0 s else s

/-- KIB_EVT_PEND word `i`. -/
def kibPend (i : Nat) (s : State) : Word :=
  BitVec.ofNat 32 ((List.range 32).foldl (fun n b =>
    n + b2n (s.regAt pKib 0x114 (32 * i + b) &&& s.regAt pKib 0x118 (32 * i + b) ≠ 0) * 2 ^ b) 0)

/-- A duty's claim or state has changed: a notice is due (R289). -/
def claimChanged (d : Nat) (s : State) : State :=
  setKib (fun k => { k with due := true, changed := if k.changed.contains d then k.changed else k.changed ++ [d] }) s

/-! ## Messages (R290 to R292) -/

def msgBytes (type q page pages : Nat) (entries : List (Nat × Nat)) (s : State) : List Byte :=
  let body := leBytes 1 type ++ [1] ++ leBytes 2 (24 + 4 * entries.length) ++ leBytes 2 (ownId s)
    ++ leBytes 1 (kibState s) ++ leBytes 1 (b2n (traceable s)) ++ leBytes 4 q ++ leBytes 1 s.tm.epoch
    ++ leBytes 1 page ++ leBytes 1 pages ++ leBytes 1 entries.length ++ leBytes 1 (ownTag s) ++ [0, 0, 0]
    ++ entries.flatMap fun e => leBytes 2 e.1 ++ leBytes 2 e.2
  body ++ leBytes 4 (crc32c body).toNat

/-- The Ethernet frame of the NET path (R291). -/
def kibFrame (msg : List Byte) (s : State) : List Byte :=
  let cfg := s.reg pKib 0x05C
  let tag := if bit cfg 12 then beBytes 2 0x8100 ++ beBytes 2 (fld cfg 11 0) else []
  beBytes 2 (s.rf pKib 0x058 15 0) ++ beBytes 4 (s.reg pKib 0x054).toNat
    ++ beBytes 2 (s.rf (pEth 0) 0x048 15 0) ++ beBytes 4 (s.reg (pEth 0) 0x044).toNat
    ++ tag ++ beBytes 2 (fld cfg 31 16) ++ msg ++ List.replicate (46 - msg.length) 0

/-- A message goes out on every enabled path (R289). -/
def kibSend (msg : List Byte) (s : State) : State :=
  let paths := s.reg pKib 0x048
  let s :=
    if bit paths 0 then
      ((List.range 3).filter fun p => bit paths (3 + p) && ngActive p s).foldl (fun s p =>
        enqueue p [ownFlit 0x20 msg s] s) s
    else s
  let s := if bit paths 1 then (sendPrp kibMaster (kibFrame msg s) s).2 else s
  if bit paths 2 then s.emit (.tether (List.replicate 7 0x55 ++ [0xD5] ++ msg)) else s

/-- The claim list: the duties that are not OFF, in ascending order; in WITHDRAWN claim 0 for those that were
not (R290, R299). (DEDUCED: log entry 62) -/
def claimList (s : State) : List (Nat × Nat) :=
  if s.dev = devWithdrawn then s.kib.gone.map fun d => (dutyStream d s, 0)
  else ((List.range 128).filter fun d => dutyRole d s ≠ 0).map fun d => (dutyStream d s, dutyClaim d s)

/-- The index of the latest heartbeat instant (R289). -/
def hbIndex (s : State) : Nat :=
  let ns := s.tm.now / 2 ^ 40
  (ns + 1000000 - s.rf pKib 0x044 9 0 * 1000) / 1000000

/-- KIB_HEARTBEAT_SEND (R289). -/
def execKibHeartbeatSend (s : State) : Host.Outcome State Fault Refusal :=
  let i := hbIndex s
  .next (whenClocked s (if kibState s = 0 || i = s.kib.slot then s
    else
      let q := (s.reg pKib 0x064).toNat + 1
      let s := (setKib (fun k => { k with slot := i }) s).setReg pKib 0x064 (BitVec.ofNat 32 q)
      let list := claimList s
      let pages := roundUp list.length 32
      let page := if pages = 0 then 0 else q % 2 ^ 32 % pages
      kibSend (msgBytes 1 (q % 2 ^ 32) page pages ((list.drop (32 * page)).take 32) s) s))

/-- KIB_CLAIM_NOTICE_SEND: the changed entries, at most 32 to a notice (R289). -/
def execKibClaimNoticeSend (s : State) : Host.Outcome State Fault Refusal :=
  .next (whenClocked s (if kibState s = 0 || !s.kib.due then s
    else
      let now := s.kib.changed.take 32
      let rest := s.kib.changed.drop 32
      let s := setKib (fun k => { k with changed := rest, due := !rest.isEmpty }) s
      let es := now.map fun d => (dutyStream d s, dutyClaim d s)
      kibSend (msgBytes 2 (s.reg pKib 0x064).toNat 0xFF 0xFF es s) s))

/-! ## Duty states (R294 to R296) -/

/-- The enabled paths. -/
def kibPaths (s : State) : List Nat := (List.range 3).filter fun i => s.rb pKib 0x048 i

def peerOf (id : Nat) (s : State) : Option Peer := s.kib.peers.find? fun p => p.id = id

/-- Enabled paths on which a duty's partner is alive. -/
def partnerAlive (d : Nat) (s : State) : Nat :=
  match peerOf (s.rfAt pKib 0x104 d 15 0) s with
  | none => 0
  | some p => ((kibPaths s).filter fun i => p.alive.contains i).length

def kibNeed (s : State) : Nat := s.rf pKib 0x048 7 6

/-- KIB_DUTY_STAT.LAST_SEEN (R294). -/
def lastSeen (d : Nat) (s : State) : Nat := smRead (fun _ => 0) (dutyStream d s) (smAt d s.duty).seen

/-- ROLE of a duty changes. -/
def setRole (d role : Nat) (s : State) : State :=
  let s := s.setFldAt pKib 0x108 d 1 0 role
  claimChanged d (setDuty d (fun t => { t with standby := false }) s)

/-- A takeover (R295). -/
def takeOver (bus : Bus) (d : Nat) (s : State) : State :=
  let claim := min (max (lastSeen d s) 1 + 1) 0xFFFE
  let s := setRole d 2 (s.setFldAt pKib 0x108 d 31 16 claim)
  let s := dutyEvent d 0 (s.bumpAt pKib 0x11C d 1)
  let s := if claim = 0xFFFE then dutyEvent d 4 s else s
  match newestBuf (dutyCtx d s) s with
  | some b => if dutySends d s then dutyOffer bus d b s else s
  | none => s

/-- SYNCING becomes STANDBY once the partner is heard on NEED paths; a STANDBY duty with AUTO takes over when its
partner is not alive on NEED of the enabled paths, so that one failed path of two does not suffice (R294, R295, R300).
(DEDUCED: log entry 62) -/
def evalDuty (bus : Bus) (d : Nat) (s : State) : State :=
  let t := smAt d s.duty
  if dutyRole d s ≠ 1 || s.dev = devWithdrawn || !s.enabled pKib then s
  else if !t.standby then
    if t.heard && kibNeed s ≤ partnerAlive d s then
      dutyEvent d 2 (claimChanged d (setDuty d (fun t => { t with standby := true }) s))
    else s
  else if bit (s.regAt pKib 0x108 d) 8 && kibNeed s + partnerAlive d s ≤ (kibPaths s).length then takeOver bus d s
  else s

def evalDuties (bus : Bus) (s : State) : State := dropTodo ((List.range 128).foldl (fun s d => evalDuty bus d s) s)

/-! ## Peers and paths (R293) -/

def setPeer (i : Nat) (f : Peer → Peer) (s : State) : State :=
  setKib (fun k => { k with peers := k.peers.modify i f }) s

def peerAt (i : Nat) (s : State) : Peer := s.kib.peers.getD i {}

/-- KIB_RESYNC_DONE: KIB has been enabled for KIB_RESYNC.MS (R298). -/
def execKibResyncDone (s : State) : Host.Outcome State Fault Refusal :=
  .next (whenClocked s (if s.enabled pKib && s.kib.enabledAt + s.rf pKib 0x050 15 0 * 500000 ≤ s.clk then
    setKib (fun k => { k with synced := true }) s else s))

/-! ## The page (R297, R298, R300, R303, R304) -/

/-- Paths that a value of KIB_HB_PATHS enables. -/
def pathsIn (v : Word) : Nat := b2n (bit v 0) + b2n (bit v 1) + b2n (bit v 2)

/-- Why a write of KIB_DUTY_ROLE is refused (R298, R304). (DEDUCED: log entry 62) -/
def roleCheck (d : Nat) (v : Word) (s : State) : Verdict :=
  let role := fld v 1 0
  let claim := fld v 31 16
  let cfg := s.regAt pKib 0x100 d
  let kind := ctxKind (fld cfg 6 0) s
  if role = 3 || (role = 2 && (claim < 2 || claim = 0xFFFF)) then .err 0x40
  else if role = 2 && !s.kib.synced then .err 0x42
  else if role = 2 && 2 ≤ lastSeen d s then .err 0x43
  else if role ≠ 0 && (fld cfg 31 16 = 0 || fld cfg 15 13 = 0 || !(kind = kindIp || kind = kindDp)
      || (List.range 128).any fun e => e ≠ d && dutyRole e s ≠ 0 && dutyStream e s = fld cfg 31 16) then .err 0x44
  else .ok

/-- Why a command is refused (R297, R298). (DEDUCED: log entry 62) -/
def cmdCheck (d : Nat) (v : Word) (s : State) : Verdict :=
  let st := dutyState d s
  match fld v 2 0 with
  | 1 => if st ≠ 1 && st ≠ 2 then .err 0x40 else if !s.kib.synced then .err 0x42 else .ok
  | 2 => if st = 3 || st = 4 then .ok else .err 0x40
  | 3 => if 1 ≤ st && st ≤ 3 then .ok else .err 0x40
  | 4 => if st = 4 then .ok else .err 0x40
  | _ => .err 0x40

def kibCheck (m : Master) (off : Nat) (v : Word) (s : State) : Verdict :=
  let d := s.rfAt pKib 0x070 (masterId m) 6 0
  if s.dev = devWithdrawn && off ≠ 0x114 then .err 0x45
  else
    match off with
    | 0x040 =>
      if s.enabled pKib || (List.range 3).any (fun p => s.rb (pNg p) 0x040 0) then .err 0x46
      else if fld v 15 0 = 0 || 0xFFFD < fld v 15 0 then .err 0x40 else .ok
    | 0x044 =>
      let t := fld v 31 16
      if t < 400 || 999 < fld v 9 0 then .err 0x40
      else if t < 100 * maxBudget 3 0 s || s.rf pKib 0x04C 15 0 * 1000 < 10 * t then .err 0x41
      else .ok
    | 0x048 => if fld v 7 6 < 2 || pathsIn v < fld v 7 6 then .err 0x40 else .ok
    | 0x04C =>
      if fld v 15 0 < 100 || 60000 < fld v 15 0 then .err 0x40
      else if fld v 15 0 * 1000 < 10 * s.rf pKib 0x044 31 16 then .err 0x41
      else .ok
    | 0x050 => if fld v 15 0 < 10 || 10000 < fld v 15 0 then .err 0x40 else .ok
    | 0x100 | 0x104 => if dutyRole d s ≠ 0 then .err 0x47 else .ok
    | 0x108 => roleCheck d v s
    | 0x10C => cmdCheck d v s
    | _ => .ok

/-- A command takes effect (R297). -/
def cmdEffect (bus : Bus) (d : Nat) (v : Word) (s : State) : State :=
  match fld v 2 0 with
  | 1 => takeOver bus d s
  | 2 => setRole d 1 s
  | 3 => setRole d 2 (s.setFldAt pKib 0x108 d 31 16 0xFFFF)
  | 4 => claimChanged d (s.setFldAt pKib 0x108 d 31 16 0xFFFE)
  | _ => s

def kibEffect (bus : Bus) (m : Master) (off : Nat) (v : Word) (s : State) : State :=
  let d := s.rfAt pKib 0x070 (masterId m) 6 0
  match off with
  | 0x044 => setKib (fun k => { k with slot := hbIndex s }) (evalDuties bus s)
  | 0x048 | 0x104 => evalDuties bus s
  | 0x108 =>
    evalDuties bus (claimChanged d (setDuty d (fun t => { t with
      seen := [], heard := false, standby := false }) s))
  | 0x10C => evalDuties bus (cmdEffect bus d v s)
  | 0x118 => if s.regAt pKib 0x114 d &&& v &&& 0x1F#32 ≠ 0 then raiseBit pKib 0 s else s
  | _ => s

/-- A write to a block-specific register of the KIB page. -/
def kibWrite (bus : Bus) (m : Master) (off : Nat) (v : Word) (s : State) : State :=
  regCommand m pKib off v (kibCheck m off v) (kibEffect bus m off v) s

/-- KIB is enabled: the resynchronisation begins (R298). -/
def kibEnable (s : State) : State :=
  setKib (fun k => { k with enabledAt := s.clk, synced := false, slot := hbIndex s, due := true }) s

/-- KIB is disabled (R17). -/
def kibDisable (s : State) : State :=
  dropTodo (setKib (fun k => { k with synced := false, changed := [], due := false }) s)

/-- A read of the KIB page; reading a counter clears it. -/
def kibRead (m : Master) (off : Nat) (s : State) : Word × State :=
  let id := masterId m
  let d := s.rfAt pKib 0x070 id 6 0
  let i := s.rfAt pKib 0x074 id 5 0
  let c := s.rfAt pKib 0x078 id 6 0
  let used : Bool := i < s.kib.peers.length
  let p := peerAt i s
  match off with
  | 0x040 => (putFld (s.reg pKib off) 31 24 (ownTag s), s)
  | 0x060 => (BitVec.ofNat 32 (b2n s.kib.synced * 4 + kibState s), s)
  | 0x080 | 0x084 | 0x088 | 0x08C => (kibPend ((off - 0x080) / 4) s, s)
  | 0x110 =>
    let alive := match peerOf (s.rfAt pKib 0x104 d 15 0) s with
      | some q => (List.range 3).foldl (fun n k => n + b2n (q.alive.contains k) * 2 ^ k) 0
      | none => 0
    (BitVec.ofNat 32 (lastSeen d s * 65536 + alive * 16 + dutyState d s), s)
  | 0x140 => (BitVec.ofNat 32 (b2n used * 2 ^ 31 + p.state * 65536 + p.id), s)
  | 0x144 => (BitVec.ofNat 32 (p.alive.foldl (fun n k => n + 2 ^ k) 0), s)
  | 0x148 => (BitVec.ofNat 32 p.seq, s)
  | 0x14C =>
    if used then (BitVec.ofNat 32 p.miss, setPeer i (fun p => { p with miss := 0 }) s)
    else (BitVec.ofNat 32 s.kib.bad, setKib (fun k => { k with bad := 0 }) s)
  | 0x180 =>
    let (claim, orig) := gateClaim c s
    (BitVec.ofNat 32 (claim * 65536 + orig), s)
  | 0x184 =>
    (match (smAt c s.gate).last with
      | some t => satW ((s.clk - t) / 500)
      | none => 0xFFFFFFFF, s)
  | _ =>
    match findRow pKib off with
    | some r => (s.regAt pKib off (winIdx r.win m s), s)
    | none => (0, s)

end Sys2Proof.Machine
end

