-- ==== Sys2Proof/Machine/Ecdsa.lean ====
section
/-! DEFINITION. The verification of ECDSA signatures on P-384 (R422, R469), as its standard defines it. -/

namespace Sys2Proof.Machine

/-- The field prime, the order of the base point, the constant of the curve y² = x³ − 3x + b, and the base point. -/
def ecP : Nat := 2 ^ 384 - 2 ^ 128 - 2 ^ 96 + 2 ^ 32 - 1

def ecN : Nat :=
  0xFFFFFFFFFFFFFFFFFFFFFFFFFFFFFFFFFFFFFFFFFFFFFFFFC7634D81F4372DDF581A0DB248B0A77AECEC196ACCC52973

def ecB : Nat :=
  0xB3312FA7E23EE7E4988E056BE3F82D19181D9C6EFE8141120314088F5013875AC656398D8A2ED19D2A85C8EDD3EC2AEF

def ecGx : Nat :=
  0xAA87CA22BE8B05378EB1C71EF320AD746E1D3B628BA79B9859F741E082542A385502F25DBF55296C3A545E3872760AB7

def ecGy : Nat :=
  0x3617DE4A96262C6F5D9E98BF9292DC29F8F41DBD289A147CE9DA3113B5F0B8C00A60B1CE1D7E819D7A431D7C90EA0E5F

/-- `x` to the power `e` below 2³⁸⁴, modulo `n`. -/
def powMod (n x e : Nat) : Nat :=
  (List.range 384).foldr (fun i t => let sq := t * t % n; if e.testBit i then sq * x % n else sq) 1

/-- A point in Jacobian coordinates; `z = 0` is the point at infinity. -/
structure EcPoint where
  x : Nat
  y : Nat
  z : Nat

def ecZero : EcPoint := { x := 1, y := 1, z := 0 }

/-- A difference in the field. -/
def ecSub (x y : Nat) : Nat := (x + ecP - y) % ecP

def ecDouble (q : EcPoint) : EcPoint :=
  let yy := q.y * q.y % ecP
  let zz := q.z * q.z % ecP
  let s := 4 * q.x * yy % ecP
  let m := 3 * (ecSub q.x zz * (q.x + zz)) % ecP
  let x := ecSub (m * m % ecP) (2 * s % ecP)
  { x, y := ecSub (m * ecSub s x % ecP) (8 * yy * yy % ecP), z := 2 * q.y * q.z % ecP }

def ecAdd (q r : EcPoint) : EcPoint :=
  if q.z = 0 then r
  else if r.z = 0 then q
  else
    let qz := q.z * q.z % ecP
    let rz := r.z * r.z % ecP
    let u1 := q.x * rz % ecP
    let u2 := r.x * qz % ecP
    let s1 := q.y * rz * r.z % ecP
    let s2 := r.y * qz * q.z % ecP
    if u1 = u2 then (if s1 = s2 then ecDouble q else ecZero)
    else
      let h := ecSub u2 u1
      let w := ecSub s2 s1
      let hh := h * h % ecP
      let hhh := hh * h % ecP
      let v := u1 * hh % ecP
      let x := ecSub (w * w % ecP) ((hhh + 2 * v) % ecP)
      { x, y := ecSub (w * ecSub v x % ecP) (s1 * hhh % ecP), z := q.z * r.z * h % ecP }

/-- A multiple of a point. -/
def ecMul (k : Nat) (q : EcPoint) : EcPoint :=
  (List.range 384).foldr (fun i t => let d := ecDouble t; if k.testBit i then ecAdd d q else d) ecZero

/-- The point of an uncompressed encoding; none where it is no point of the curve. -/
def ecDecode (pubkey : List Byte) : Option EcPoint :=
  let x := beNat ((pubkey.drop 1).take 48)
  let y := beNat (pubkey.drop 49)
  if pubkey.length = 97 && pubkey.head? = some 4 && x < ecP && y < ecP
    && y * y % ecP = ecSub ((x * x * x + ecB) % ecP) (3 * x % ecP)
  then some { x, y, z := 1 } else none

/-- The signature r ∥ s of a hash verifies under a public key (R422, R469). (PRESUMED: log entry 9) -/
@[irreducible] def ecdsaP384 (pubkey hash sig : List Byte) : Bool :=
  let r := beNat (sig.take 48)
  let t := beNat (sig.drop 48)
  match ecDecode pubkey with
  | none => false
  | some q =>
    sig.length = 96 && 0 < r && r < ecN && 0 < t && t < ecN &&
      (let w := powMod ecN t (ecN - 2)
       let sum := ecAdd (ecMul (beNat hash * w % ecN) { x := ecGx, y := ecGy, z := 1 }) (ecMul (r * w % ecN) q)
       sum.z ≠ 0 && (let i := powMod ecP sum.z (ecP - 2); sum.x * (i * i % ecP) % ecP % ecN = r))

end Sys2Proof.Machine
end

