-- ==== Sys2Proof/Machine/Ingest.lean ====
section
/-! DEFINITION. Access units in the jitter buffers: their NAL units, and their release (R111, R112). -/

namespace Sys2Proof.Machine

/-! ## Matching (R108, R110) -/

def addrOff (i r : Nat) : Nat := 0x100 + 0x20 * i + r

/-- A datagram bears the destination of an address entry. -/
def addrMatch (i : Nat) (vlan : Option Nat) (d : Udp) (s : State) : Bool :=
  let cfg := s.reg pIng (addrOff i 0)
  let w := fun k => s.reg pIng (addrOff i (4 + 4 * k))
  bit cfg 0 && bit cfg 1 = d.ipv6
    && (match vlan with
      | some v => bit cfg 2 && fld cfg 27 16 = v
      | none => !bit cfg 2)
    && d.dst = (if d.ipv6 then [w 0, w 1, w 2, w 3] else [w 0])

/-! ## Payload structures (R111) -/

/-- The NAL units of an aggregation, each after its size. -/
def splitAggregate : Nat → List Byte → List (List Byte)
  | 0, _ => []
  | n + 1, b =>
    let k := beAt b 0 2
    if k = 0 || b.length < 2 + k then [] else (b.drop 2).take k :: splitAggregate n (b.drop (2 + k))

/-- The NAL units of a packet that is no fragment (R111). (PRESUMED: log entry 100) -/
def wholeNals (h265 : Bool) (b : List Byte) : List (List Byte) :=
  if h265 then (if octet b 0 / 2 % 64 = 48 then splitAggregate b.length (b.drop 2) else [b])
  else if octet b 0 % 32 = 24 then splitAggregate b.length (b.drop 1) else [b]

/-- The header of the NAL unit that a fragment belongs to, and the fragment's data (R111).
(PRESUMED: log entry 100) -/
def fragmentOf (h265 : Bool) (b : List Byte) : List Byte × List Byte :=
  if h265 then ([BitVec.ofNat 8 (octet b 0 % 2 + octet b 2 % 64 * 2 + octet b 0 / 128 * 128), b.getD 1 0], b.drop 3)
  else ([BitVec.ofNat 8 (octet b 0 / 32 * 32 + octet b 1 % 32)], b.drop 2)

/-- The NAL units of the packets of an access unit. A fragment whose unit has lost one before it is dropped.
(DEDUCED: log entry 40) -/
def auNals (h265 : Bool) (ps : List JbPkt) : List (List Byte) :=
  (ps.foldl (fun (acc : List (List Byte) × Option Nat) p =>
    let (head, data) := fragmentOf h265 p.payload
    if p.frag = 0 then (acc.1 ++ wholeNals h265 p.payload, none)
    else if p.frag = 1 then (acc.1 ++ [head ++ data], some p.ext)
    else if acc.2 = some (p.ext - 1) then
      (acc.1.dropLast ++ [acc.1.getLastD [] ++ data], some p.ext)
    else (acc.1, none)) ([], none)).1

/-! ## The jitter buffer (R112) -/

/-- The packets of the oldest access unit: up to a marker or a change of timestamp. -/
def headUnit : List JbPkt → List JbPkt
  | [] => []
  | [p] => [p]
  | p :: q :: r => if p.marker || q.ts ≠ p.ts then [p] else p :: headUnit (q :: r)

/-- Sequence numbers without a gap. -/
def unbroken : List JbPkt → Bool
  | p :: q :: r => decide (q.ext = p.ext + 1) && unbroken (q :: r)
  | _ => true

def lastExt (ps : List JbPkt) : Nat := (ps.getLast?.map (·.ext)).getD 0

/-- How the oldest access unit stands: its packets, whether it is complete, whether it has a gap.
(DEDUCED: log entry 40) -/
def headState (t : CtxSt) : List JbPkt × Bool × Bool :=
  let u := headUnit t.jb
  let rest := t.jb.drop u.length
  let first := (u.head?.map (·.ext)).getD 0
  let start : Bool := match t.jbNext with
    | some n => first = n
    | none => true
  let marked := (u.getLast?.map (·.marker)).getD false
  let closed : Bool := marked || match rest.head? with
    | some q => q.ext = lastExt u + 1
    | none => false
  let lostEnd : Bool := !marked && match rest.head? with
    | some q => q.ext ≠ lastExt u + 1
    | none => false
  (u, !u.isEmpty && start && unbroken u && closed, !u.isEmpty && (!start || !unbroken u || lostEnd))

/-- The oldest access unit leaves the buffer, released or discarded. -/
def takeHead (c : Nat) (u : List JbPkt) (dropped : Bool) (s : State) : State :=
  let marked := (u.getLast?.map (·.marker)).getD false
  setCtx c (fun t => { t with
    jb := t.jb.drop u.length, jbNext := some (lastExt u + 1)
    jbLeft := u.head?.map fun p => (p.ts, dropped, !marked) }) s

/-- The oldest access unit is released, or discarded when it, or a NAL unit in it, is too long (R102, R111, R112).
(DEDUCED: log entry 40) -/
def releaseHead (c : Nat) (u : List JbPkt) (s : State) : State :=
  let nals := auNals (ctxH265 c s) u
  let longNal := nals.any fun n => 0x400000 < n.length
  let long : Bool := longNal || 0x800000 < (nals.map List.length).sum
  let s := takeHead c u long s
  if !long then releaseAu c ((u.head?.map (·.ts)).getD 0) nals s
  else
    let s := count c stAuDrop s
    if longNal then ctxEvent c evUnsupported s else s

/-- Release complete access units, in order. -/
def releaseReady (c : Nat) : Nat → State → State
  | 0, s => s
  | n + 1, s =>
    let (u, complete, _) := headState (smAt c s.ctx)
    if complete then releaseReady c n (releaseHead c u s) else s

def releaseAll (c : Nat) (s : State) : State := releaseReady c ((smAt c s.ctx).jb.length) s

/-- JB_GAP_RELEASE: the oldest access unit has a gap and its first packet arrived DELAY_US ago (R112).
(DESIGN CHOICE: log entry 106) -/
def execJbGapRelease (c : Fin 128) (s : State) : Host.Outcome State Fault Refusal :=
  let t := smAt c.val s.ctx
  let (u, _, gap) := headState t
  let arrived := u.foldl (fun a p => min a p.clk) s.clk
  .next (whenClocked s (if gap && arrived + s.rfAt pSrc 0x118 c.val 19 0 * 500 ≤ s.clk then
      let first := t.jbNext.getD ((u.head?.map (·.ext)).getD 0)
      let missing := lastExt u + 1 - first - u.length
      let s := count c.val stAuPart (s.bumpAt pSrc stLost c.val missing)
      releaseAll c.val (releaseHead c.val u s)
    else s))

end Sys2Proof.Machine
end

