-- ==== Sys2Proof/Machine/Ports.lean ====
section
/-! DEFINITION. Ethernet: links, the rings' registers, and the ING, ETA and ETB pages (R84, R85, R106 to R109). -/

namespace Sys2Proof.Machine

def pMge : Nat := 140

/-- The page and the master of a port. -/
def portPage : EthPort → Nat
  | .eta => 135
  | .etb => 136
  | .mge => pMge

/-! ## Duplicate discard (R84, R108) -/

/-- An entry of the duplicate table has not been forgotten. (DEDUCED: log entry 39) -/
def prpLives (s : State) (e : PrpEntry) : Bool := s.clk < e.clk + forgetMs s * 500000

/-- PRP_ENTRY_FORGET (R108). -/
def execPrpEntryForget (s : State) : Host.Outcome State Fault Refusal :=
  .next (whenClocked s { s with net := { s.net with prp := s.net.prp.filter (prpLives s) } })

/-! ## The pages (R106, R108) -/

/-- The check of a write to a ring register. -/
def ringCheck (page off : Nat) (v : Word) (s : State) : Verdict :=
  let size := fun cfg => s.rf page cfg 3 0
  let cfg := fun o => if fld v 3 0 = 0 then Verdict.ok else if size o ≠ 0 then .err 0x40
    else if fld v 3 0 < 4 || 12 < fld v 3 0 then .err 0x41 else .ok
  match off with
  | 0x050 | 0x054 => if size 0x058 ≠ 0 then .err 0x40 else .ok
  | 0x070 | 0x074 => if size 0x078 ≠ 0 then .err 0x40 else .ok
  | 0x058 => cfg 0x058
  | 0x078 => cfg 0x078
  | _ => .ok

/-- A ring is turned off: HEAD and TAIL read 0 (R106). -/
def ringEffect (page off : Nat) (v : Word) (s : State) : State :=
  match off with
  | 0x058 => if fld v 3 0 = 0 then (s.setReg page 0x05C 0).setReg page 0x060 0 else s
  | 0x078 => if fld v 3 0 = 0 then (s.setReg page 0x07C 0).setReg page 0x080 0 else s
  | _ => s

/-- A write to a register of the ETA or ETB page. -/
def ethWrite (m : Master) (p off : Nat) (v : Word) (s : State) : State :=
  regCommand m (pEth p) off v (ringCheck (pEth p) off v) (ringEffect (pEth p) off v) s

/-- ETH_RING_OFF: a write of SIZE = 0 (R106). -/
def execEthRingOff (m : Master) (port : EthPort) (tx : Bool) (s : State) :
    Host.Outcome State Fault Refusal :=
  let page := portPage port
  let off := if tx then 0x078 else 0x058
  .next (issue m .write page off (regCommand m page off 0 (ringCheck page off 0) (ringEffect page off 0)) s)

/-- An address entry is used by an enabled context (R108). -/
def addrInUse (i : Nat) (s : State) : Bool :=
  (List.range 128).any fun c => ctxOn c s && ctxKind c s = kindIp && s.rfAt pSrc 0x104 c 31 28 = i

/-- The check of a write to the ING page. -/
def ingCheck (off : Nat) (v : Word) (s : State) : Verdict :=
  if off = 0x040 then
    let n := fld v 15 8
    if n = 0 || 100 < n || (List.range 128).any (fun c => ctxOn c s && s.rfAt pSrc 0x134 c 15 0 < 10 * n) then
      .err 0x40
    else .ok
  else if 0x100 ≤ off && addrInUse ((off - 0x100) / 0x20) s then .err 0x41
  else .ok

/-- A write to a register of the ING page. -/
def ingWrite (m : Master) (off : Nat) (v : Word) (s : State) : State :=
  regCommand m pIng off v (ingCheck off v) id s

/-! ## Links (R106, R107, R471) -/

/-- ETH_LINK_UP. -/
def execEthLinkUp (p : Fin 2) (s : State) : Host.Outcome State Fault Refusal :=
  .next (whenClocked s (if s.enabled (pEth p.val) then s.setFld (pEth p.val) 0x040 4 4 1 else s))

/-- ETH_LINK_DOWN. -/
def execEthLinkDown (p : Fin 2) (s : State) : Host.Outcome State Fault Refusal :=
  .next (whenClocked s (s.setFld (pEth p.val) 0x040 4 4 0))

/-- MGE_LINK_CHANGE. -/
def execMgeLinkChange (up : Bool) (s : State) : Host.Outcome State Fault Refusal :=
  .next (whenClocked s (if s.rb pMge 0x040 4 = up then s else raiseBit pMge 2 (s.setFld pMge 0x040 4 4 (b2n up))))

end Sys2Proof.Machine
end

