-- ==== Sys2Proof/Machine/SelfTest.lean ====
section
/-! DEFINITION. The self-test: boot groups, verdicts and reruns, the rotating test of the engines, entry to TEST
and the sequencer firmware (R411 to R417, R423, R425). -/

namespace Sys2Proof.Machine

/-! ## Starting runs (R411, R414, R416) -/

/-- No supply warning is active, and 50 µs have passed since the last one (R414). -/
def supplyQuiet (s : State) : Bool :=
  !s.pwr.warnCore && !s.pwr.warnIo &&
    match s.pwr.recovery with
    | some t => t + 25000 ≤ s.clk
    | none => true

/-- The March C− test of the system SRAM writes 0 to every cell first and last (R410). (PRESUMED: log entry 109) -/
def marchSram (s : State) : State := { s with mem := s.mem.filter fun c => region c.1 ≠ .sram }

/-- A run begins (R410, R413); that of partition 2 leaves the system SRAM at 0. (PRESUMED: log entry 109) -/
def beginRun (p : Nat) (s : State) : State :=
  let s := if p = 2 then marchSram s else s
  let s := s.setRegAt pBst 0x060 p 1
  setBst (fun b => { b with runs := b.runs ++ [(p, s.clk)] }) (s.bumpAt pBst 0x078 p 1)

/-- Start a run on a partition, or let it wait for the supply. A run on partition 0 follows the clearing of the
volatile stores, and does not take place when that is not verified (R416). -/
def startRun (p : Nat) (s : State) : State :=
  let s := setHold true (runPages p s) s
  if !supplyQuiet s then setBst (fun b => { b with waiting := b.waiting ++ [p] }) s
  else if p = 0 then
    let s := clearStores (!s.keyStuck) s
    if s.keyStuck then s else beginRun p s
  else beginRun p s

def bootGroup (g : Nat) : List Nat :=
  match g with
  | 0 => [0]
  | 1 => [1, 2, 3, 4]
  | _ => (List.range 20).map (5 + ·)

/-- The boot group in progress starts. -/
def startGroup (s : State) : State :=
  let s := setBst (fun b => { b with started := true }) s
  (bootGroup s.bst.group).foldl (fun s p => startRun p s) s

/-- The next boot group, or the end of the boot test, once every partition of the group has passed (R411). -/
def nextGroup (s : State) : State :=
  if !((bootGroup s.bst.group).all fun p => verdictOf p s = 2) then s
  else if s.bst.group < 2 then startGroup (setBst (fun b => { b with group := b.group + 1 }) s)
  else
    let s := setBst (fun b => { b with group := 3, fwDue := List.range 16 }) s
    setHold false (6 :: (List.range 6).map (50 + ·)) s

/-- The boot test begins with the clocks (R411, R445). (DESIGN CHOICE: log entry 2) -/
def bstTick (s : State) : State :=
  if s.dev = devBoot && s.bst.group < 3 && !s.bst.started then startGroup s else s

/-! ## Ends of runs (R412 to R415) -/

/-- What follows an ABORTED run: a rerun, at most twice, then the withdrawal; in TEST nothing (R412, R415). -/
def afterAbort (p : Nat) (s : State) : State :=
  if s.dev = devBoot || s.dev = devRun then
    let n := smAt p s.bst.aborts + 1
    let s := setBst (fun b => { b with aborts := smSet p n b.aborts }) s
    if 3 ≤ n then withdraw 7 p s else startRun p s
  else s

/-- Runs are interrupted by a cause (R414). (DEDUCED: log entry 74) -/
def interruptRuns (cause : Nat) (which : Nat → Bool) (s : State) : State :=
  let hit := s.bst.runs.filter fun r => which r.1
  hit.foldl (fun s r => afterAbort r.1 s) (bstInterrupt cause hit s)

/-- What follows a PASS (R411, R415). -/
def afterPass (p : Nat) (s : State) : State :=
  let s := setBst (fun b => { b with aborts := smErase p b.aborts }) s
  if s.dev = devBoot then nextGroup s
  else
    match partEngine p with
    | some n => if s.dev = devRun then setBst (fun b => { b with fwDue := b.fwDue ++ [n] }) s else s
    | none => s

/-- The run on a partition, when one is in progress: its start. -/
def runStart (p : Nat) (s : State) : Option Nat := s.bst.runs.lookup p

/-- The run has lasted more than twice its duration (R414). -/
def overlong (p start : Nat) (s : State) : Bool := 2 * partUs p * 500 < s.clk - start

/-- BST_RUN_END: the verdict of R413 on the executed count and the signature. -/
def execBstRunEnd (part : Fin 25) (execCount : Nat) (sig : Word) (s : State) :
    Host.Outcome State Fault Refusal :=
  let p := part.val
  .next (whenServed s (match runStart p s with
    | none => s
    | some start =>
      let n := BitVec.ofNat 32 execCount
      if overlong p start s then
        afterAbort p (raiseBit pBst 2 (recordRun p start 4 4 n sig s))
      else if n ≠ s.regAt pBst 0x064 p then
        withdraw 7 p (raise pBst 3 (recordRun p start 3 9 n sig s))
      else if sig ≠ s.regAt pBst 0x070 p then
        withdraw 7 p (raise pBst 3 (recordRun p start 3 8 n sig s))
      else afterPass p (raiseBit pBst 0 (recordRun p start 2 0 n sig s))))

/-- BST_RUN_TIMEOUT (R414). -/
def execBstRunTimeout (part : Fin 25) (s : State) : Host.Outcome State Fault Refusal :=
  .next (whenServed s (match runStart part.val s with
    | none => s
    | some start =>
      if overlong part.val start s then interruptRuns 4 (fun q => q = part.val) s else s))

/-- BST_RERUN: the runs that waited for the supply start (R414). -/
def execBstRerun (s : State) : Host.Outcome State Fault Refusal :=
  .next (whenServed s (if supplyQuiet s then
      s.bst.waiting.foldl (fun s p => startRun p s) (setBst (fun b => { b with waiting := [] }) s)
    else s))

/-- PLL_LOCK_LOSS: the runs on partitions with a clock of the domain are interrupted (R414).
(DEDUCED: log entry 75) -/
def execPllLockLoss (d : Domain) (s : State) : Host.Outcome State Fault Refusal :=
  .next (whenServed s (interruptRuns 5 (fun p => (runDomains p s).contains d) s))

/-! ## The rotating test (R133, R415) -/

/-- INTERVAL_MS in TIM clocks. (DEDUCED: log entry 74) -/
def rotInterval (s : State) : Nat := s.rf pBst 0x044 15 0 * 500000

/-- The draining engine holds no commitment and no picture (R133). -/
def drained (n : Nat) (s : State) : Bool :=
  (smAt n s.eng).draining && (smAt n s.eng).pic.isNone && (smAt n s.eng).encoding.isNone
    && !(s.placed.any fun p => p.engine = some n || p.target = some n)

/-- ENGINE_DRAINED: step 3 of a handover (R133, R415). -/
def execEngineDrained (s : State) : Host.Outcome State Fault Refusal :=
  .next (whenPixel s (match (List.range 16).find? fun n => drained n s with
    | none => s
    | some n =>
      let s := setEng n (fun e => { e with draining := false }) s
      startRun (7 + n) (raiseCdc 1 (setHold true [pCdc n] s))))

/-! ## The page (R414, R415, R417, R425) -/

/-- Whether a write of BST_TEST.ENTER is admitted (R417, R437). (DEDUCED: log entry 76) -/
def testAdmitted (m : Master) (v : Word) (s : State) : Bool :=
  fld v 7 0 = 0xC3 && s.dev = devBoot && (isGuard m || (m = .debug && debugUnlocked s))

/-- The check of a write to the BST page. -/
def bstCheck (m : Master) (off : Nat) (v : Word) (s : State) : Verdict :=
  if 0x40 ≤ off && reservedSet pBst off v then .err 0x40
  else
    match off with
    | 0x040 =>
      if bit v 2 && (s.dev ≠ devTest || !s.bst.runs.isEmpty || !s.bst.waiting.isEmpty) then .err 0x41 else .ok
    | 0x044 => if v.toNat < 200 || 10000 < v.toNat then .err 0x40 else .ok
    | 0x04C => if 24 < v.toNat then .err 0x40 else .ok
    | 0x050 => if testAdmitted m v s then .ok else .err 0x43
    | _ => .ok

/-- The levels of the GPIO pins: OUT where a pin drives, else what the board gives. -/
def gpioLevels (s : State) : Word :=
  let drives := s.dev = devBoot || s.dev = devRun || s.dev = devWithdrawn
  let dir := if drives then s.reg 140 0x300 else 0
  (s.reg 140 0x304 &&& dir) ||| (s.pins.gpio &&& ~~~ dir)

/-- Pin levels have changed from `old`: selected edges set GPIO_EVT, and any set bit holds GPIO set.
(DEDUCED: log entry 86) -/
def gpioEdges (old : Word) (s : State) : State :=
  let new := gpioLevels s
  let hit := (new &&& ~~~ old &&& s.reg 140 0x314) ||| (old &&& ~~~ new &&& s.reg 140 0x318)
  let evt := s.reg 140 0x31C ||| hit
  let s := s.setReg 140 0x31C evt
  if evt = 0 then s else raiseBit 140 12 s

/-- Entry to TEST: the secret stores are cleared first, and it does not take place when that is not verified; pins
that GPIO drove are released (R416, R417, R468). (DEDUCED: log entries 75, 76) -/
def enterTest (s : State) : State :=
  let s := { s with vbt := { s.vbt with secret := none }, key := { s.key with vstore := none } }
  let s := clearStores (!s.keyStuck) s
  if s.keyStuck then s else gpioEdges (gpioLevels s) (setDev devTest s)

/-- The effect of an accepted write to the BST page. -/
def bstEffect (m : Master) (off : Nat) (v : Word) (s : State) : State :=
  match off with
  | 0x040 =>
    let s := s.setFld pBst 0x040 2 1 0
    let s := if bit v 1 then interruptRuns 1 (fun _ => true) s else s
    if bit v 2 then startRun (s.rfAt pBst 0x04C (masterId m) 4 0) s else s
  | 0x050 => enterTest (s.setReg pBst 0x050 0)
  | _ => s

/-- A write to a register of the BST page. -/
def bstWrite (m : Master) (off : Nat) (v : Word) (s : State) : State :=
  regCommand m pBst off v (bstCheck m off v) (bstEffect m off v) s

/-- BST_STAT.PHASE. (DEDUCED: log entry 74) -/
def bstPhase (s : State) : Nat :=
  if s.dev = devTest then 3
  else if s.bst.group < 3 then 0
  else if s.rb pBst 0x040 0 then 1
  else 2

/-- A read of the BST page; with several partitions in progress BST_STAT shows the lowest. -/
def bstRead (m : Master) (off : Nat) (s : State) : Word × State :=
  match off with
  | 0x040 => (putFld (s.reg pBst off) 2 2 (b2n (s.dev = devTest && !s.bst.runs.isEmpty)), s)
  | 0x048 =>
    let p := ((List.range 25).find? fun p => (runStart p s).isSome).getD 0xFF
    (BitVec.ofNat 32 (p * 0x10000 + (heldEngine s).getD 0 * 0x100 + bstPhase s), s)
  | _ =>
    match findRow pBst off with
    | some r => (s.regAt pBst off (winIdx r.win m s), s)
    | none => (0, s)

/-- BST_RUN: a write of RUN = 1, ROT_EN as it is; `readBackZero` is what a clearing before the run finds (R416, R417). -/
def execBstRun (m : Master) (readBackZero : Bool) (s : State) : Host.Outcome State Fault Refusal :=
  .next (issue m .write pBst 0x040
    (fun s => bstWrite m 0x040 ((s.reg pBst 0x040 &&& 1) ||| 4) { s with keyStuck := !readBackZero }) s)

/-- BST_ABORT: a write of ABORT = 1, ROT_EN as it is (R414). -/
def execBstAbort (m : Master) (s : State) : Host.Outcome State Fault Refusal :=
  .next (issue m .write pBst 0x040 (fun s => bstWrite m 0x040 ((s.reg pBst 0x040 &&& 1) ||| 2) s) s)

/-- TEST_ENTRY: a write of BST_TEST.ENTER; `readBackZero` is what the clearing before the entry finds (R416, R417).
(DEDUCED: log entry 76) -/
def execTestEntry (m : Master) (enter : BitVec 8) (readBackZero : Bool) (s : State) : Host.Outcome State Fault Refusal :=
  .next (issue m .write pBst 0x050
    (fun s => bstWrite m 0x050 (enter.setWidth 32) { s with keyStuck := !readBackZero }) s)

end Sys2Proof.Machine
end

