-- ==== Sys2Proof/Machine/Sha.lean ====
section
/-! DEFINITION. SHA-384, the hash of R422, R423 and R469, as its standard defines it. -/

namespace Sys2Proof.Machine

def rotr64 (n x : Nat) : Nat := (x >>> n ||| x <<< (64 - n)) % 2 ^ 64

/-! The round constants, in four pieces. -/

def shaRounds0 : List Nat :=
  [0x428A2F98D728AE22, 0x7137449123EF65CD, 0xB5C0FBCFEC4D3B2F, 0xE9B5DBA58189DBBC,
   0x3956C25BF348B538, 0x59F111F1B605D019, 0x923F82A4AF194F9B, 0xAB1C5ED5DA6D8118,
   0xD807AA98A3030242, 0x12835B0145706FBE, 0x243185BE4EE4B28C, 0x550C7DC3D5FFB4E2,
   0x72BE5D74F27B896F, 0x80DEB1FE3B1696B1, 0x9BDC06A725C71235, 0xC19BF174CF692694,
   0xE49B69C19EF14AD2, 0xEFBE4786384F25E3, 0x0FC19DC68B8CD5B5, 0x240CA1CC77AC9C65]

def shaRounds1 : List Nat :=
  [0x2DE92C6F592B0275, 0x4A7484AA6EA6E483, 0x5CB0A9DCBD41FBD4, 0x76F988DA831153B5,
   0x983E5152EE66DFAB, 0xA831C66D2DB43210, 0xB00327C898FB213F, 0xBF597FC7BEEF0EE4,
   0xC6E00BF33DA88FC2, 0xD5A79147930AA725, 0x06CA6351E003826F, 0x142929670A0E6E70,
   0x27B70A8546D22FFC, 0x2E1B21385C26C926, 0x4D2C6DFC5AC42AED, 0x53380D139D95B3DF,
   0x650A73548BAF63DE, 0x766A0ABB3C77B2A8, 0x81C2C92E47EDAEE6, 0x92722C851482353B]

def shaRounds2 : List Nat :=
  [0xA2BFE8A14CF10364, 0xA81A664BBC423001, 0xC24B8B70D0F89791, 0xC76C51A30654BE30,
   0xD192E819D6EF5218, 0xD69906245565A910, 0xF40E35855771202A, 0x106AA07032BBD1B8,
   0x19A4C116B8D2D0C8, 0x1E376C085141AB53, 0x2748774CDF8EEB99, 0x34B0BCB5E19B48A8,
   0x391C0CB3C5C95A63, 0x4ED8AA4AE3418ACB, 0x5B9CCA4F7763E373, 0x682E6FF3D6B2B8A3,
   0x748F82EE5DEFB2FC, 0x78A5636F43172F60, 0x84C87814A1F0AB72, 0x8CC702081A6439EC]

def shaRounds3 : List Nat :=
  [0x90BEFFFA23631E28, 0xA4506CEBDE82BDE9, 0xBEF9A3F7B2C67915, 0xC67178F2E372532B,
   0xCA273ECEEA26619C, 0xD186B8C721C0C207, 0xEADA7DD6CDE0EB1E, 0xF57D4F7FEE6ED178,
   0x06F067AA72176FBA, 0x0A637DC5A2C898A6, 0x113F9804BEF90DAE, 0x1B710B35131C471B,
   0x28DB77F523047D84, 0x32CAAB7B40C72493, 0x3C9EBE0A15C9BEBC, 0x431D67C49C100D4C,
   0x4CC5D4BECB3E42B6, 0x597F299CFC657E2A, 0x5FCB6FAB3AD6FAEC, 0x6C44198C4A475817]

def shaRoundConsts : List Nat := shaRounds0 ++ shaRounds1 ++ shaRounds2 ++ shaRounds3

/-- The working variables. -/
structure ShaVars where
  a : Nat
  b : Nat
  c : Nat
  d : Nat
  e : Nat
  f : Nat
  g : Nat
  h : Nat

/-- The initial hash value of SHA-384. -/
def shaInit : ShaVars where
  a := 0xCBBB9D5DC1059ED8
  b := 0x629A292A367CD507
  c := 0x9159015A3070DD17
  d := 0x152FECD8F70E5939
  e := 0x67332667FFC00B31
  f := 0x8EB44A8768581511
  g := 0xDB0C2E0D64F98FA7
  h := 0x47B5481DBEFA4FA4

/-- The message schedule, newest word first, after `n` more words. -/
def shaSchedule : Nat → List Nat → List Nat
  | 0, w => w
  | n + 1, w =>
    let x := w.getD 1 0
    let y := w.getD 14 0
    let s0 := rotr64 1 y ^^^ rotr64 8 y ^^^ y >>> 7
    let s1 := rotr64 19 x ^^^ rotr64 61 x ^^^ x >>> 6
    shaSchedule n ((s1 + w.getD 6 0 + s0 + w.getD 15 0) % 2 ^ 64 :: w)

/-- One round with a round constant and a word of the schedule. -/
def shaRound (v : ShaVars) (k w : Nat) : ShaVars :=
  let s1 := rotr64 14 v.e ^^^ rotr64 18 v.e ^^^ rotr64 41 v.e
  let ch := v.e &&& v.f ^^^ (2 ^ 64 - 1 - v.e) &&& v.g
  let t1 := v.h + s1 + ch + k + w
  let s0 := rotr64 28 v.a ^^^ rotr64 34 v.a ^^^ rotr64 39 v.a
  let maj := v.a &&& v.b ^^^ v.a &&& v.c ^^^ v.b &&& v.c
  { a := (t1 + s0 + maj) % 2 ^ 64, b := v.a, c := v.b, d := v.c, e := (v.d + t1) % 2 ^ 64, f := v.e, g := v.f, h := v.g }

/-- One block of 128 bytes. -/
def shaBlock (v : ShaVars) (block : List Byte) : ShaVars :=
  let first := (List.range 16).map fun i => beNat ((block.drop (8 * i)).take 8)
  let words := (shaSchedule 64 first.reverse).reverse
  let t := (shaRoundConsts.zip words).foldl (fun t p => shaRound t p.1 p.2) v
  let add := fun x y => (x + y) % 2 ^ 64
  { a := add v.a t.a, b := add v.b t.b, c := add v.c t.c, d := add v.d t.d
    e := add v.e t.e, f := add v.f t.f, g := add v.g t.g, h := add v.h t.h }

/-- Whole blocks, up to `n` of them. -/
def shaBlocks : Nat → List Byte → ShaVars → ShaVars
  | 0, _, v => v
  | n + 1, bs, v => if bs.isEmpty then v else shaBlocks n (bs.drop 128) (shaBlock v (bs.take 128))

/-- A message of `len` bytes with its padding: a one bit, zeros, and the length in bits. -/
def shaPadded (data : List Byte) : List Byte :=
  data ++ 0x80 :: List.replicate ((239 - data.length % 128) % 128) 0 ++ beBytes 16 (8 * data.length)

/-- SHA-384 (R422, R423, R469). (PRESUMED: log entry 9) -/
@[irreducible] def sha384 (data : List Byte) : List Byte :=
  let v := shaBlocks (data.length / 128 + 2) (shaPadded data) shaInit
  [v.a, v.b, v.c, v.d, v.e, v.f].flatMap (beBytes 8)

end Sys2Proof.Machine
end

