-- ==== Sys2Proof/Machine/Mge.lean ====
section
/-! DEFINITION. The management page: MDIO, I²C, UART, GPIO and the debug permission (R465 to R471). -/

namespace Sys2Proof.Machine

/-! ## MDIO (R470) -/

def mdioBusy (s : State) : Bool := s.rb pMge 0x090 31

/-- MDIO_DONE: a Clause 22 transaction ends; `data` is what a read returned. -/
def execMdioDone (data : BitVec 16) (s : State) : Host.Outcome State Fault Refusal :=
  .next (whenClocked s (if !mdioBusy s then s
    else
      let s := s.setFld pMge 0x090 31 31 0
      raiseBit pMge 3 (if s.rb pMge 0x090 30 then s.setFld pMge 0x090 15 0 data.toNat else s)))

/-! ## I²C (R466) -/

def i2cOff (i r : Nat) : Nat := 0x100 + 0x40 * i + r

def i2cBusy (i : Nat) (s : State) : Bool := s.rb pMge (i2cOff i 4) 31

/-- The first `n` bytes of I2C_TX. -/
def i2cTx (i n : Nat) (s : State) : List Byte :=
  ((List.range 4).flatMap fun j => leBytes 4 (s.reg pMge (i2cOff i 0xC + 4 * j)).toNat).take n

/-- Bytes read appear in I2C_RX. -/
def i2cPutRx (i : Nat) (data : List Byte) (s : State) : State :=
  (List.range 4).foldl (fun s j =>
    if 4 * j < data.length then
      s.setReg pMge (i2cOff i 0x1C + 4 * j) (BitVec.ofNat 32 (leNat ((data.drop (4 * j)).take 4)))
    else s) s

/-- I2C_DONE with RESULT and the bytes read; after a TIMEOUT the controller sends 9 clocks and a STOP (R466). -/
def execI2cDone (i : Fin 4) (result : Fin 3) (data : List Byte) (s : State) :
    Host.Outcome State Fault Refusal :=
  .next (whenClocked s (if !i2cBusy i.val s then s
    else
      let n := s.rf pMge (i2cOff i.val 4) 20 16
      let s := s.setFld pMge (i2cOff i.val 4) 31 31 0
      let s := s.setFld pMge (i2cOff i.val 8) 2 1 result.val
      let s := if result.val = 0 then i2cPutRx i.val (takeBytes n data) s else s
      raiseBit pMge (4 + i.val) (if result.val = 2 then s.emit (.i2cClear i.val) else s)))

/-! ## UART (R467) -/

def uartOff (u r : Nat) : Nat := 0x200 + 0x40 * u + r

def setUart (u : Nat) (f : UartSt → UartSt) (s : State) : State :=
  { s with uart := smSet u (f (smAt u s.uart)) s.uart }

/-- The controller works: the page and the UART are enabled. -/
def uartOn (u : Nat) (s : State) : Bool := s.enabled pMge && s.rb pMge (uartOff u 0) 0

/-- UART_RX_BYTE (R467, R471). (DEDUCED: log entry 86) -/
def execUartRxByte (u : Fin 2) (b : Byte) (s : State) : Host.Outcome State Fault Refusal :=
  .next (whenClocked s (if !uartOn u.val s then s
    else
      let s :=
        if 32 ≤ (smAt u.val s.uart).rx.length then s.bump pMge (uartOff u.val 0x10)
        else setUart u.val (fun t => { t with rx := t.rx ++ [b] }) s
      raiseBit pMge (8 + u.val) s))

/-- The time of a byte in TIM clocks: a start bit, 8 data bits and a stop bit of 16 × DIV periods of 100 MHz (R467).
(DEDUCED: log entry 86) -/
def uartByte (u : Nat) (s : State) : Nat := 10 * 16 * s.rf pMge (uartOff u 0) 31 16 * 5

/-- The byte being sent has been sent (R467). (DEDUCED: log entry 86) -/
def uartSent (u : Nat) (s : State) : Bool :=
  uartOn u s && !(smAt u s.uart).tx.isEmpty && (smAt u s.uart).txAt + uartByte u s ≤ s.clk

/-- A byte leaves a UART, and the next one follows (R467). -/
def uartShift (u : Nat) (s : State) : State :=
  setUart u (fun t => { t with tx := t.tx.drop 1, txAt := s.clk }) (s.emit (.uart u ((smAt u s.uart).tx.take 1)))

/-- The clock: each UART sends its bytes but for the last, whose end is UART_TX_EMPTY (R467, R471).
(DESIGN CHOICE, DEDUCED: log entries 2, 86) -/
def uartTick (s : State) : State :=
  (List.range 2).foldl (fun s u =>
    if uartSent u s && 1 < (smAt u s.uart).tx.length then uartShift u s else s) s

/-- UART_TX_EMPTY: the last byte that waited has been sent (R467, R471). (DEDUCED: log entry 86) -/
def execUartTxEmpty (u : Fin 2) (s : State) : Host.Outcome State Fault Refusal :=
  .next (whenClocked s (if uartSent u.val s && (smAt u.val s.uart).tx.length = 1 then
      raiseBit pMge (10 + u.val) (uartShift u.val s)
    else s))

/-- The read of UART_RX. -/
def uartPopRead (u : Nat) (s : State) : Word × State :=
  match (smAt u s.uart).rx with
  | [] => (0, s)
  | b :: rest => (bitW 31 ||| b.setWidth 32, setUart u (fun t => { t with rx := rest }) s)

/-- UART_RX_POP: a read of UART_RX (R467). -/
def execUartRxPop (m : Master) (u : Fin 2) (s : State) : Host.Outcome State Fault Refusal :=
  .next (issue m .read pMge (uartOff u.val 8) (readCommand m pMge (uartOff u.val 8) (uartPopRead u.val)) s)

/-- UART_STAT (R470). -/
def uartStat (u : Nat) (s : State) : Word :=
  BitVec.ofNat 32 ((smAt u s.uart).tx.length * 0x100 + (smAt u s.uart).rx.length)

/-! ## GPIO (R468) -/

/-- GPIO_EDGE: the board changes the level of a pin (R468). -/
def execGpioEdge (p : Fin 32) (rising : Bool) (s : State) : Host.Outcome State Fault Refusal :=
  let g := if rising then s.pins.gpio ||| bitW p.val else s.pins.gpio &&& ~~~ bitW p.val
  let t := { s with pins := { s.pins with gpio := g } }
  .next (if clocked s then gpioEdges (gpioLevels s) t else t)

/-! ## Debug access (R469) -/

/-- The fused 128-bit device identifier (R469). -/
def deviceId : List Byte := (List.range 16).map Config.deviceIdByte

/-- DBG_STAT.FAILS. -/
def dbgFails (s : State) : Nat := s.rf pMge 0x384 3 2

/-- DBG_CHALLENGE_READ: the device identifier and a fresh nonce, which is what KEY_RNG returns (R421, R469).
(DEDUCED: log entry 87) -/
def execDbgChallengeRead (s : State) : Host.Outcome State Fault Refusal :=
  .next (if !served s then s
    else
      let (w, s) := rngValue s
      { s with nonce := some w }.emit (.challenge deviceId w))

/-- Below level 2 no application core stays halted (R469). (DEDUCED: log entry 87) -/
def endHalts (s : State) : State :=
  if 2 ≤ debugLevel s then s else { s with jtag := { s.jtag with halted := [] } }

/-- A response verifies: a fused key that is not revoked has signed identifier, nonce and level.
(DEDUCED: log entry 87) -/
def dbgVerifies (nonce : Word) (level : Byte) (pubkey sig : List Byte) : Bool :=
  ((List.range 4).any fun i => sha384 pubkey = Config.fusedHash i && !Config.fusedRevoked i)
    && ecdsaP384 pubkey (sha384 (deviceId ++ leBytes 4 nonce.toNat ++ [level])) sig

/-- DBG_RESPONSE: the level is unlocked, or the response counts as a failure; the third locks debug.
(DEDUCED: log entry 87) -/
def execDbgResponse (level : Byte) (pubkey sig : List Byte) (s : State) : Host.Outcome State Fault Refusal :=
  .next (whenServed s (if 3 ≤ dbgFails s then s
    else
      let good := match s.nonce with
        | some n => dbgVerifies n level pubkey sig && level.toNat ≤ s.rf pMge 0x380 1 0
        | none => false
      let s := { s with nonce := none }
      if good then endHalts (raiseBit pMge 13 (s.setFld pMge 0x384 1 0 level.toNat))
      else
        let s := s.setFld pMge 0x384 3 2 (dbgFails s + 1)
        if dbgFails s = 3 then endHalts (s.setFld pMge 0x384 1 0 0) else s))

/-- What the JTAG port reads as IDCODE: revision 0 for A0 in bits [31:28] (R469). (DEDUCED: log entry 87) -/
def jtagIdcode : Word := 0x00960A3F

/-- What a debugger may ask of the JTAG port. -/
inductive JtagUse where
  | bypass | idcode | samplePreload | challenge | response | extest | scan | memory | haltApc
  deriving DecidableEq, Repr

/-- What the JTAG port offers in a state; GP0 and GP1 are never halted (R417, R469). (DEDUCED: log entry 87) -/
def jtagOffers (u : JtagUse) (s : State) : Bool :=
  match u with
  | .bypass | .idcode | .samplePreload => true
  | .challenge | .response => served s
  | .extest | .scan => !s.pwr.inReset && s.dev = devTest
  | .memory => served s && 1 ≤ debugLevel s
  | .haltApc => served s && 2 ≤ debugLevel s

/-- The first of some scan accesses in TEST: the volatile stores are cleared before it, and it does not take place when that
is not verified (R416, R469). The opcode table has no row for it. (DEDUCED: log entry 87) -/
def jtagScan (ok : Bool) (s : State) : Option State :=
  if jtagOffers .scan s then some (clearStores ok s) else none

/-- The debugger halts an application core, or lets it go on (R469). The opcode table has no row for it.
(DEDUCED: log entry 87) -/
def jtagHalt (k : Fin 8) (halt : Bool) (s : State) : State :=
  if jtagOffers .haltApc s then
    { s with jtag := { s.jtag with
        halted := if halt then k :: s.jtag.halted.filter (· ≠ k) else s.jtag.halted.filter (· ≠ k) } }
  else s

/-- EXTEST drives a pin, or lets it go (R469, R475). The opcode table has no row for it. (DEDUCED: log entry 87) -/
def jtagDrive (p : Pin) (level : Option Bool) (s : State) : State :=
  if jtagOffers .extest s then
    let rest := s.jtag.extest.filter (·.1 ≠ p)
    { s with jtag := { s.jtag with extest := match level with
        | some x => (p, x) :: rest
        | none => rest } }
  else s

/-! ## The MGE page (R465 to R471) -/

/-- The I²C bus or the UART, and the register, of an offset. -/
def i2cPlace (off : Nat) : Option (Nat × Nat) :=
  if 0x100 ≤ off ∧ off < 0x200 then some ((off - 0x100) / 0x40, off % 0x40) else none

def uartPlace (off : Nat) : Option (Nat × Nat) :=
  if 0x200 ≤ off ∧ off < 0x280 then some ((off - 0x200) / 0x40, off % 0x40) else none

/-- A write that asks a controller of the page to work. -/
def mgeWork (off : Nat) (v : Word) : Bool :=
  match i2cPlace off, uartPlace off with
  | some (_, 4), _ => bit v 31
  | _, some (_, 4) => true
  | _, _ => off = 0x090 && bit v 31

/-- A value outside its range, or a reserved code (R470). -/
def mgeRange (off : Nat) (v : Word) : Bool :=
  match i2cPlace off, uartPlace off with
  | some (_, 0), _ => fld v 2 1 = 3
  | some (_, 4), _ => 16 < fld v 20 16 || 16 < fld v 12 8
  | _, some (_, 0) => fld v 31 16 = 0
  | _, _ => off = 0x380 && fld v 1 0 = 3

/-- A controller that a write asks to work is busy, or its FIFO full. -/
def mgeBusy (off : Nat) (v : Word) (s : State) : Bool :=
  match i2cPlace off, uartPlace off with
  | some (i, 4), _ => bit v 31 && i2cBusy i s
  | _, some (u, 4) => 32 ≤ (smAt u s.uart).tx.length
  | _, _ => off = 0x090 && bit v 31 && mdioBusy s

/-- The check of a write to the MGE page. (DEDUCED: log entry 86) -/
def mgeCheck (m : Master) (off : Nat) (v : Word) (s : State) : Verdict :=
  if off = 0x380 && !isGuard m then .err 0x43
  else if 0x40 ≤ off && reservedSet pMge off v then .err 0x41
  else if mgeRange off v then .err 0x41
  else if !s.enabled pMge && mgeWork off v then .err 0x07
  else if mgeBusy off v s then .err 0x42
  else ringCheck pMge off v s

/-- An I²C transaction starts, with the controller enabled. -/
def i2cStart (i : Nat) (v : Word) (s : State) : State :=
  if !s.rb pMge (i2cOff i 0) 0 then s.setFld pMge (i2cOff i 4) 31 31 0
  else s.emit (.i2c i (fld v 6 0) (i2cTx i (fld v 12 8) s) (fld v 20 16))

/-- The effect of an accepted write to the MGE page; `was` is the state before it. (DEDUCED: log entry 86) -/
def mgeEffect (off : Nat) (v : Word) (was s : State) : State :=
  match i2cPlace off, uartPlace off with
  | some (i, 4), _ =>
    if bit v 31 then i2cStart i v s else s
  | some (i, 0), _ => if bit v 0 then s else s.setFld pMge (i2cOff i 4) 31 31 0
  | _, some (u, 4) =>
    setUart u (fun t => {
      t with tx := t.tx ++ [v.setWidth 8], txAt := if t.tx.isEmpty then s.clk else t.txAt }) s
  | _, _ =>
    match off with
    | 0x090 => if bit v 31 then s.emit (.mdio (bit v 30) (fld v 25 21) (fld v 20 16) (fld v 15 0)) else s
    | 0x300 | 0x304 => gpioEdges (gpioLevels was) s
    | 0x308 => gpioEdges (gpioLevels was) ((s.setReg pMge 0x304 (s.reg pMge 0x304 ||| v)).setReg pMge 0x308 0)
    | 0x30C => gpioEdges (gpioLevels was) (s.setReg pMge 0x304 (s.reg pMge 0x304 &&& ~~~ v))
    | 0x380 => endHalts (s.setFld pMge 0x384 1 0 (min (s.rf pMge 0x384 1 0) (fld v 1 0)))
    | _ => ringEffect pMge off v s

/-- A write to a register of the MGE page. -/
def mgeWrite (m : Master) (off : Nat) (v : Word) (s : State) : State :=
  regCommand m pMge off v (mgeCheck m off v) (mgeEffect off v s) s

/-- A read of the MGE page. -/
def mgeRead (off : Nat) (s : State) : Word × State :=
  match i2cPlace off, uartPlace off with
  | some (i, 8), _ => (putFld (s.reg pMge off) 0 0 (b2n (i2cBusy i s)), s)
  | _, some (u, 8) => uartPopRead u s
  | _, some (u, 0xC) => (uartStat u s, s)
  | _, _ =>
    match off with
    | 0x308 | 0x30C => (s.reg pMge 0x304, s)
    | 0x310 => (gpioLevels s, s)
    | _ => (s.reg pMge off, s)

/-- The page is disabled or reset: transactions and FIFOs are abandoned (R17, R19). -/
def mgeStop (s : State) : State :=
  let s := (List.range 4).foldl (fun s i => s.setFld pMge (i2cOff i 4) 31 31 0) (s.setFld pMge 0x090 31 31 0)
  { s with uart := [] }

/-- MDIO_READ: a write of MGE_MDIO with GO = 1 and READ = 1 (R470). -/
def execMdioRead (m : Master) (phy reg : BitVec 5) (s : State) : Host.Outcome State Fault Refusal :=
  .next (issue m .write pMge 0x090
    (mgeWrite m 0x090 (BitVec.ofNat 32 (0xC0000000 + phy.toNat * 2 ^ 21 + reg.toNat * 2 ^ 16))) s)

/-- MDIO_WRITE: a write of MGE_MDIO with GO = 1 and READ = 0 (R470). -/
def execMdioWrite (m : Master) (phy reg : BitVec 5) (data : BitVec 16) (s : State) :
    Host.Outcome State Fault Refusal :=
  .next (issue m .write pMge 0x090
    (mgeWrite m 0x090 (BitVec.ofNat 32 (0x80000000 + phy.toNat * 2 ^ 21 + reg.toNat * 2 ^ 16 + data.toNat))) s)

/-- I2C_GO: a write of I2C_CMD with GO = 1 (R466). -/
def execI2cGo (m : Master) (i : Fin 4) (cmd : Word) (s : State) : Host.Outcome State Fault Refusal :=
  .next (issue m .write pMge (i2cOff i.val 4) (mgeWrite m (i2cOff i.val 4) (cmd ||| 0x80000000)) s)

/-- UART_TX: a write of UART_TX (R467). -/
def execUartTx (m : Master) (u : Fin 2) (v : Word) (s : State) : Host.Outcome State Fault Refusal :=
  .next (issue m .write pMge (uartOff u.val 4) (mgeWrite m (uartOff u.val 4) v) s)

end Sys2Proof.Machine
end

