-- ==== Sys2Proof/Machine/Mram.lean ====
section
/-! DEFINITION. MRAM stores and reads, and the MRM page (R432 to R434, R452). -/

namespace Sys2Proof.Machine

def pMrm : Nat := 4

def setMrm (f : MrmSt → MrmSt) (s : State) : State := { s with mrm := f s.mrm }

/-- A store begins: a write of less than a word reads the word from the array first and is merged; a double-bit error of
that read ends the write with an error (R432). -/
def beginStore (st : MramStore) (rest : List MramStore) (s : State) : State :=
  let put := fun q => setMrm fun t => fillQueue { t with queue := q ++ rest }
  if st.data.length = 8 then put [{ st with begun := some s.clk }] s
  else
    let (ok, old, s) := mramArray st.m (st.ofs / 8) s
    if !ok then finishPart st.acc false (put [] s)
    else
      let o := st.ofs % 8
      let data := old.take o ++ st.data ++ old.drop (o + st.data.length)
      put [{ st with ofs := st.ofs / 8 * 8, data := data, begun := some s.clk }] s

/-- MRAM_STORE: the next store begins, unless one is in progress or stores are held (R432, R433). -/
def execMramStore (s : State) : Host.Outcome State Fault Refusal :=
  .next (whenServed s (match s.mrm.queue with
    | [] => s
    | st :: rest => if st.begun.isSome || !supplyQuiet s then s else beginStore st rest s))

/-- A store has its word in the array, free of errors or as a read behind it has found it (R432). -/
def endStore (st : MramStore) (rest : List MramStore) (s : State) : State :=
  let w := st.ofs / 8
  let s := breakResv (masterId st.m) (mramBase + st.ofs) 8 (s.wrBytes (mramBase + st.ofs) st.data)
  let s := setMrm (fun t => { t with
    queue := rest, cut := t.cut.filter (· ≠ w)
    bad := if st.spoilt then w :: t.bad.filter (· ≠ w) else t.bad.filter (· ≠ w) }) s
  finishPart st.acc true (s.bump pMrm 0x050)

/-- MRAM_STORE_COMPLETE: 400 ns after its begin the store has its word in the array (R432).
(DESIGN CHOICE: log entry 11) -/
def execMramStoreComplete (s : State) : Host.Outcome State Fault Refusal :=
  .next (whenServed s (match s.mrm.queue with
    | [] => s
    | st :: rest =>
      match st.begun with
      | none => s
      | some t => if s.clk < t + 200 then s else endStore st rest s))

/-- A corrected read (R432). -/
def mramCorrected (s : State) : State := raiseBit pMrm 0 (s.bump pMrm 0x044)

/-- A read of a word whose codeword shows `n` bit errors: one is corrected, two are an error that stays in the
array; what three or more look like is open (R432). -/
def mramReadErrs (m : Master) (w n : Nat) (s : State) : Bool × List Byte × State :=
  match n with
  | 0 => mramWord m w s
  | 1 =>
    let (ok, d, s) := mramWord m w s
    (ok, d, if ok then mramCorrected s else s)
  | 2 => mramDouble m w (spoilWord m w s)
  | _ =>
    let (dbl, s) := s.takeBool
    if dbl then mramDouble m w (spoilWord m w s)
    else
      let (ce, s) := s.takeBool
      let (lo, s) := s.takeFree
      let (hi, s) := s.takeFree
      (true, leBytes 4 lo.toNat ++ leBytes 4 hi.toNat, if ce then mramCorrected s else s)

/-- A read of a word by a master at the array (R20, R432). -/
def mramReadFor (m : Master) (word n : Nat) (s : State) : State :=
  if s.testHold pMrm then (s.recordErr pMrm 0x03 (masterId m) (mramBase + 8 * word)).respond false 0
  else
    let (ok, d, s) := mramReadErrs m word n s
    s.respond ok (leNat d)

/-- MRAM_READ: a read of a word by a master, with the bits of its codeword in error (R432). (DEDUCED: log entry 83) -/
def execMramRead (m : Master) (priv : Bool) (word : Fin 524288) (bitErrors : List (Fin 72)) (s : State) :
    Host.Outcome State Fault Refusal :=
  .next (issueAt m priv .read (mramBase + 8 * word.val) 8 (mramReadFor m word.val bitErrors.eraseDups.length) s)

/-- MRM_STAT (R452). (DEDUCED: log entry 83) -/
def mrmStat (s : State) : Word :=
  let waiting := (s.mrm.queue.filter fun st => st.begun.isNone).length
  BitVec.ofNat 32 (waiting * 4 + b2n (waiting ≠ 0 && !supplyQuiet s) * 2
    + b2n (s.mrm.queue.any fun st => st.begun.isSome))

/-- A write to a register of the MRM page: it has no register of its own that a write changes. -/
def mrmWrite (m : Master) (off : Nat) (v : Word) (s : State) : State :=
  regCommand m pMrm off v noCheck id s

/-- A read of the MRM page. -/
def mrmRead (off : Nat) (s : State) : Word × State :=
  if off = 0x040 then (mrmStat s, s) else (s.reg pMrm off, s)

end Sys2Proof.Machine
end

