-- ==== Sys2Proof/Machine/Interrupts.lean ====
section
/-! DEFINITION. The timer and the interrupt controllers ICA and ICS (R340 to R357). -/

namespace Sys2Proof.Machine

/-! ## Processors, sources and priorities -/

/-- Bit of a processor in TARGETS. -/
def procBit : Proc → Nat
  | .apc k => k.val
  | .gp g => g.val

/-- Index of a processor in the tables of hidden state. -/
def procIdx : Proc → Nat
  | .apc k => k.val
  | .gp g => 8 + g.val

def procCtl : Proc → Controller
  | .apc _ => .ica
  | .gp _ => .ics

/-- Offset of a processor's register block on its controller's page (R355, R356). -/
def procOff (p : Proc) (r : Nat) : Nat := 0x100 + 0x20 * procBit p + r

def procTimer : Proc → Nat
  | .apc k => 192 + k.val
  | .gp g => 200 + g.val

def procStack (p : Proc) (s : State) : List Nat := smAt (procIdx p) s.ic.prioStack

/-- RUNPRIO of a processor; ICS has no stack (R347, R348). -/
def runPrio (p : Proc) (s : State) : Nat := (procStack p s).headD 0

/-- The controller's copy of the effective priority (R347). -/
def effPrio (p : Proc) (s : State) : Nat :=
  match p with
  | .apc _ => max (runPrio p s) (s.rf 6 (procOff p 4) 5 0)
  | .gp _ => s.rf 7 (procOff p 4) 3 0

/-- TIM clocks within which a change reaches the processor's own copy: 10.67 ns and 16.67 ns (R347).
(DEDUCED: log entry 65) -/
def copyWindow : Proc → Nat
  | .apc _ => 6
  | .gp _ => 9

/-- The lowest effective priority that the processor's own copy may hold now (R347). -/
def ownLow (p : Proc) (s : State) : Nat :=
  match smGet (procIdx p) s.ic.prev with
  | some (e, t) => if s.clk < t + copyWindow p then min e (effPrio p s) else effPrio p s
  | none => effPrio p s

/-- A change of a processor's effective priority: its own copy follows within the window (R347). -/
def withCopy (p : Proc) (f : State → State) (s : State) : State :=
  let e := ownLow p s
  let s := f s
  { s with ic := { s.ic with prev := smInsert (procIdx p) (e, s.clk) s.ic.prev } }

def srcPrio (c : Controller) (n : Nat) (s : State) : Nat :=
  match c with
  | .ica => s.rf 6 (0x800 + 4 * n) 5 0
  | .ics => s.rf 7 (0x800 + 4 * n) 3 0

def srcTarget (c : Controller) (n : Nat) (p : Proc) (s : State) : Bool :=
  s.rb (ctlPage c) (0x800 + 4 * n) (16 + procBit p)

/-- Whether the source is pending and owned by the controller (R345, R346). -/
def pendingIn (c : Controller) (n : Nat) (s : State) : Bool :=
  smAt n s.ic.cnt ≠ 0 && sourceOwner n s = c

/-- The conditions of R349 apart from the processor's own report and its offer. -/
def wouldBeEligible (c : Controller) (n : Nat) (p : Proc) (s : State) : Bool :=
  procCtl p = c && pendingIn c n s && srcTarget c n p s && effPrio p s < srcPrio c n s

/-- The offer that stands to a processor (R350). (DEDUCED: log entry 65) -/
def offerTo (p : Proc) (s : State) : Option Offer := s.ic.offers.find? fun o => o.p = p

/-- mip.MEIP of a processor (R349). -/
def meip (p : Proc) (s : State) : Bool :=
  s.ic.cnt.any fun c => wouldBeEligible (procCtl p) c.1 p s

/-- The sources that could be offered, with the processor each would go to: lowest effective priority, ties to
the lowest index (R349, R350). -/
def offerChoices (c : Controller) (enabled : List Proc) (s : State) : List Offer :=
  let ps := (List.finRange 8).map Proc.apc ++ (List.finRange 2).map Proc.gp
  s.ic.cnt.filterMap fun e =>
    if s.ic.offers.any fun o => o.src = e.1 then none
    else
      let ok := ps.filter fun p => wouldBeEligible c e.1 p s && enabled.contains p && (offerTo p s).isNone
      match ok with
      | [] => none
      | p :: rest =>
        let best := rest.foldl (fun b q => if effPrio q s < effPrio b s then q else b) p
        some { ctl := c, p := best, src := e.1, prio := srcPrio c e.1 s }

/-- The source of highest PRIO, ties to the lowest number (R350). -/
def bestOffer : List Offer → Option Offer
  | [] => none
  | o :: os => some (os.foldl (fun b q => if b.prio < q.prio then q else b) o)

/-- A processor that runs (R342, R411, R449). (PRESUMED: log entry 21) -/
def procRuns (p : Proc) (s : State) : Bool :=
  clocked s &&
    match p with
    | .apc k => apcRuns k.val s
    | .gp g => gpRuns g.val s

/-- INTERRUPT_OFFER, `enabled` being the processors that report themselves interruptible (R350). -/
def execInterruptOffer (c : Controller) (enabled : List Proc) (s : State) :
    Host.Outcome State Fault Refusal :=
  .next (whenClocked s (match bestOffer (offerChoices c (enabled.filter fun p => procRuns p s) s) with
    | none => s
    | some o => { s with ic := { s.ic with offers := s.ic.offers ++ [o] } }))

def dropOffer (o : Offer) (s : State) : State :=
  { s with ic := { s.ic with offers := s.ic.offers.erase o } }

/-- ICx_VBASE. -/
def vbase (c : Controller) (s : State) : Nat := s.pair (ctlPage c) 0x040

/-- mcause of the machine external interrupt on a processor (R353). (PRESUMED: log entry 21) -/
def trapCause : Proc → Nat
  | .apc _ => 0x800000000000000B
  | .gp _ => 0x8000000B

/-- The confirm of a source to a processor (R353). -/
def confirm (o : Offer) (n : Nat) (s : State) : State := 
  s.emit (.trap o.p (vbase o.ctl s + 16 * n) (trapCause o.p) n)

/-- Whether an accept is confirmed with source 511 (R352). -/
def spuriousNow (o : Offer) (s : State) : Bool :=
  smAt o.src s.ic.cnt = 0 || srcPrio o.ctl o.src s = 0 || !srcTarget o.ctl o.src o.p s
    || s.rb 7 (0x800 + 4 * o.src) 8 ≠ decide (o.ctl = .ics)

def pushPrio (p : Proc) (n : Nat) (s : State) : State :=
  match p with
  | .apc _ => { s with ic := { s.ic with prioStack := smSet (procIdx p) (n :: procStack p s) s.ic.prioStack } }
  | .gp _ => s

/-- An accept (R350, R352). (DEDUCED: log entry 65) -/
def acceptOffer (o : Offer) (s : State) : State :=
  if spuriousNow o s then
    confirm o 511 (raiseBit (ctlPage o.ctl) 1 ((dropOffer o s).bump (ctlPage o.ctl) 0x060))
  else
    confirm o o.src (pushPrio o.p o.prio (setCnt o.src (smAt o.src s.ic.cnt - 1) (dropOffer o s)))

/-- INTERRUPT_ACCEPT: the processor's own copy at the boundary lies below the level offered (R350). -/
def execInterruptAccept (p : Proc) (s : State) : Host.Outcome State Fault Refusal :=
  .next (whenClocked s (match offerTo p s with
    | none => s
    | some o => if procRuns p s && ownLow p s < o.prio then acceptOffer o s else s))

/-- INTERRUPT_DECLINE (R351). -/
def execInterruptDecline (p : Proc) (s : State) : Host.Outcome State Fault Refusal :=
  .next (whenClocked s (match offerTo p s with
    | none => s
    | some o => if procRuns p s then (dropOffer o s).bump (ctlPage o.ctl) 0x05C else s))

/-! ## The timer (R343) -/

/-- The condition of R343 on a processor's compare value. -/
def compareMet (p : Proc) (s : State) : Bool :=
  s.pairAt (ctlPage (procCtl p)) (procOff p 8) 0 ≤ s.timer

/-- The compare's event, and the note that it has been given. (DEDUCED: log entry 65) -/
def compareEvent (p : Proc) (s : State) : State :=
  icEvent (procTimer p) { s with ic := { s.ic with fired := procIdx p :: s.ic.fired } }

/-- TIMER_COMPARE (R343). -/
def execTimerCompare (p : Proc) (s : State) : Host.Outcome State Fault Refusal :=
  .next (whenClocked s (if compareMet p s && !s.ic.fired.contains (procIdx p) then compareEvent p s else s))

/-- A write of a compare value: one event when the condition holds at once (R343). -/
def compareWritten (p : Proc) (s : State) : State :=
  let s := { s with ic := { s.ic with fired := s.ic.fired.filter fun i => i ≠ procIdx p } }
  if compareMet p s then compareEvent p s else s

/-! ## The pages -/

/-- The processor whose block of registers holds an offset. -/
def blockProc (c : Controller) (off : Nat) : Proc :=
  let i := (off - 0x100) / 0x20
  match c with
  | .ica => .apc ⟨i % 8, Nat.mod_lt _ (by decide)⟩
  | .ics => .gp ⟨i % 2, Nat.mod_lt _ (by decide)⟩

/-- The check of a write of a source's configuration word (R345, R357). -/
def srcWordCheck (c : Controller) (n : Nat) (v : Word) (s : State) : Verdict :=
  let movesIn := c = .ics && bit v 8 && !fixedAssign n
  if sourceOwner n s ≠ c && !movesIn then .err 0x40
  else if c = .ics && fixedAssign n && !bit v 8 then .err 0x41
  else
    match fixedTargets n with
    | some t => if fld v 23 16 ≠ t then .err 0x41 else .ok
    | none => .ok

/-- The check of a write to a controller's page (R345, R347, R348, R357). (DEDUCED: log entry 65) -/
def ictCheck (m : Master) (c : Controller) (off : Nat) (v : Word) (s : State) : Verdict :=
  let n := fld v 8 0
  if 0x40 ≤ off && reservedSet (ctlPage c) off v then .err 0x41
  else if off = 0x048 then
    match m with
    | .apc k => if procStack (.apc k) s = [] then .err 0x42 else .ok
    | _ => .err 0x43
  else if off = 0x04C then
    if n < 160 || 191 < n then .err 0x41 else if sourceOwner n s ≠ c then .err 0x40 else .ok
  else if off = 0x050 then
    if n = 511 then .err 0x41 else if sourceOwner n s ≠ c then .err 0x40 else .ok
  else if 0x800 ≤ off then srcWordCheck c ((off - 0x800) / 4) v s
  else if c = .ica && 0x100 ≤ off && off < 0x200 && off % 0x20 = 4 then
    if masterId m = (off - 0x100) / 0x20 then .ok else .err 0x43
  else .ok

/-- The effect of an accepted write to a controller's page. -/
def ictEffect (m : Master) (c : Controller) (off : Nat) (v : Word) (s : State) : State :=
  let n := fld v 8 0
  if off = 0x048 then
    match m with
    | .apc k =>
      withCopy (.apc k) (fun s =>
        { s with ic := { s.ic with
          prioStack := smSet k.val ((procStack (.apc k) s).drop 1) s.ic.prioStack } }) s
    | _ => s
  else if off = 0x04C then icEvent n s
  else if off = 0x050 then setCnt n 0 s
  else if 0x100 ≤ off && off < 0x200 && off % 0x20 = 0xC then compareWritten (blockProc c off) s
  else s

/-- A write to a controller's page. A write of ICA_PMR or ICS_THRESH notes what the processor's own copy may
still hold (R347). -/
def ictWrite (m : Master) (c : Controller) (off : Nat) (v : Word) (s : State) : State :=
  let page := ctlPage c
  let w := regCommand m page off v (ictCheck m c off v) (ictEffect m c off v)
  if 0x100 ≤ off && off < 0x200 && off % 0x20 = 4
      && (admitWrite m page off v s).isNone && ictCheck m c off v s = .ok then
    withCopy (blockProc c off) w s
  else w s

/-- ICA_EOI (R348). -/
def execIcaEoi (m : Master) (s : State) : Host.Outcome State Fault Refusal :=
  .next (issue m .write (ctlPage .ica) 0x048 (ictWrite m .ica 0x048 0) s)

/-- SWI_SET: a write of ICx_SWI_SET (R344). -/
def execSwiSet (m : Master) (c : Controller) (src : Word) (s : State) : Host.Outcome State Fault Refusal :=
  .next (issue m .write (ctlPage c) 0x04C (ictWrite m c 0x04C src) s)

/-- CNT_CLEAR: a write of ICx_CNT_CLR (R346). -/
def execCntClear (m : Master) (c : Controller) (src : Word) (s : State) :
    Host.Outcome State Fault Refusal :=
  .next (issue m .write (ctlPage c) 0x050 (ictWrite m c 0x050 src) s)

/-- ICA_PMR_WRITE (R347). -/
def execIcaPmrWrite (m : Master) (k : Fin 8) (v : Word) (s : State) : Host.Outcome State Fault Refusal :=
  .next (issue m .write (ctlPage .ica) (procOff (.apc k) 4) (ictWrite m .ica (procOff (.apc k) 4) v) s)

/-- ICS_THRESH_WRITE (R347). -/
def execIcsThreshWrite (m : Master) (g : Fin 2) (v : Word) (s : State) :
    Host.Outcome State Fault Refusal :=
  .next (issue m .write (ctlPage .ics) (procOff (.gp g) 4) (ictWrite m .ics (procOff (.gp g) 4) v) s)

/-- LOCKSTEP_MISMATCH: the pair stops and the ZW96 withdraws (R342, R439). -/
def execLockstepMismatch (g : Fin 2) (s : State) : Host.Outcome State Fault Refusal :=
  .next (whenClocked s (withdraw 0x6 g.val { s with ic := { s.ic with stopped := s.ic.stopped ++ [g.val] } }))

/-- ICx_CNT: four counters to a word (R355). -/
def cntWord (w : Nat) (s : State) : Word :=
  let c := fun i => smAt (4 * w + i) s.ic.cnt
  BitVec.ofNat 32 (c 3 * 0x1000000 + c 2 * 0x10000 + c 1 * 0x100 + c 0)

/-- ICx_PEND (R355). -/
def pendWord (c : Controller) (w : Nat) (s : State) : Word :=
  BitVec.ofNat 32 ((List.range 32).foldl (fun n b => n + b2n (pendingIn c (32 * w + b) s) * 2 ^ b) 0)

/-- ICA_CORE_STAT and ICS_GP_STAT (R355, R356). -/
def procStat (p : Proc) (s : State) : Word :=
  let o := match offerTo p s with
    | some o => 2 ^ 31 + o.src * 2 ^ 12
    | none => 0
  BitVec.ofNat 32 (o + (procStack p s).length * 64 + runPrio p s)

/-- BLK_STAT.BLOCK of a controller's page: the processors that hold an offer (R355, R356). -/
def ictBlock (c : Controller) (s : State) : Nat :=
  (List.range 8).foldl (fun n k =>
    n + b2n (s.ic.offers.any fun o => o.ctl = c && procBit o.p = k) * 2 ^ k) 0

/-- A read of a controller's page (R355, R356). -/
def ictRead (c : Controller) (off : Nat) (s : State) : Word × State :=
  let page := ctlPage c
  if off = 0x054 then (loW s.timer, s)
  else if off = 0x058 then (hiW s.timer, s)
  else if 0x100 ≤ off && off < 0x200 && off % 0x20 = 0 then (procStat (blockProc c off) s, s)
  else if 0x400 ≤ off && off < 0x600 then (cntWord ((off - 0x400) / 4) s, s)
  else if 0x640 ≤ off && off < 0x680 then (pendWord c ((off - 0x640) / 4) s, s)
  else if 0x800 ≤ off then
    let own := sourceOwner ((off - 0x800) / 4) s = c
    match c with
    | .ica => (if own then s.reg page off else bitW 31, s)
    | .ics => (if own then s.reg page off ||| bitW 8 else 0, s)
  else (s.reg page off, s)

end Sys2Proof.Machine
end

