-- ==== Sys2Proof/Machine/Pci.lean ====
section
/-! DEFINITION. The PCIe endpoint: link, queue pairs, completions, messages and power states, and the PCI page
(R453 to R464). Accesses of the host through BAR0 and BAR2 stand in Access. -/

namespace Sys2Proof.Machine

def pPci : Nat := 139

def setPci (f : PciSt → PciSt) (s : State) : State := { s with pci := f s.pci }

def qp (q : Nat) (s : State) : QpSt := smAt q s.pci.qps

def setQp (q : Nat) (f : QpSt → QpSt) (s : State) : State :=
  setPci (fun t => { t with qps := smSet q (f (smAt q t.qps)) t.qps }) s

/-! ## Fields of a queue pair (R463) -/

def qpEn (q : Nat) (s : State) : Bool := bit (s.regAt pPci 0x098 q) 31

def qpVector (q : Nat) (s : State) : Nat := s.rfAt pPci 0x098 q 20 16

def cqEntries (q : Nat) (s : State) : Nat := 2 ^ s.rfAt pPci 0x098 q 11 8

def sqEntries (q : Nat) (s : State) : Nat := 2 ^ s.rfAt pPci 0x098 q 3 0

def modCount (q : Nat) (s : State) : Nat := s.rfAt pPci 0x09C q 31 24

def modUs (q : Nat) (s : State) : Nat := s.rfAt pPci 0x09C q 15 0

def lsqTail (q : Nat) (s : State) : Nat := (s.regAt pPci 0x0A0 q).toNat

def lsqHead (q : Nat) (s : State) : Nat := (s.regAt pPci 0x0A4 q).toNat

def cqDoorbell (q : Nat) (s : State) : Nat := s.rfAt pPci 0x0A8 q 31 16

/-! ## Link and power states (R454, R460, R461, R464) -/

/-- The link carries requests of the host. -/
def linkLive (s : State) : Bool := s.pci.link ≠ 0 && !s.pins.perstLow

/-- Traffic takes the link out of L1. -/
def linkWake (s : State) : State := setPci (fun t => { t with link := if t.link = 2 then 1 else t.link }) s

/-- Posts are held: D3hot, PERST_N low, or earlier posts still held (R461). -/
def holding (s : State) : Bool := s.pci.d3 || s.pins.perstLow || !s.pci.hold.isEmpty

/-! ## Messages (R459, R460) -/

/-- The timer of a queue pair has reached TIME_US, against the 100 MHz counter of R343. -/
def timerUp (q : Nat) (s : State) : Bool :=
  match (qp q s).start with
  | some t => t + 100 * modUs q s ≤ s.timer
  | none => false

/-- A queue pair's message is due (R459). -/
def msgDue (q : Nat) (s : State) : Bool :=
  let t := qp q s
  t.p ≠ 0 && (modCount q s ≤ t.p || timerUp q s)

/-- Send the message of a vector for the queue pairs `qs`, or set its PBA bit when it is masked (R459). -/
def sendVector (v : Nat) (qs : List Nat) (s : State) : State :=
  if s.pci.unmasked.contains v then
    let e := smAt v s.pci.vecs
    (linkWake (qs.foldl (fun s q => setQp q (fun t => { t with p := 0, start := none }) s) s)).emit
      (.msix v e.addr e.data)
  else setPci (fun t => { t with pba := if t.pba.contains v then t.pba else t.pba ++ [v] }) s

/-- The messages of the queue pairs for which `want` holds, one for each vector. -/
def sendFor (want : Nat → Bool) (s : State) : State :=
  let qs := (List.range 16).filter want
  ((qs.map fun q => qpVector q s).eraseDups).foldl (fun s' v =>
    sendVector v (qs.filter fun q => qpVector q s = v) s') s

/-- Every message that is due. (DEDUCED: log entry 85) -/
def sendDue (s : State) : State := sendFor (fun q => msgDue q s) s

/-- The message of every queue pair with completions since its last one (R460). -/
def sendPending (s : State) : State := sendFor (fun q => (qp q s).p ≠ 0) s

/-- Held posts of a queue pair. -/
def heldPosts (q : Nat) (s : State) : Nat := (s.pci.hold.filter fun h => h.q = q).length

/-- Held posts ask for a PME; while PERST_N is low, with the masks that stood when it fell (R453, R461).
(DEDUCED: log entry 84) -/
def pmeDue (q : Nat) (s : State) : Bool :=
  heldPosts q s ≠ 0 && (timerUp q s || modCount q s ≤ heldPosts q s)
    && (if s.pins.perstLow then s.pci.armed else s.pci.unmasked).contains (qpVector q s)

/-- PCI sets PME_Status; with PME_En it leaves L1 and sends PM_PME; with PERST_N low it drives WAKE (R461).
(DEDUCED: log entry 84) -/
def pmeRaise (s : State) : State :=
  let s := setPci (fun t => { t with pme := true }) s
  if s.pins.perstLow then
    if s.pwr.wakeLow then s else { s with pwr := { s.pwr with wakeLow := true } }.emit (.wake true)
  else if s.pci.link = 2 && s.pci.pmeEn then (linkWake s).emit .pmPme
  else s

/-- MSIX_MESSAGE_DUE (R459, R461). -/
def execMsixMessageDue (q : Fin 16) (s : State) : Host.Outcome State Fault Refusal :=
  .next (whenClocked s (if s.pci.d3 || s.pins.perstLow then
      if pmeDue q.val s && !s.pci.pme then pmeRaise s else s
    else if msgDue q.val s then
      sendVector (qpVector q.val s)
        ((List.range 16).filter fun r => qpVector r s = qpVector q.val s && msgDue r s) s
    else s))

/-- A vector is unmasked; with its PBA bit set it sends its message (R459). (DEDUCED: log entry 84) -/
def unmaskVector (v : Nat) (s : State) : State :=
  let s := setPci (fun t => { t with
    unmasked := if t.unmasked.contains v then t.unmasked else t.unmasked ++ [v] }) s
  if s.pci.pba.contains v then
    sendVector v ((List.range 16).filter fun q => qpVector q s = v && (qp q s).p ≠ 0)
      (setPci (fun t => { t with pba := t.pba.erase v }) s)
  else s

/-- MSIX_VECTOR_UNMASK (R459). (DEDUCED: log entry 84) -/
def execMsixVectorUnmask (v : Fin 32) (s : State) : Host.Outcome State Fault Refusal :=
  .next (whenClocked s (if !linkLive s || s.pci.d3 then s else unmaskVector v.val s))

/-! ## Completions (R458, R461) -/

/-- The completion tail after the posts that are held. -/
def tailAfterHold (q : Nat) (s : State) : Nat := ((qp q s).cqTail + heldPosts q s) % cqEntries q s

/-- The completion ring of a queue pair is full (R458). (DEDUCED: log entry 85) -/
def cqIsFull (q : Nat) (s : State) : Bool :=
  (tailAfterHold q s + 1) % cqEntries q s = cqDoorbell q s % cqEntries q s

/-- Write a completion at the host completion tail (R458). -/
def writeCpl (h : HeldPost) (s : State) : State :=
  let t := qp h.q s
  let a := s.pairAt pPci 0x088 h.q + 16 * t.cqTail
  let n := cqEntries h.q s
  let s := (linkWake s).emit (.hostWrite a (h.head ++ leBytes 2 (b2n t.phase * 0x8000 + h.status)))
  setQp h.q (fun t => { t with
    cqTail := (t.cqTail + 1) % n
    phase := if t.cqTail + 1 = n then !t.phase else t.phase
    p := min (t.p + 1) 255
    start := t.start.orElse fun _ => some s.timer }) s

/-- The entry of a post but for its PHASE (R458). -/
def postEntry (m : Master) (q : Nat) (s : State) : HeldPost :=
  let data := fun off => (s.regAt pPci off (masterId m)).toNat
  let d2 := s.regAt pPci 0x0C8 (masterId m)
  { q
    head := leBytes 4 (data 0x0C0) ++ leBytes 4 (data 0x0C4) ++ leBytes 2 (lsqHead q s) ++ leBytes 2 q
      ++ leBytes 2 (fld d2 15 0)
    status := fld d2 30 16 }

/-- The code that refuses a post (R458, R461). -/
def postCode (q : Nat) (s : State) : Option Nat :=
  if !s.enabled pPci then some 0x07
  else if !qpEn q s then some 0x44
  else if cqIsFull q s then some 0x42
  else if holding s && 64 ≤ s.pci.hold.length then some 0x45
  else none

/-- An accepted post is held, or written; with COUNT = 1 or TIME_US = 0 it is signalled at once (R459, R461).
(DEDUCED: log entry 85) -/
def takePost (m : Master) (q : Nat) (s : State) : State :=
  let h := postEntry m q s
  if holding s then
    setQp q (fun t => { t with start := if heldPosts q s = 0 then some s.timer else t.start })
      (setPci (fun t => { t with hold := t.hold ++ [h] }) s)
  else
    let s := writeCpl h s
    if modCount q s = 1 || modUs q s = 0 then sendVector (qpVector q s) [q] s else s

/-- What a refused post leaves besides its code. (DEDUCED: log entry 85) -/
def postRefused (code : Nat) (s : State) : State :=
  if code = 0x42 then raiseBit pPci 16 s
  else if code = 0x45 then s.bump pPci 0x0D4
  else s

/-! ## The PCI page (R454, R463) -/

/-- The high word of a queue address: the address that it would commit is not aligned, or above bit 39. -/
def qpAddrBad (m : Master) (off : Nat) (v : Word) (s : State) : Bool :=
  let low := heldOf pPci (off - 4) (winIdx .qp m s) s
  low.toNat % 64 ≠ 0 || (off = 0x094 && 255 < v.toNat)

/-- The address of BAR2 that a high word would commit is not aligned to the size of BAR2. -/
def xlatBad (v : Word) (s : State) : Bool :=
  let low := fld (heldOf pPci 0x04C 0 s) 31 20 * 2 ^ 20
  (fld v 7 0 * 2 ^ 32 + low) % 2 ^ s.rf pPci 0x048 5 0 ≠ 0

/-- The value of a register lies outside its range (R463). -/
def pciRange (m : Master) (off : Nat) (v : Word) (s : State) : Bool :=
  match off with
  | 0x048 => fld v 5 0 < 20 || 36 < fld v 5 0
  | 0x050 => xlatBad v s
  | 0x054 => bit v 0 && (s.rf pPci 0x040 15 0 = 0 || s.rf pPci 0x040 15 0 = 0xFFFF)
  | 0x084 | 0x08C | 0x094 => qpAddrBad m off v s
  | 0x098 => fld v 3 0 < 4 || 12 < fld v 3 0 || fld v 11 8 < 4 || 12 < fld v 11 8
  | 0x09C => fld v 31 24 = 0
  | _ => false

/-- The check of a write to the PCI page. (DEDUCED: log entry 85) -/
def pciCheck (m : Master) (off : Nat) (v : Word) (s : State) : Verdict :=
  let q := winIdx .qp m s
  let mask : Word := 0x001F0F0F
  if (off = 0x040 || off = 0x044 || off = 0x048) && s.rb pPci 0x054 0 then .err 0x43
  else if 0x080 ≤ off && off < 0x0B0 && off ≠ 0x0A4 && qpEn q s
      && (off ≠ 0x098 || (v &&& mask) ≠ (s.regAt pPci 0x098 q &&& mask)) then .err 0x41
  else if pciRange m off v s then .err 0x40
  else if off = 0x0CC then
    match postCode (fld v 3 0) s with
    | some c => .err c
    | none => .ok
  else .ok

/-- The link goes down or is reset. -/
def linkDown (s : State) : State :=
  let was := s.pci.link
  let s := setPci (fun t => { t with link := 0, width := 0, speed := 0 }) s
  if was = 0 then s else raiseBit pPci 20 s

/-- The effect of an accepted write to the PCI page. A write of QP_CFG starts the first pass through the
completion ring (R377, R458). -/
def pciEffect (m : Master) (off : Nat) (v : Word) (s : State) : State :=
  match off with
  | 0x054 => if bit v 0 then s else linkDown s
  | 0x098 => setQp (winIdx .qp m s) (fun t => { t with cqTail := 0, phase := true }) s
  | 0x0CC => takePost m (fld v 3 0) s
  | _ => s

/-- A write to a register of the PCI page. -/
def pciWrite (m : Master) (off : Nat) (v : Word) (s : State) : State :=
  let t := regCommand m pPci off v (pciCheck m off v) (pciEffect m off v) s
  match admitWrite m pPci off v s, off, postCode (fld v 3 0) s with
  | none, 0x0CC, some c => postRefused c t
  | _, _, _ => t

/-- PCI_STAT (R463). -/
def pciStat (s : State) : Word :=
  BitVec.ofNat 32 (s.pci.width * 0x1000 + s.pci.speed * 0x100 + b2n s.pci.d3 * 0xC0
    + (if s.pins.perstLow then 3 else s.pci.link) * 0x10 + b2n s.pci.pme)

/-- PCI_QPEND (R463). -/
def qpPend (s : State) : Word :=
  BitVec.ofNat 32 ((List.range 16).foldl (fun n q => n + b2n (lsqTail q s ≠ lsqHead q s) * 2 ^ q) 0)

/-- QP_STAT (R463). -/
def qpStat (q : Nat) (s : State) : Word :=
  let t := qp q s
  BitVec.ofNat 32 (heldPosts q s * 0x10000 + t.p * 0x100 + b2n t.phase)

/-- A read of the PCI page. -/
def pciRead (m : Master) (off : Nat) (s : State) : Word × State :=
  match off with
  | 0x058 => (pciStat s, s)
  | 0x060 => (qpPend s, s)
  | 0x0AC => (qpStat (winIdx .qp m s) s, s)
  | _ =>
    match findRow pPci off with
    | some r => (s.regAt pPci off (winIdx r.win m s), s)
    | none => (0, s)

/-- The hold is emptied, and with it the timers that held posts started. -/
def dropHold (s : State) : State :=
  setPci (fun t => { t with
    hold := [], qps := t.qps.map fun e => (e.1, { e.2 with start := if e.2.p = 0 then none else e.2.start }) }) s

/-- The page is disabled or reset: what it held is abandoned (R17, R19). -/
def pciStop (s : State) : State := dropHold (linkDown s)

/-- PCI_LINK_ENABLE: a write of PCI_CTRL.LINK_EN = 1 (R454). -/
def execPciLinkEnable (m : Master) (s : State) : Host.Outcome State Fault Refusal :=
  .next (issue m .write pPci 0x054 (pciWrite m 0x054 1) s)

/-- PCI_CPL_POST: a write of PCI_CPL_POST (R458). -/
def execPciCplPost (m : Master) (v : Word) (s : State) : Host.Outcome State Fault Refusal :=
  .next (issue m .write pPci 0x0CC (pciWrite m 0x0CC v) s)

/-! ## What the host and the link do (R454 to R457, R460 to R462) -/

/-- PCIE_LINK_UP at a width in lanes and a speed code. -/
def execPcieLinkUp (width speed : Nat) (s : State) : Host.Outcome State Fault Refusal :=
  .next (whenClocked s (if !s.enabled pPci || !s.rb pPci 0x054 0 || s.pins.perstLow || s.pci.link ≠ 0
      || !(width = 1 || width = 2 || width = 4 || width = 8) || speed = 0 || 5 < speed then s
    else raiseBit pPci 19 (setPci (fun t => { t with link := 1, width := width, speed := speed }) s)))

/-- PCIE_LINK_DOWN. -/
def execPcieLinkDown (s : State) : Host.Outcome State Fault Refusal := .next (whenClocked s (linkDown s))

/-- PERST_ASSERT: the link, the configuration space and the MSI-X table are reset; queues and held completions
stay, and the masks as they stood decide on a PME (R453, R454, R461). (DEDUCED: log entry 84) -/
def execPerstAssert (s : State) : Host.Outcome State Fault Refusal :=
  .next (if s.pins.perstLow then s
    else
      let s := if clocked s then linkDown s else s
      let s := setPci (fun t => { t with
        d3 := false, pme := false, pmeEn := false, vecs := [], unmasked := [], pba := [], armed := t.unmasked
        aer := none }) s
      { s with pins := { s.pins with perstLow := true } })

/-- PERST_RELEASE: PERST_N rises; a drive of WAKE ends (R461). -/
def execPerstRelease (s : State) : Host.Outcome State Fault Refusal :=
  let s := { s with pins := { s.pins with perstLow := false } }
  .next (if s.pwr.wakeLow then { s with pwr := { s.pwr with wakeLow := false } }.emit (.wake false) else s)

/-- The function serves the host's memory accesses: the page is enabled, the link is up, and it is in D0 (R455). -/
def barServed (s : State) : Bool := s.enabled pPci && linkLive s && !s.pci.d3

/-- The host rings a doorbell (R457). -/
def ringDoorbell (q : Nat) (completion : Bool) (v : Word) (s : State) : State :=
  let size := if completion then cqEntries q s else sqEntries q s
  if !qpEn q s || size ≤ v.toNat then raiseBit pPci 18 s
  else if completion then s.setFldAt pPci 0x0A8 q 31 16 v.toNat
  else s.setFldAt pPci 0x0A8 q 15 0 v.toNat

/-- HOST_DOORBELL (R457). -/
def execHostDoorbell (q : Fin 16) (completion : Bool) (v : Word) (s : State) :
    Host.Outcome State Fault Refusal :=
  .next (whenClocked s (if barServed s then ringDoorbell q.val completion v (linkWake s) else s))

/-! ### BAR4 (R455, R457, R459) -/

/-- The 16 bytes of an entry of the MSI-X table: address, data, vector control with the mask in bit 0. -/
def msixEntry (v : Nat) (s : State) : List Byte :=
  let e := smAt v s.pci.vecs
  leBytes 8 e.addr ++ leBytes 4 e.data ++ leBytes 4 (b2n (!s.pci.unmasked.contains v))

/-- A byte of BAR4; the doorbells and what is not laid out read 0. (DEDUCED: log entry 84) -/
def bar4Byte (o : Nat) (s : State) : Byte :=
  if o < 0x200 then (msixEntry (o / 16) s).getD (o % 16) 0
  else if 0x8000 ≤ o ∧ o < 0x8004 then
    BitVec.ofNat 8 ((List.range 8).foldl (fun n i => n + b2n (s.pci.pba.contains (8 * (o - 0x8000) + i)) * 2 ^ i) 0)
  else 0

/-- An entry of the table is written: a vector whose mask bit is set is masked, one whose mask bit is cleared sends what
its PBA bit owes (R459). (DEDUCED: log entry 84) -/
def putEntry (v : Nat) (e : List Byte) (s : State) : State :=
  let was := s.pci.unmasked.contains v
  let s := setPci (fun t => { t with
    vecs := smSet v { addr := leNat (e.take 8), data := leNat ((e.drop 8).take 4) } t.vecs }) s
  if leNat ((e.drop 12).take 1) % 2 = 1 then setPci (fun t => { t with unmasked := t.unmasked.erase v }) s
  else if was then s
  else unmaskVector v s

/-- A write to BAR4: the entries of the table that it reaches, and the doorbells of which it has all four bytes.
(DEDUCED: log entry 84) -/
def bar4Write (o : Nat) (bs : List Byte) (s : State) : State :=
  let s := (List.range 32).foldl (fun s v =>
    if 16 * v < o + bs.length && o < 16 * v + 16 then
      putEntry v ((msixEntry v s).zipIdx.map fun (b, i) =>
        if o ≤ 16 * v + i then bs.getD (16 * v + i - o) b else b) s
    else s) s
  (List.range 32).foldl (fun s d =>
    let a := 0xC000 + 4 * d
    if o ≤ a && a + 4 ≤ o + bs.length then
      ringDoorbell (d / 2) (d % 2 = 1) (BitVec.ofNat 32 (leNat ((bs.drop (a - o)).take 4))) s
    else s) s

/-- An access of the host to BAR4. (DEDUCED: log entry 84) -/
def bar4Access (o : Nat) (a : Access) (s : State) : State :=
  if 0x10000 < o + accLen a then s.respond false 0
  else
    match a with
    | .write bs => (bar4Write o bs s).respond true 0
    | _ => s.respond true (leNat ((List.range (accLen a)).map fun i => bar4Byte (o + i) s))

/-- What the host's write of a D-state gives the two PME bits of the same register: PME_En as written, and PME_Status cleared
by a 1 written to it (R461). (DEDUCED: log entry 84) -/
def putPme (pmeEn pmeClear : Bool) (s : State) : State :=
  setPci (fun t => { t with pmeEn, pme := t.pme && !pmeClear }) s

/-- HOST_D3HOT: pending messages are sent before the write completes; the link then rests in L1 (R460, R461).
(DEDUCED: log entry 84) -/
def execHostD3hot (pmeEn pmeClear : Bool) (s : State) : Host.Outcome State Fault Refusal :=
  .next (whenClocked s (if !linkLive s || s.pci.d3 then s
    else raiseBit pPci 21 (putPme pmeEn pmeClear (setPci (fun t => { t with d3 := true, link := 2 }) (sendPending s)))))

/-- The held entries are written in post order, then the messages that are due are sent (R461). -/
def flushHold (s : State) : State :=
  let s := s.pci.hold.foldl (fun s h => writeCpl h s) (setPci (fun t => { t with hold := [] }) s)
  sendDue s

/-- HOST_D0: the host returns the function to D0, with Bus Master Enable as given (R461). (DEDUCED: log entry 84) -/
def execHostD0 (busMaster pmeEn pmeClear : Bool) (s : State) : Host.Outcome State Fault Refusal :=
  .next (whenClocked s (if !linkLive s then s
    else
      let was := s.pci.d3
      let s := putPme pmeEn pmeClear (setPci (fun t => { t with d3 := false }) (linkWake s))
      let s := if was then raiseBit pPci 21 s else s
      if busMaster then flushHold s else s))

/-- ASPM_L1_ENTRY (R460). -/
def execAspmL1Entry (s : State) : Host.Outcome State Fault Refusal :=
  .next (whenClocked s (if s.pci.link ≠ 1 || s.pins.perstLow then s
    else setPci (fun t => { t with link := 2 }) (sendPending s)))

/-- FUNCTION_LEVEL_RESET (R462). (DEDUCED: log entry 84) -/
def execFunctionLevelReset (s : State) : Host.Outcome State Fault Refusal :=
  .next (whenClocked s (if !linkLive s then s
    else
      let n := s.pci.hold.length
      let s := (List.range 16).foldl (fun s q => s.setFldAt pPci 0x098 q 31 31 0) s
      setPci (fun t => { t with pba := [] }) (dropHold (s.bumpAt pPci 0x0D4 0 n))))

end Sys2Proof.Machine
end

