-- ==== Sys2Proof/Machine/RsCode.lean ====
section
/-! DEFINITION. The check symbols of DRAM: the Reed–Solomon code of R313, its bounded decoder and the poison
pattern of R318. -/

namespace Sys2Proof.Machine

/-! ## GF(2⁸) with the polynomial x⁸ + x⁴ + x³ + x² + 1 -/

def gfMulLoop : Nat → Nat → Nat → Nat → Nat
  | 0, _, _, acc => acc
  | n + 1, a, b, acc =>
    let a' := if 128 ≤ a then (2 * a) ^^^ 0x11D else 2 * a
    gfMulLoop n a' (b / 2) (if b % 2 = 1 then acc ^^^ a else acc)

def gfMul (a b : Nat) : Nat := gfMulLoop 8 a b 0

def gfPow (a : Nat) : Nat → Nat
  | 0 => 1
  | n + 1 => gfMul a (gfPow a n)

/-- The inverse a²⁵⁴, by squaring. -/
def gfInv (a : Nat) : Nat :=
  let sq := fun x => gfMul x x
  let a2 := sq a
  let a4 := sq a2
  let a8 := sq a4
  let a16 := sq a8
  let a32 := sq a16
  let a64 := sq a32
  gfMul (gfMul (gfMul a2 a4) (gfMul a8 a16)) (gfMul (gfMul a32 a64) (sq a64))

/-- A polynomial, highest coefficient first, at a point. -/
def gfEval (p : List Nat) (x : Nat) : Nat := p.foldl (fun acc c => gfMul acc x ^^^ c) 0

/-- A polynomial, lowest coefficient first, at a point. -/
def gfEvalLow (p : List Nat) (x : Nat) : Nat := gfEval p.reverse x

def xorLists (a b : List Nat) : List Nat := List.zipWith (· ^^^ ·) a b

/-! ## The code -/

/-- g(x) without its leading coefficient, highest first. -/
def rsGen : List Nat :=
  let mulRoot := fun (p : List Nat) (r : Nat) => xorLists (p ++ [0]) (0 :: p.map fun c => gfMul c r)
  ((List.range 16).foldl (fun p i => mulRoot p (gfPow 2 i)) [1]).drop 1

/-- The check symbols of 64 data symbols (R313). -/
def rsCheck (m : List Nat) : List Nat :=
  m.foldl (fun r d =>
    let fb := d ^^^ r.headD 0
    xorLists (r.drop 1 ++ [0]) (rsGen.map fun g => gfMul g fb)) (List.replicate 16 0)

/-- The 16 syndromes of 80 symbols. -/
def rsSyndrome (c : List Nat) : List Nat := (List.range 16).map fun i => gfEval c (gfPow 2 i)

/-- The state of the search for the locator: locator and auxiliary polynomial (lowest first), length, gap,
auxiliary discrepancy. -/
structure RsSearch where
  c : List Nat
  b : List Nat
  l : Nat
  m : Nat
  d : Nat

def padTo (n : Nat) (p : List Nat) : List Nat := p ++ List.replicate (n - p.length) 0

def addPoly (a b : List Nat) : List Nat :=
  let n := max a.length b.length
  xorLists (padTo n a) (padTo n b)

/-- One step of the search over the syndromes (Berlekamp and Massey). -/
def rsStep (syn : List Nat) (q : RsSearch) (n : Nat) : RsSearch :=
  let disc := (List.range (q.l + 1)).foldl (fun a i => a ^^^ gfMul (q.c.getD i 0) (syn.getD (n - i) 0)) 0
  if disc = 0 then { q with m := q.m + 1 }
  else
    let k := gfMul disc (gfInv q.d)
    let c := addPoly q.c (List.replicate q.m 0 ++ q.b.map fun x => gfMul k x)
    if 2 * q.l ≤ n then { c, b := q.c, l := n + 1 - q.l, m := 1, d := disc }
    else { q with c, m := q.m + 1 }

/-- Decode a syndrome: the positions and values of at most 8 symbols in error, or none. (DEDUCED: log entry 63) -/
def rsDecode (syn : List Nat) : Option (List (Nat × Nat)) :=
  let q := (List.range 16).foldl (rsStep syn) { c := [1], b := [1], l := 0, m := 1, d := 1 }
  if 8 < q.l then none
  else
    let roots := (List.range 80).filter fun i => gfEvalLow q.c (gfInv (gfPow 2 (79 - i))) = 0
    if roots.length ≠ q.l then none
    else
      let omega := (List.range 16).map fun n =>
        (List.range (n + 1)).foldl (fun a i => a ^^^ gfMul (q.c.getD i 0) (syn.getD (n - i) 0)) 0
      let deriv := (List.range q.c.length).map fun i => if i % 2 = 0 then q.c.getD (i + 1) 0 else 0
      let fix := roots.map fun i =>
        let x := gfPow 2 (79 - i)
        let xi := gfInv x
        (i, gfMul x (gfMul (gfEvalLow omega xi) (gfInv (gfEvalLow deriv xi))))
      let word := (List.range 80).map fun i => (fix.lookup i).getD 0
      if rsSyndrome word = syn then some fix else none

/-! ## Lines (R314, R318) -/

/-- The poison pattern: 0xA5 on every check symbol. -/
def poisonPattern : List Nat := List.replicate 64 0 ++ List.replicate 16 0xA5

/-- Symbol errors as a word of 80 symbols. -/
def errWord (e : SymErrs) : List Nat :=
  (List.range 80).map fun i => e.foldl (fun a p => if p.1 = i then a ^^^ p.2.toNat else a) 0

inductive LineOutcome where
  | clean
  | corrected (fix : List (Nat × Nat))
  | poison
  | uncorrectable
  deriving DecidableEq, Repr

/-- A failure of one ×8 device in more than 8 symbols: detected, whatever its syndrome (R314).
(DEDUCED: log entry 63) -/
def deviceFailure (x8 : Bool) (e : SymErrs) : Bool :=
  let bad := (List.range 80).filter fun i => (errWord e).getD i 0 ≠ 0
  x8 && 8 < bad.length && bad.all fun i => i / 16 = bad.headD 0 / 16

/-- The outcome of reading a line that returns `e` on its stored codeword (R314, R318). (DEDUCED: log entry 63) -/
def lineOutcome (x8 poisoned : Bool) (e : SymErrs) : LineOutcome :=
  let r := if poisoned then xorLists poisonPattern (errWord e) else errWord e
  let syn := rsSyndrome r
  let pat := rsSyndrome poisonPattern
  if deviceFailure x8 e then .uncorrectable
  else if syn.all (· = 0) then .clean
  else if syn = pat then .poison
  else
    match rsDecode syn with
    | some fix => .corrected fix
    | none => if (rsDecode (xorLists syn pat)).isSome then .poison else .uncorrectable

/-- What the delivered symbols differ by from the stored ones after the outcome. -/
def lineResidue (e : SymErrs) (fix : List (Nat × Nat)) : List Nat :=
  xorLists (errWord e) ((List.range 80).map fun i => (fix.lookup i).getD 0)

/-- The value XORed into line byte `k` by a word of symbols (R313): with ×8 devices symbol 16*d* + *b* is byte
4*b* + *d*; with ×4 devices it holds a device's nibbles of two beats. -/
def residueByte (x8 : Bool) (w : List Nat) (k : Nat) : Nat :=
  let b := k / 4
  let q := k % 4
  if x8 then w.getD (16 * q + b) 0
  else
    let nib := fun d => w.getD (8 * d + b / 2) 0 / (if b % 2 = 0 then 1 else 16) % 16
    nib (2 * q) + 16 * nib (2 * q + 1)

/-- The data symbols of a line, by the mapping of R313. -/
def lineSymbols (x8 : Bool) (line : List Byte) : List Nat :=
  let by' := fun b q => ((line.getD (4 * b + q) 0).toNat)
  if x8 then (List.range 64).map fun i => by' (i % 16) (i / 16)
  else (List.range 64).map fun i =>
    let d := i / 8
    let j := i % 8
    let nib := fun beat => by' beat (d / 2) / (if d % 2 = 0 then 1 else 16) % 16
    nib (2 * j) + 16 * nib (2 * j + 1)

/-- The codeword that stores a line: data symbols and check symbols, a poisoned one with the pattern
(R313, R318). -/
def storedCodeword (x8 poisoned : Bool) (line : List Byte) : List Nat :=
  let m := lineSymbols x8 line
  let c := m ++ rsCheck m
  if poisoned then xorLists c poisonPattern else c

end Sys2Proof.Machine
end

