-- ==== Sys2Proof/Machine/Touch.lean ====
section
/-! DEFINITION. Console touch sensing: electrodes, conversions, scans, and the TCH page (R392 to R395, R404 to R409).
-/

namespace Sys2Proof.Machine

def pTch : Nat := 5

def setTch (f : TchSt → TchSt) (s : State) : State := { s with tch := f s.tch }

/-! ## Pins and keys (R392, R395) -/

/-- TCH_PIN_MODE of a pin. -/
def pinMode (p : Nat) (s : State) : Nat :=
  let j := p % 8
  s.rf pTch (0x080 + 4 * (p / 8)) (4 * j + 3) (4 * j)

/-- The pins of a mode, in ascending order. -/
def pinsOf (mode : Nat) (s : State) : List Nat := (List.range 96).filter fun p => pinMode p s = mode

def mSelf : Nat := 1

def mStx : Nat := 2

def mSrx : Nat := 3

def mKtx : Nat := 4

def mKrx : Nat := 5

/-- A pin has a recorded fault; there are 96 pins (R406). (DEDUCED: log entry 73) -/
def pinFault (p : Nat) (s : State) : Bool := p < 96 && s.rb pTch (0x0C4 + 4 * (p / 32)) (p % 32)

def kOff (k r : Nat) : Nat := 0x400 + 0x10 * k + r

def keyCfg (k : Nat) (s : State) : Word := s.reg pTch (kOff k 0)

def keyEn (k : Nat) (s : State) : Bool := bit (keyCfg k s) 31

def keyWatch (k : Nat) (s : State) : Bool := bit (keyCfg k s) 30

def keyMutual (k : Nat) (s : State) : Bool := bit (keyCfg k s) 29

def keyTx (k : Nat) (s : State) : Nat := fld (keyCfg k s) 22 16

def keyPin (k : Nat) (s : State) : Nat := fld (keyCfg k s) 14 8

def keysOn (s : State) : List Nat := (List.range 64).filter fun k => keyEn k s

/-- KEY_STAT.STATE. -/
def keyState (k : Nat) (s : State) : Nat := s.rf pTch (kOff k 0xC) 31 30

def setKeyState (k st : Nat) (s : State) : State := s.setFld pTch (kOff k 0xC) 31 30 st

/-- The key's PIN, or the TX_PIN of a mutual key, has a recorded fault (R399, R406). (DEDUCED: log entry 73) -/
def keyFaulty (k : Nat) (s : State) : Bool :=
  pinFault (keyPin k s) s || (keyMutual k s && pinFault (keyTx k s) s)

/-- The KTX pins that keys of a set name, each once. -/
def txPins (keys : List Nat) (s : State) : List Nat :=
  (List.range 128).filter fun p => keys.any fun k => keyMutual k s && keyTx k s = p

/-- The self conversions of a scan, and all its conversions (R393). -/
def selfConversions (s : State) : Nat := roundUp (pinsOf mSelf s).length 32

def conversions (s : State) : Nat :=
  selfConversions s + (pinsOf mStx s).length + (txPins (keysOn s) s).length

/-- The keys of the WATCH set, its self conversions and all its conversions (R404). -/
def watchKeys (s : State) : List Nat := (keysOn s).filter fun k => keyWatch k s

def watchSelf (s : State) : Nat :=
  roundUp ((List.range 128).filter fun p => (watchKeys s).any fun k => !keyMutual k s && keyPin k s = p).length 32

def watchConversions (s : State) : Nat :=
  watchSelf s + (if s.rf pTch 0x0E0 1 0 = 3 then (pinsOf mStx s).length else 0) + (txPins (watchKeys s) s).length

/-- The length of some conversions, in ns (R393). -/
def convNs (n : Nat) (s : State) : Nat := n * (s.rf pTch 0x044 10 0 * 250 + 2000)

/-- A key names pins of other modes than its own (R395). -/
def keyMisnamed (k : Nat) (s : State) : Bool :=
  if keyMutual k s then pinMode (keyPin k s) s ≠ mKrx || 95 < keyTx k s || pinMode (keyTx k s) s ≠ mKtx
  else pinMode (keyPin k s) s ≠ mSelf

/-- Two keys name the same electrode (R395). -/
def keyPlace (k : Nat) (s : State) : Nat × Nat × Bool := (keyPin k s, keyTx k s, keyMutual k s)

def keysClash (s : State) : Bool :=
  (keysOn s).any fun k => (keysOn s).any fun j => j < k && keyPlace j s = keyPlace k s

/-- Scanning is refused (R395). (DEDUCED: log entry 72) -/
def scanRefused (s : State) : Bool :=
  let tx := (pinsOf mStx s).length
  let rx := (pinsOf mSrx s).length
  32 < tx || 32 < rx || 1024 < tx * rx || (decide (tx = 0) != decide (rx = 0)) || 32 < (pinsOf mKrx s).length
    || (keysOn s).any (fun k => keyMisnamed k s) || keysClash s
    || s.rf pTch 0x044 31 16 * 1000 < convNs (conversions s) s + 100000
    || 16 < watchConversions s || s.rf pTch 0x058 3 0 = 0

/-! ## Keys (R396 to R400) -/

def setKey (k : Nat) (f : TchKey → TchKey) (s : State) : State :=
  setTch (fun t => { t with keys := smSet k (f (smAt k t.keys)) t.keys }) s

/-- A key enters INIT (R396). -/
def keyInit (k : Nat) (s : State) : State := setKey k (fun _ => {}) (s.setReg pTch (kOff k 0xC) 0)

/-! ## A scan (R393 to R404) -/

/-- TCH_STAT.STATE is WATCH. -/
def tchWatch (s : State) : Bool := s.dev = devWatch

/-- The period of scans in TIM clocks: PERIOD_US, and in WATCH PERIOD_10MS (R394, R404). (DEDUCED: log entry 70) -/
def scanPeriod (s : State) : Nat :=
  500 * (if tchWatch s then s.latchedFld pTch 0x0E0 15 8 * 10000 else s.rf pTch 0x044 31 16)

/-- A scan start falls due; a running scan or diagnostic takes its place (R394, R404, R406).
(DEDUCED: log entry 70) -/
def scanStart (s : State) : State :=
  let t := setTch (fun t => { t with due := t.due + scanPeriod s }) s
  if s.tch.running then raiseBit pTch 5 t
  else if s.rb pTch 0x040 2 then t
  else
    setTch (fun t => { t with us := (s.tch.due - t.on) / 500, running := true, watch := tchWatch s, began := s.clk })
      (takeCrossed pTch 129 t)

/-- TCH has acknowledged the request to enter WATCH, or is there: it writes no reports (R404).
(DEDUCED: log entry 73) -/
def tchQuiet (s : State) : Bool := tchWatch s || s.pwr.watchAck

/-- TOUCH_SCAN_START, when SCAN_EN = 1 and the period has passed; in WATCH only with a gesture, and none between the
acknowledgement of the request and WATCH (R394, R404). -/
def execTouchScanStart (s : State) : Host.Outcome State Fault Refusal :=
  .next (whenAwake s (if !s.rb pTch 0x040 0 || s.clk < s.tch.due then s
    else if tchWatch s && s.latchedFld pTch 0x0E0 1 0 = 0 then s
    else if tchQuiet s && !tchWatch s then setTch (fun t => { t with due := t.due + scanPeriod s }) s
    else scanStart s))

/-- Entry to WATCH: the values that have crossed are taken, and the first scan of the WATCH set is due one of its periods
later (R395, R404). (DEDUCED: log entry 70) -/
def tchAsleep (s : State) : State :=
  let s := takeCrossed pTch 129 s
  setTch (fun t => { t with due := s.clk + 5000000 * s.latchedFld pTch 0x0E0 15 8 }) s

/-- A wake: scans are due again where the period from the write of SCAN_EN = 1 puts them, and RESYNC reports with the first
of them in RUN (R394, R405). (DEDUCED: log entry 70) -/
def tchAwake (s : State) : TchSt :=
  let period := 500 * s.rf pTch 0x044 31 16
  { s.tch with due := s.tch.on + period * roundUp (s.clk - s.tch.on) period, wake := false, resync := true }

/-- The keys that a gesture names (R405). -/
def gestureKeys (cfg keys : Word) : List Nat :=
  let all := [fld keys 5 0, fld keys 13 8, fld keys 21 16, fld keys 29 24]
  match fld cfg 1 0 with
  | 1 => all.take 1
  | 2 => all.take (fld cfg 3 2 + 1)
  | _ => []

/-! ## The page (R395, R405, R408, R409) -/

/-- A field outside its range. -/
def outOf (lo hi v : Nat) : Bool := v < lo || hi < v

/-- The ranges of R408. -/
def tchRange (off : Nat) (v : Word) (s : State) : Bool :=
  match off with
  | 0x044 => outOf 500 50000 (fld v 31 16) || outOf 64 1024 (fld v 10 0)
  | 0x058 => outOf 4 12 (fld v 3 0)
  | 0x068 => outOf 1 255 (fld v 15 8) || outOf 1 15 (fld v 3 0)
  | 0x074 => fld v 23 16 = 0
  | 0x0E0 => outOf 5 50 (fld v 15 8) || (gestureKeys v (s.reg pTch 0x0E4)).any (fun k => !keyWatch k s)
  | 0x0E4 => (gestureKeys (s.reg pTch 0x0E0) v).any fun k => !keyWatch k s
  | 0x0E8 => outOf 200 10000 (fld v 31 16) || outOf 100 5000 (fld v 15 0)
  | _ =>
    if 0x080 ≤ off && off < 0x0B0 then (List.range 8).any fun j => 6 < fld v (4 * j + 3) (4 * j)
    else if 0x400 ≤ off && off < 0x800 then
      match off % 0x10 with
      | 0 => 95 < fld v 14 8
      | 4 => fld v 13 0 = 0 || fld v 13 0 < fld v 29 16
      | _ => false
    else false

/-- The registers that SCAN_EN = 1 holds (R395). (DEDUCED: log entry 72) -/
def scanHeld (off : Nat) : Bool :=
  off = 0x044 || off = 0x050 || off = 0x054 || off = 0x058 || (0x080 ≤ off && off < 0x0B0)
    || (0x400 ≤ off && off < 0x800 && off % 0x10 = 0)

/-- The check of a write to the TCH page. -/
def tchCheck (off : Nat) (v : Word) (s : State) : Verdict :=
  if 0x40 ≤ off && reservedSet pTch off v then .err 0x41
  else if scanHeld off && s.rb pTch 0x040 0 then .err 0x40
  else if tchRange off v s then .err 0x41
  else if off = 0x040 && bit v 0 && !s.rb pTch 0x040 0 && scanRefused s then .err 0x42
  else .ok

/-- SCAN_EN has been written to 1: every measurement enters INIT (R394, R396). (DEDUCED: log entry 72) -/
def scanOn (s : State) : State :=
  let s := (takeCrossed pTch 0 s).setReg pTch 0x04C 0
  let nodes := List.replicate (pinsOf mStx s).length (List.replicate (pinsOf mSrx s).length ({} : TchNode))
  let s := setTch (fun t =>
    { t with on := s.clk, due := s.clk, us := 0, running := false, nodes, contacts := [], touches := [] }) s
  (List.range 64).foldl (fun s k =>
    if keyEn k s && keyFaulty k s then setKeyState k 3 s else keyInit k s) s

/-- The effect of an accepted write; `was` is the state before it. -/
def tchEffect (m : Master) (off : Nat) (v : Word) (was s : State) : State :=
  let crossed := (off = 0x068 || off = 0x070 || off = 0x074 || off = 0x0C0 || (0x0E0 ≤ off && off < 0x0F0)
    || (0x400 ≤ off && off < 0x800 && (off % 0x10 = 4 || off % 0x10 = 8)) : Bool)
  if crossed then cross pTch (masterId m) [(rkey pTch off 0, s.reg pTch off)] s
  else if off = 0x040 then
    let s :=
      if bit v 0 && !was.rb pTch 0x040 0 then scanOn s
      else if !bit v 0 then setTch (fun t => { t with running := false }) s
      else s
    if s.rb pTch 0x040 2 && (!was.rb pTch 0x040 2 || was.tch.running) then setTch (fun t => { t with diagAt := s.clk }) s
    else s
  else if off = 0x058 then
    setTch (fun t => { t with phase := true }) ((s.setReg pTch 0x05C 0).setReg pTch 0x060 0)
  else s

/-- A write to a register of the TCH page. -/
def tchWrite (m : Master) (off : Nat) (v : Word) (s : State) : State :=
  regCommand m pTch off v (tchCheck off v) (tchEffect m off v s) s

/-- TCH_STAT.STATE (R408). -/
def tchState (s : State) : Nat :=
  if s.rb pTch 0x040 2 && !s.tch.running then 3
  else if !s.rb pTch 0x040 0 then 0
  else if tchWatch s then 2
  else 1

/-- An enabled key or a node of the surface is in INIT (R396). (DEDUCED: log entry 70) -/
def baselining (s : State) : Bool :=
  (keysOn s).any (fun k => keyState k s = 0)
    || (!(pinsOf mStx s).isEmpty && s.tch.nodes.any fun r => r.any fun n => n.n < 4)

/-- A read of the TCH page. -/
def tchRead (off : Nat) (s : State) : Word × State :=
  match off with
  | 0x048 => (putFld (putFld (s.reg pTch off) 2 2 (b2n (baselining s))) 1 0 (tchState s), s)
  | 0x078 => (BitVec.ofNat 32 ((pinsOf mStx s).length * 256 + (pinsOf mSrx s).length), s)
  | _ => (s.reg pTch off, s)

/-- TOUCH_SCAN_ENABLE: a write of SCAN_EN = 1 (R395). -/
def execTouchScanEnable (m : Master) (s : State) : Host.Outcome State Fault Refusal :=
  .next (issue m .write pTch 0x040 (tchWrite m 0x040 1) s)

/-- TOUCH_SCAN_DISABLE: a write of SCAN_EN = 0. -/
def execTouchScanDisable (m : Master) (s : State) : Host.Outcome State Fault Refusal :=
  .next (issue m .write pTch 0x040 (tchWrite m 0x040 0) s)

/-- TOUCH_DIAG: a write of DIAG = 1, SCAN_EN as it is (R406). -/
def execTouchDiag (m : Master) (s : State) : Host.Outcome State Fault Refusal :=
  .next (issue m .write pTch 0x040 (fun s => tchWrite m 0x040 ((s.reg pTch 0x040 &&& 1) ||| 4) s) s)

end Sys2Proof.Machine
end

