-- ==== Sys2Proof/Machine/Dram.lean ====
section
/-! DEFINITION. The DDR5 channels: addresses and ranks, initialisation, line reads and their outcomes, poison,
scrubbing, parity, refresh, self-refresh, sparing and migration (R306 to R336). -/

namespace Sys2Proof.Machine

def pDmc (n : Nat) : Nat := 50 + n

def setDmc (n : Nat) (f : DmcSt → DmcSt) (s : State) : State :=
  { s with dmc := smSet n (f (smAt n s.dmc)) s.dmc }

/-! ## Registers of a channel -/

/-- DMC_STAT.STATE codes (R334). -/
def dmcOff : Nat := 0
def dmcInitSt : Nat := 1
def dmcInService : Nat := 2
def dmcSelfRefresh : Nat := 3
def dmcMigrating : Nat := 4
def dmcFailed : Nat := 5

def dmcState (n : Nat) (s : State) : Nat := s.rf (pDmc n) 0x044 2 0

def setDmcState (n st : Nat) (s : State) : State := s.setFld (pDmc n) 0x044 2 0 st

def dmcServes (n : Nat) (s : State) : Bool :=
  dmcState n s = dmcInService || dmcState n s = dmcMigrating

def dmcGeom (n : Nat) (s : State) : Word := s.reg (pDmc n) 0x048

def fittedRanks (n : Nat) (s : State) : Nat := fld (dmcGeom n s) 4 3 + 1

/-- States of a physical rank (R334). -/
def rankAbsent : Nat := 0
def rankInService : Nat := 1
def rankSpare : Nat := 2
def rankRetired : Nat := 3

def pstate (n p : Nat) (s : State) : Nat := s.rf (pDmc n) 0x04C (2 * p + 1) (2 * p)

def setPstate (n p st : Nat) (s : State) : State := s.setFld (pDmc n) 0x04C (2 * p + 1) (2 * p) st

def lmap (n l : Nat) (s : State) : Nat := s.rf (pDmc n) 0x04C (2 * l + 9) (2 * l + 8)

def setLmap (n l p : Nat) (s : State) : State := s.setFld (pDmc n) 0x04C (2 * l + 9) (2 * l + 8) p

def spareAvail (n : Nat) (s : State) : Bool := s.rb (pDmc n) 0x044 10

/-- SPARE_AVAIL falls (R329, R335). -/
def loseSpare (n : Nat) (s : State) : State :=
  if spareAvail n s then raiseBit (pDmc n) 11 (s.setFld (pDmc n) 0x044 10 10 0) else s

def migSrc (n : Nat) (s : State) : Nat := s.rf (pDmc n) 0x094 29 28
def migDst (n : Nat) (s : State) : Nat := s.rf (pDmc n) 0x094 27 26
def wmark (n : Nat) (s : State) : Nat := (s.reg (pDmc n) 0x098).toNat

/-- The logical rank that a physical rank carries. -/
def logicalOf (n p : Nat) (s : State) : Option Nat :=
  (List.range (ranksInService (dmcGeom n s))).find? fun l => lmap n l s = p

/-! ## Addresses (R308) -/

/-- Channel address of a physical address. -/
def chanAddr (a : Nat) : Nat := a / 0x100 / 6 * 0x100 + a % 0x100

/-- Physical address of a channel address. -/
def physAddr (n ca : Nat) : Nat := (ca / 0x100 * 6 + n) * 0x100 + ca % 0x100

def logicalRank (a : Nat) (s : State) : Nat := chanAddr a / rankSize (dmcGeom (channelOf a) s)

def rankAddr (a : Nat) (s : State) : Nat := chanAddr a % rankSize (dmcGeom (channelOf a) s)

/-- The physical rank that serves an address: by unit while its rank migrates (R308, R330). -/
def servingRank (a : Nat) (s : State) : Nat :=
  let n := channelOf a
  let p := lmap n (logicalRank a s) s
  if dmcState n s = dmcMigrating && migSrc n s = p && rankAddr a s / 128 < wmark n s then migDst n s
  else p

/-- The fields of a rank address (R308). -/
structure RankFields where
  byte : Nat
  subch : Nat
  bankGroup : Nat
  column : Nat
  bank : Nat
  row : Nat
  deriving DecidableEq, Repr

def rankFields (geom : Word) (r : Nat) : RankFields :=
  let c := if bit geom 0 then 6 else 7
  { byte := r % 64
    subch := r / 64 % 2
    bankGroup := r / 128 % 8
    column := r / 2 ^ 10 % 2 ^ c * 16
    bank := r / 2 ^ (10 + c) % 4
    row := r / 2 ^ (12 + c) }

/-! ## Withdrawal, migration and triggers (R329 to R333) -/

/-- A migration starts: the spare carries live lines from now on, and is SPARE no longer (R329). -/
def startMigration (n src cause : Nat) (s : State) : State :=
  let dst := fld (dmcGeom n s) 6 5
  let s := setPstate n dst rankInService (setDmcState n dmcMigrating (loseSpare n s))
  let s := s.setReg (pDmc n) 0x094 (BitVec.ofNat 32 (src * 2 ^ 28 + dst * 2 ^ 26 + cause * 2 ^ 23))
  let s := (s.setReg (pDmc n) 0x098 0).setFld (pDmc n) 0x090 0 0 1
  raiseBit (pDmc n) 7 (setDmc n (fun t => { t with migAt := s.clk }) s)

/-- An uncorrectable outcome or a repeated parity error with no spare left; another trigger starts nothing (R332). -/
def noSpare (n cause : Nat) (s : State) : State :=
  if 2 < cause then s
  else
    let s := s.bumpFldAt (pDmc n) 0x07C 0 31 24 1
    if 2 ≤ s.rf (pDmc n) 0x07C 31 24 then withdraw 0x5 n s else s

/-- The migration in progress has started in this clock. -/
def migNow (n : Nat) (s : State) : Bool :=
  dmcState n s = dmcMigrating && (smAt n s.dmc).migAt = s.clk && wmark n s = 0

def migCause (n : Nat) (s : State) : Nat := s.rf (pDmc n) 0x094 25 23

/-- The source and the cause of the migration that has just started. -/
def setMigration (n src cause : Nat) (s : State) : State :=
  (s.setFld (pDmc n) 0x094 29 28 src).setFld (pDmc n) 0x094 25 23 cause

/-- Another trigger in the clock in which a migration starts: on the same rank the lowest cause stands; of two ranks the
lower migrates, with an automatic cause where one of the triggers is a START and the other is not, and the trigger of the
higher is judged under R332, as is one on the destination (R333). (DEDUCED: log entry 64) -/
def mergeTrigger (n rank cause : Nat) (s : State) : State :=
  let src := migSrc n s
  let old := migCause n s
  if rank = migDst n s then noSpare n cause s
  else if rank = src then setMigration n src (min old cause) s
  else if pstate n rank s ≠ rankInService then noSpare n cause s
  else
    let (lower, higher) := if src < rank then (old, cause) else (cause, old)
    let c := if lower = 0x4 then min lower higher else lower
    noSpare n higher (setMigration n (min src rank) c s)

/-- A retirement trigger on a rank (R329, R330, R332, R333). (DEDUCED: log entry 64) -/
def retireTrigger (n rank cause : Nat) (s : State) : State :=
  if migNow n s then mergeTrigger n rank cause s
  else if dmcState n s = dmcMigrating && migSrc n s = rank then s
  else if spareAvail n s then
    if pstate n rank s = rankInService then startMigration n rank cause s else s
  else noSpare n cause s

/-! ## Outcomes of line reads (R314, R316, R318 to R321) -/

/-- A line enters the poison queue (R319). -/
def poisonPush (n line cause : Nat) (s : State) : State :=
  let st := smAt n s.dmc
  if st.poisonQ.length < 16 then
    raiseBit (pDmc n) 4 (setDmc n (fun t => { t with poisonQ := t.poisonQ ++ [(line, cause)] }) s)
  else raiseBit (pDmc n) 5 (s.bumpFldAt (pDmc n) 0x088 0 15 0 1)

/-- The line is written back poisoned and reported (R316). -/
def poisonLine (n line cause : Nat) (s : State) : State :=
  let s := { s with poison := if poisoned line s then s.poison else line :: s.poison }
  raiseBit (pDmc n) 3 (poisonPush n line cause (s.bumpFldAt (pDmc n) 0x07C 0 15 0 1))

/-- Every retry has failed: the line is poisoned and its rank meets a trigger (R316). -/
def uncorrectable (n rank line cause : Nat) (s : State) : State :=
  retireTrigger n rank 0x1 (poisonLine n line cause s)

/-- The device that holds the most of the corrected symbols (R334); the first of equals. (DEDUCED: log entry 63) -/
def worstDevice (x8 : Bool) (fix : List (Nat × Nat)) : Nat :=
  let per := if x8 then 16 else 8
  let count := fun d => (fix.filter fun p => p.1 / per = d).length
  (List.range (if x8 then 5 else 10)).foldl (fun b d => if count b < count d then d else b) 0

/-- A CORRECTED outcome on a rank: its counter, the last report, and the window's threshold (R314, R321). -/
def correctedOn (n rank subch : Nat) (fix : List (Nat × Nat)) (s : State) : State :=
  let dev := worstDevice (bit (dmcGeom n s) 0) fix
  let s := s.bumpAt (pDmc n) (0x068 + 4 * rank) 0 1
  let s := s.setReg (pDmc n) 0x078
    (BitVec.ofNat 32 (rank * 2 ^ 16 + subch * 2 ^ 15 + dev * 2 ^ 11 + fix.length * 2 ^ 7))
  let c := smAt rank (smAt n s.dmc).winCnt + 1
  let s := setDmc n (fun t => { t with winCnt := smSet rank c t.winCnt }) s
  if s.rf (pDmc n) 0x064 15 0 ≤ c && !(smAt n s.dmc).winFired.contains rank then
    let s := raiseBit (pDmc n) 2 (setDmc n (fun t => { t with winFired := rank :: t.winFired }) s)
    if s.rb (pDmc n) 0x064 31 && pstate n rank s = rankInService then retireTrigger n rank 0x3 s else s
  else s

/-- The outcome of a read of a line at its channel. -/
def readOutcome (line : Nat) (e : SymErrs) (s : State) : LineOutcome :=
  lineOutcome (bit (dmcGeom (channelOf line) s) 0) (poisoned line s) e

/-- The bytes of a line with the residue of its outcome. -/
def residueLine (n : Nat) (line : List Byte) (w : List Nat) (s : State) : List Byte :=
  line.zipIdx.map fun p => p.1 ^^^ BitVec.ofNat 8 (residueByte (bit (dmcGeom n s) 0) w p.2)

/-- The fix that an outcome applies. -/
def LineOutcome.fix : LineOutcome → List (Nat × Nat)
  | .corrected f => f
  | _ => []

/-- A read of a line ends CLEAN or CORRECTED: its data and what is counted and written back. -/
def goodRead (line : Nat) (e : SymErrs) (o : LineOutcome) (writeBack : Bool) (s : State) :
    List Byte × State :=
  let n := channelOf line
  let data := residueLine n (s.rdBytes line 64) (lineResidue e o.fix) s
  let rank := servingRank line s
  let subch := rankAddr line s / 64 % 2
  match o with
  | .corrected fix =>
    let s := if writeBack then { s.wrBytes line data with poison := s.poison.filter fun l => l ≠ line } else s
    (data, correctedOn n rank subch fix s)
  | _ => (data, s)

/-- Whether a line lies in DRAM that answers; else the access is treated under R11. -/
def lineServed (line : Nat) (s : State) : Bool := line + 64 ≤ dramTop s

/-- WB_CORR of the channel. -/
def wbCorr (n : Nat) (s : State) : Bool := s.rb (pDmc n) 0x040 2

/-- A merge is carried out on the data read (R315). (DEDUCED: log entry 63) -/
def mergeLine (m : Master) (line addr : Nat) (data old : List Byte) (s : State) : Bool × State :=
  let o := addr - line
  dramWriteLines m [(line, old.take o ++ data ++ old.drop (o + data.length))] s

/-- A read for some use has ended CLEAN or CORRECTED. -/
def useRead (m : Master) (line : Nat) (use : LineUse) (e : SymErrs) (o : LineOutcome) (s : State) : State :=
  match use with
  | .demand =>
    let (d, s) := goodRead line e o (wbCorr (channelOf line) s) s
    s.respond true (leNat d)
  | .merge addr data =>
    let (d, s) := goodRead line e o (wbCorr (channelOf line) s) s
    let (ok, s) := mergeLine m line addr data d s
    s.respond ok 0
  | .scrub => (goodRead line e o true s).2

/-- A read for some use has ended POISON (R315, R318). (DEDUCED: log entry 63) -/
def usePoison (m : Master) (line : Nat) (use : LineUse) (s : State) : State :=
  match use with
  | .demand | .merge _ _ => (poisonRead m line s).respond false 0
  | .scrub => s

/-- Every read of a line for some use has ended UNCORRECTABLE (R315, R316, R320). -/
def useFailed (line : Nat) (use : LineUse) (s : State) : State :=
  let n := channelOf line
  let rank := servingRank line s
  match use with
  | .demand | .merge _ _ => (uncorrectable n rank line 0x0 s).respond false 0
  | .scrub => uncorrectable n rank line 0x1 s

/-- A read that is made again stays in flight; the scrubber's is no access (R316, R367). -/
def retryFlight (m : Master) (line : Nat) (use : LineUse) (s : State) : Option Nat × State :=
  match use with
  | .demand => (some s.accId, enterFlight m true line 1 true s)
  | .merge addr _ => (some s.accId, enterFlight m false addr 1 true s)
  | .scrub => (none, s)

/-- The first read of a line for some use: an UNCORRECTABLE one is read again (R316). -/
def startRead (m : Master) (line : Nat) (use : LineUse) (e : SymErrs) (s : State) : State :=
  match readOutcome line e s with
  | .poison => usePoison m line use s
  | .uncorrectable =>
    let n := channelOf line
    let left := s.rf (pDmc n) 0x060 13 12
    let (acc, s) := retryFlight m line use s
    setDmc n (fun t => { t with retries := t.retries ++ [{ m, line, use, left, acc }] }) s
  | o => useRead m line use e o s

/-- A request for a line at the channels: an address that no channel answers, or a channel held for test, ends in an
error (R11, R20). -/
def lineRequest (m : Master) (a : Nat) (f : State → State) (s : State) : State :=
  if !lineServed (lineOf a) s then (unmappedErr m a s).respond false 0
  else if lineHeld (lineOf a) s then (heldErr m (lineOf a) a s).respond false 0
  else f s

/-! ## Order of one master's accesses to a block of memory (R29) -/

/-- The master and the bytes of a waiting access. -/
def waitSpan : Instr → Option (Master × Nat × Nat)
  | .fabricAccess m _ a acc => some (m, a.toNat, accLen acc)
  | .dramRead m _ line _ | .dramWrite m _ line _ => some (m, lineOf line.toNat, 64)
  | .dramPartialWrite m _ a d _ => some (m, a.toNat, d.length)
  | _ => none

/-- The blocks of memory that an access of a master waits for, when it waits for all that touch them. -/
def waitsAt (m : Master) (blocks : List Nat) (p : Parked) : Bool :=
  (waitSpan p.cmd).any fun w => w.1 = m && (linesOf w.2.1 w.2.2).any blocks.contains

/-- An access of a master waits: an earlier one of its own to a block that it touches is being read again, or waits for
that itself (R29, R316). (DESIGN CHOICE: log entry 14) -/
def mustWait (m : Master) (a len : Nat) (s : State) : Bool :=
  let blocks := linesOf a len
  (blocks.any fun l => (smAt (channelOf l) s.dmc).retries.any fun r => r.acc.isSome && r.m = m && r.line = l)
    || s.behind.any (waitsAt m blocks)

/-- An access that its gate has judged waits behind an earlier one; it is in flight from its issue on (R29, R365, R367). -/
def park (c : Instr) (m : Master) (kind : AccKind) (a : Nat) (j : Judged) (s : State) : State :=
  enterFlight m (kind = .read || kind = .fetch) a 1 true
    { s with behind := s.behind ++ [{ cmd := c, judged := j, id := s.accId }] }

/-- An access to lines of a master, judged at its issue: it waits, or `f` carries it out (R29, R365).
(DESIGN CHOICE: log entry 14) -/
def issueLine (c : Instr) (m : Master) (priv : Bool) (kind : AccKind) (a len : Nat) (f : State → State) (s : State) :
    State :=
  if !mayIssue m s then notIssued m s
  else
    let (j, s) := gateCheck m (fixedPriv m priv) kind a len s
    if j.faulted then answer m kind a false 0 s
    else if mustWait m a len s then park c m kind a j s
    else settled m kind a f s

/-- A line is read for a master at its channel. -/
def lineRead (m : Master) (a : Nat) (e : SymErrs) (s : State) : State := lineRequest m a (startRead m a .demand e) s

/-- DRAM_READ: a whole line is read for a master (R314). -/
def execDramRead (m : Master) (priv : Bool) (line : Addr) (e : SymErrs) (s : State) :
    Host.Outcome State Fault Refusal :=
  let a := lineOf line.toNat
  .next (issueLine (.dramRead m priv line e) m priv .read a 64 (lineRead m a e) s)

/-- Bytes of one line are written without a read (R36, R318). -/
def lineWrite (m : Master) (a : Nat) (data : List Byte) (s : State) : State :=
  let (ok, s) := dramWriteLines m [(a, data)] s
  s.respond ok 0

/-- A line is written for a master at its channel. -/
def wholeWrite (m : Master) (a : Nat) (data : List Byte) (s : State) : State := lineRequest m a (lineWrite m a data) s

/-- DRAM_WRITE: a whole line is written (R318). (DESIGN CHOICE: log entry 3) -/
def execDramWrite (m : Master) (priv : Bool) (line : Addr) (data : List Byte) (s : State) :
    Host.Outcome State Fault Refusal :=
  let a := lineOf line.toNat
  if data.length ≠ 64 then .refused (.illFormed "DRAM_WRITE: data is not one line")
  else .next (issueLine (.dramWrite m priv line data) m priv .write a 64 (wholeWrite m a data) s)

/-- A partial write at its channel: the record region is judged before the read (R36, R315). -/
def partialWrite (m : Master) (a : Nat) (data : List Byte) (e : SymErrs) (s : State) : State :=
  let line := lineOf a
  lineRequest m a (fun s =>
    if 0 < recSize s && recBase s ≤ line && line < recBase s + recSize s && !mayWriteRec m then lineWrite m a data s
    else startRead m line (.merge a data) e s) s

/-- DRAM_PARTIAL_WRITE: a read, a merge and a write of the line (R315). (DESIGN CHOICE: log entry 3) -/
def execDramPartialWrite (m : Master) (priv : Bool) (addr : Addr) (data : List Byte) (e : SymErrs) (s : State) :
    Host.Outcome State Fault Refusal :=
  let a := addr.toNat
  if data = [] ∨ 64 ≤ data.length ∨ lineOf a + 64 < a + data.length then
    .refused (.illFormed "DRAM_PARTIAL_WRITE: data is not part of one line")
  else
    .next (issueLine (.dramPartialWrite m priv addr data e) m priv .write a data.length (partialWrite m a data e) s)

/-- A read that was made again has ended: its access is no longer in flight, and its response is given (R28, R340, R367). -/
def retryDone (was : Resp) (r : Retry) (s : State) : State :=
  match r.acc with
  | none => s
  | some id =>
    match r.use with
    | .merge addr _ => landed was id r.m .write addr (leaveFlight id s)
    | _ => landed was id r.m .read r.line (leaveFlight id s)

/-- One line being read again: the reads in turn, up to the first that is not UNCORRECTABLE (R316). -/
def runRetries (n : Nat) (r : Retry) : List SymErrs → Nat → State → State
  | [], left, s =>
    if left = 0 then retryDone s.resp r (useFailed r.line r.use s)
    else setDmc n (fun t => { t with retries := t.retries ++ [{ r with left }] }) s
  | e :: es, left, s =>
    match left with
    | 0 => retryDone s.resp r (useFailed r.line r.use s)
    | left + 1 =>
      match readOutcome r.line e s with
      | .poison => retryDone s.resp r (usePoison r.m r.line r.use s)
      | .uncorrectable => runRetries n r es left s
      | o => retryDone s.resp r (useRead r.m r.line r.use e o s)

/-- A read that is being made again is taken up with the outcomes of its next reads. -/
def resumeRetry (n : Nat) (r : Retry) (reads : List SymErrs) (left : Nat) (s : State) : State :=
  runRetries n r reads left (setDmc n (fun t => { t with retries := t.retries.erase r }) s)

/-- A line found UNCORRECTABLE is read again (R316). -/
def readAgain (m : Master) (line : Addr) (retries : List SymErrs) (s : State) : State :=
  let a := lineOf line.toNat
  let n := channelOf a
  match (smAt n s.dmc).retries.find? fun r => r.line = a && (r.m = m || r.use = .scrub) with
  | none => s
  | some r => resumeRetry n r retries r.left s

/-- The read of DMC_POISON_POP (R319). -/
def poisonPopRead (m : Master) (n : Nat) (s : State) : Word × State :=
  match (smAt n s.dmc).poisonQ with
  | [] => (0, s)
  | (a, c) :: rest =>
    (BitVec.ofNat 32 (2 ^ 31 + c * 2 ^ 29 + a / 2 ^ 32 % 256),
      setShadow m (pDmc n) 0x084 0 (loW (a / 64 * 64))
        (setDmc n (fun t => { t with poisonQ := rest }) s))

/-- POISON_QUEUE_POP (R319). -/
def execPoisonQueuePop (m : Master) (n : Fin 6) (s : State) : Host.Outcome State Fault Refusal :=
  .next (issue m .read (pDmc n.val) 0x080 (readCommand m (pDmc n.val) 0x080 (poisonPopRead m n.val)) s)

/-! ## Scrubbing and windows (R320, R321) -/

def rankLines (n : Nat) (s : State) : Nat := rankSize (dmcGeom n s) / 64

/-- Whether the scrubber reads a rank: in service and not being migrated, or spare (R320). -/
def scrubbed (n p : Nat) (s : State) : Bool :=
  (pstate n p s = rankInService && !(dmcState n s = dmcMigrating && migSrc n s = p))
    || pstate n p s = rankSpare

/-- The next scrubbed rank above a rank. -/
def scrubNext (n rank : Nat) (s : State) : Option (Nat × Nat) :=
  ((List.range 4).find? fun p => rank < p && scrubbed n p s).map fun p => (p, 0)

/-- The position of the scrubber, moved on when its rank is not scrubbed any more. -/
def scrubSeek (n rank line : Nat) (s : State) : Option (Nat × Nat) :=
  if rank < 4 ∧ scrubbed n rank s then some (rank, line) else scrubNext n rank s

def setScrub (n : Nat) (p : Nat × Nat) (s : State) : State :=
  setDmc n (fun t => { t with scrubRank := p.1, scrubLine := p.2 }) s

/-- The end of a pass (R320). -/
def scrubPassEnd (n : Nat) (s : State) : State :=
  raiseBit (pDmc n) 10 ((setScrub n (0, 0) s).bumpFldAt (pDmc n) 0x05C 0 31 16 1)

/-- The position moves past the line just read (R320). -/
def scrubAdvance (n rank line : Nat) (s : State) : State :=
  let next := if line + 1 < rankLines n s then scrubSeek n rank (line + 1) s else scrubNext n rank s
  match next with
  | some p => setScrub n p s
  | none => scrubPassEnd n s

/-- The logical rank whose line a physical rank holds: during a migration the destination holds those below WMARK
(R330). -/
def scrubLogical (n rank line : Nat) (s : State) : Option Nat :=
  if dmcState n s = dmcMigrating && rank = migDst n s then
    if line / 2 < wmark n s then logicalOf n (migSrc n s) s else none
  else logicalOf n rank s

/-- One line that no address reaches; `e` is what its last read returns. An UNCORRECTABLE one is poisoned and counted;
it retires a spare, and in the destination of a migration it is judged under R332 (R320). (DEDUCED: log entry 63) -/
def scrubSpare (n rank line : Nat) (e : SymErrs) (s : State) : State :=
  match lineOutcome (bit (dmcGeom n s) 0) ((smAt n s.dmc).sparePoison.contains (rank, line)) e with
  | .corrected fix => correctedOn n rank (line % 2) fix s
  | .uncorrectable =>
    let s := setDmc n (fun t => { t with sparePoison := (rank, line) :: t.sparePoison }) s
    let s := raiseBit (pDmc n) 3 (s.bumpFldAt (pDmc n) 0x07C 0 15 0 1)
    if pstate n rank s = rankSpare then loseSpare n (setPstate n rank rankRetired s) else noSpare n 0x1 s
  | _ => s

/-- SCRUB_READ: the patrol scrubber reads its next line (R320). (DEDUCED: log entry 63) -/
def execScrubRead (n : Fin 6) (e : SymErrs) (s : State) : Host.Outcome State Fault Refusal :=
  let st := smAt n.val s.dmc
  .next (whenServed s (if s.rb (pDmc n.val) 0x040 1 && dmcServes n.val s then
    match scrubSeek n.val st.scrubRank st.scrubLine s with
    | none => if st.scrubRank = 0 then s else scrubPassEnd n.val s
    | some (rank, line) =>
      let s := match scrubLogical n.val rank line s with
        | some l =>
          let a := physAddr n.val (l * rankSize (dmcGeom n.val s) + 64 * line)
          startRead .mig a .scrub e s
        | none => scrubSpare n.val rank line e s
      scrubAdvance n.val rank line s
  else s))

/-- CE_WINDOW_END: WINDOW_S seconds have passed since the window began (R321). -/
def execCeWindowEnd (n : Fin 6) (s : State) : Host.Outcome State Fault Refusal :=
  let w := s.rf (pDmc n.val) 0x064 23 16 * 500000000
  .next (whenServed s (if dmcServes n.val s && (smAt n.val s.dmc).winStart + w ≤ s.clk then
    setDmc n.val (fun t => { t with winStart := t.winStart + w, winCnt := [], winFired := [] }) s
  else s))

/-- CA_PARITY_ALERT, in service or once INIT has enabled ALERT_n: the rank is stalled and its commands re-issued; a
second alert within 1 ms is repeated, which in service is a trigger (R310, R322). (DEDUCED: log entry 64) -/
def execCaParityAlert (n : Fin 6) (rank : Fin 4) (s : State) : Host.Outcome State Fault Refusal :=
  let last := (smAt n.val s.dmc).alerts.lookup rank.val
  let again := match last with
    | some t => decide (s.clk < t + 500000)
    | none => false
  .next (whenServed s (if (dmcServes n.val s || dmcState n.val s = dmcInitSt) && pstate n.val rank.val s ≠ rankAbsent then
    let s := raiseBit (pDmc n.val) 6 (s.bumpFldAt (pDmc n.val) 0x07C 0 23 16 1)
    let s := setDmc n.val (fun t =>
      { t with alerts := (rank.val, s.clk) :: t.alerts.filter fun p => p.1 ≠ rank.val }) s
    let s := s.emit (.ddr n.val rank.val .reissue)
    if again && dmcServes n.val s then retireTrigger n.val rank.val 0x2 s else s
  else s))

/-! ## Refresh and periodic work (R312, R326, R327) -/

/-- DMC_STAT.REF_OWED: the largest count of the channel's ranks. -/
def showOwed (n : Nat) (s : State) : State :=
  s.setFld (pDmc n) 0x044 15 12 ((smAt n s.dmc).owed.foldl (fun b p => max b p.2) 0)

/-- The refreshes that may be owed: POSTPONE with FGR, none without (R327). -/
def postponeLimit (n : Nat) (s : State) : Nat :=
  if s.rb (pDmc n) 0x054 4 then s.rf (pDmc n) 0x054 3 0 else 0

/-- A rank that is fitted. -/
def rankFitted (n p : Nat) (s : State) : Bool := pstate n p s ≠ rankAbsent

/-- A rank that receives refreshes and calibrations: every fitted one of a channel in service (R312, R326).
(DEDUCED: log entry 64) -/
def rankLive (n p : Nat) (s : State) : Bool := dmcServes n s && rankFitted n p s

/-- The urgency of a port whose oldest request has waited `age` DFI clocks: BASE and the thresholds of TARGET_NS it has
reached (R324). -/
def urgency (n p age : Nat) (s : State) : Nat :=
  let target := s.rf (pDmc n) (0x100 + 4 * p) 15 0
  let k := ([50, 75, 90, 100].filter fun pct => roundUp (target * pct) 125 ≤ age).length
  min (s.rf (pDmc n) (0x100 + 4 * p) 18 16 + k) 7

/-- Whether a request of a fixed port, or one at urgency 6 or above, is pending (R327). (DEDUCED: log entry 64) -/
def pressing (n : Nat) (pending : List (Fin 16 × Nat)) (s : State) : Bool :=
  pending.any fun q => s.rb (pDmc n) (0x100 + 4 * q.1.val) 19 || 6 ≤ urgency n q.1.val q.2 s

/-- REFRESH_DUE, with the ports that have a request pending for the rank and the DFI clocks it has waited (R327).
(DEDUCED: log entry 64) -/
def execRefreshDue (n : Fin 6) (rank : Fin 4) (pending : List (Fin 16 × Nat)) (s : State) :
    Host.Outcome State Fault Refusal :=
  let owed := smAt rank.val (smAt n.val s.dmc).owed
  .next (whenServed s (if !rankLive n.val rank.val s then s
    else if pressing n.val pending s && owed + 1 ≤ postponeLimit n.val s then
      showOwed n.val (setDmc n.val (fun t => { t with owed := smSet rank.val (owed + 1) t.owed }) s)
    else s.emit (.ddr n.val rank.val .refresh)))

/-- The refreshes that a rank is owed are made up (R327). -/
def makeUp (n rank : Nat) (s : State) : State :=
  let s := (List.range (smAt rank (smAt n s.dmc).owed)).foldl (fun s _ => s.emit (.ddr n rank .refresh)) s
  showOwed n (setDmc n (fun t => { t with owed := smSet rank 0 t.owed }) s)

/-- REFRESH_MAKEUP: the rank has been idle for 100 ns (R327). (DEDUCED: log entry 64) -/
def execRefreshMakeup (n : Fin 6) (rank : Fin 4) (s : State) : Host.Outcome State Fault Refusal :=
  .next (whenServed s (if rankLive n.val rank.val s then makeUp n.val rank.val s else s))

/-- DMC_ZQ_CAL (R312). -/
def execDmcZqCal (n : Fin 6) (rank : Fin 4) (s : State) : Host.Outcome State Fault Refusal :=
  .next (whenServed s (if rankLive n.val rank.val s then s.emit (.ddr n.val rank.val .zqCal) else s))

/-- DMC_DQS_OSC (R312). -/
def execDmcDqsOsc (n : Fin 6) (rank : Fin 4) (s : State) : Host.Outcome State Fault Refusal :=
  .next (whenServed s (if rankLive n.val rank.val s then s.emit (.ddr n.val rank.val .dqsOsc) else s))

/-- MR4_POLL: the ranks that report a temperature needing the doubled rate (R326). -/
def execMr4Poll (n : Fin 6) (hot : List (Fin 4)) (s : State) : Host.Outcome State Fault Refusal :=
  let ranks := (hot.map (·.val)).filter fun p => rankLive n.val p s
  .next (whenServed s (if dmcServes n.val s then
    let was := s.rb (pDmc n.val) 0x044 11
    let s := setDmc n.val (fun t => { t with hot := ranks }) s
    let s := s.setFld (pDmc n.val) 0x044 11 11 (b2n !ranks.isEmpty)
    if !was && !ranks.isEmpty then raiseBit (pDmc n.val) 9 s else s
  else s))

/-- tREFI of a rank in units of 0.975 µs (R326). -/
def trefi (n p : Nat) (s : State) : Nat :=
  (if s.rb (pDmc n) 0x054 4 then 2 else 4) / (if (smAt n s.dmc).hot.contains p then 2 else 1)

/-! ## Initialisation (R310, R311) -/

/-- The ranks take their states and logical ranks, ascending (R308, R329). -/
def assignRanks (n : Nat) (s : State) : State :=
  let g := dmcGeom n s
  let spare := fun p => bit g 7 && fld g 6 5 = p
  let fitted := List.range (fittedRanks n s)
  let s := s.setReg (pDmc n) 0x04C 0
  let s := fitted.foldl (fun s p => setPstate n p (if spare p then rankSpare else rankInService) s) s
  let s := (fitted.filter fun p => !spare p).zipIdx.foldl (fun s q => setLmap n q.2 q.1 s) s
  s.setFld (pDmc n) 0x044 10 10 (b2n (bit g 7))

/-- A START that is not refused: also one that meets an automatic trigger in the clock in which its migration starts
(R333, R336). (DEDUCED: log entry 64) -/
def startAdmitted (n rank : Nat) (s : State) : Bool :=
  pstate n rank s = rankInService
    && ((dmcState n s = dmcInService && spareAvail n s)
      || (migNow n s && migCause n s ≠ 0x4 && rank ≠ migDst n s))

/-- The check of a write to a DMC page (R310, R317, R327, R329, R334, R336). (DEDUCED: log entry 64) -/
def dmcCheck (n off : Nat) (v : Word) (s : State) : Verdict :=
  let st := dmcState n s
  if 0x40 ≤ off && reservedSet (pDmc n) off v then .err 0x40
  else if off = 0x040 then
    if bit v 0 && st ≠ dmcOff then .err 0x42 else .ok
  else if off = 0x048 then
    if st ≠ dmcOff then .err 0x42
    else if bit v 1 && !bit v 0 then .err 0x40
    else if fld v 4 3 < fld v 6 5 || (bit v 7 && fld v 4 3 = 0) then .err 0x40
    else .ok
  else if off = 0x054 then
    if st ≠ dmcOff && bit v 4 ≠ s.rb (pDmc n) 0x054 4 then .err 0x42
    else if 8 < fld v 3 0 || (0 < fld v 3 0 && !bit v 4) then .err 0x40
    else .ok
  else if off = 0x058 then
    if fld v 7 0 = 0 || 168 < fld v 7 0 then .err 0x40 else .ok
  else if off = 0x060 then
    if 750 < fld v 9 0 then .err 0x41
    else if fld v 9 0 < 100 || fld v 13 12 = 0 then .err 0x40
    else .ok
  else if off = 0x064 then
    if fld v 23 16 = 0 || fld v 15 0 = 0 then .err 0x40 else .ok
  else if off = 0x090 then
    if fld v 15 8 = 0 || 32 < fld v 15 8 then .err 0x40
    else if bit v 0 && !startAdmitted n (fld v 3 2) s then .err 0x43
    else .ok
  else if 0x100 ≤ off && off < 0x140 then
    let p := (off - 0x100) / 4
    if portReset p / 0x80000 % 2 = 1 then .ok
    else if 14 ≤ p then (if fld v 15 0 = 0 then .ok else .err 0x40)
    else if fld v 15 0 < 100 then .err 0x40
    else .ok
  else .ok

/-- The effect of an accepted write to a DMC page. -/
def dmcEffect (n off : Nat) (v : Word) (s : State) : State :=
  if off = 0x040 && bit v 0 then
    setDmc n (fun t => { t with initAt := s.clk }) (setDmcState n dmcInitSt (assignRanks n s))
  else if off = 0x090 && bit v 0 then retireTrigger n (fld v 3 2) 0x4 s
  else if 0x100 ≤ off && off < 0x140 && portReset ((off - 0x100) / 4) / 0x80000 % 2 = 1 then
    s.setReg (pDmc n) off (resetOf (rkey (pDmc n) off 0))
  else s

def dmcWrite (m : Master) (n off : Nat) (v : Word) (s : State) : State :=
  regCommand m (pDmc n) off v (dmcCheck n off v) (dmcEffect n off v) s

/-- DMC_INIT: a write of DMC_CTRL with INIT = 1, the other bits as they are (R310). -/
def execDmcInit (m : Master) (n : Fin 6) (s : State) : Host.Outcome State Fault Refusal :=
  .next (issue m .write (pDmc n.val) 0x040 (fun s => dmcWrite m n.val 0x040 (s.reg (pDmc n.val) 0x040 ||| 1) s) s)

/-- A failing rank is replaced by the spare without migration (R311). -/
def initSpare (n rank : Nat) (s : State) : State :=
  let spare := fld (dmcGeom n s) 6 5
  let l := logicalOf n rank s
  let s := loseSpare n (setPstate n rank rankRetired s)
  match l with
  | some l => setLmap n l spare (setPstate n spare rankInService s)
  | none => s

/-- The failures of an initialisation in turn: rank, and the word of DMC_TRAIN_STAT. The first that no spare
answers ends it (R311). -/
def initFails (n : Nat) : List (Nat × Nat) → State → Bool × State
  | [], s => (true, s)
  | (rank, w) :: rest, s =>
    if fittedRanks n s ≤ rank || pstate n rank s = rankRetired then initFails n rest s
    else if spareAvail n s then initFails n rest (initSpare n rank s)
    else (false, s.setReg (pDmc n) 0x050 (BitVec.ofNat 32 w))

/-- The channel fails: INIT_FAIL, and in BOOT a withdrawal (R311, R328, R447). -/
def channelFails (n : Nat) (s : State) : State :=
  let s := raiseBit (pDmc n) 1 (setDmcState n dmcFailed s)
  if s.dev = devBoot then withdraw 0x9 (0x10 + n) s else s

/-- Zero-fill of every line of a channel (R310). -/
def zeroFill (n : Nat) (s : State) : State :=
  let mine := fun a => a < 0xC000000000 && channelOf a = n
  { s with mem := s.mem.filter fun c => !mine c.1, poison := s.poison.filter fun l => !mine l }

/-- DMC_INIT_DONE, with the ranks that failed (R310, R311). (DESIGN CHOICE: log entry 11) -/
def execDmcInitDone (n : Fin 6) (fails : List TrainFailure) (s : State) :
    Host.Outcome State Fault Refusal :=
  let ws := fails.map fun f =>
    (f.rank.val, (f.step.val + 1) * 2 ^ 12 + f.rank.val * 2 ^ 10 + b2n f.subch * 2 ^ 9
      + (f.lane.map (·.val)).getD 0x3F)
  .next (whenServed s (if dmcState n.val s = dmcInitSt then
    let (ok, s) := initFails n.val ws (s.setFld (pDmc n.val) 0x040 0 0 0)
    if ok then
      let s := setDmc n.val (fun t => { t with winStart := s.clk, winCnt := [], winFired := [], sparePoison := [] }) s
      let s := (zeroFill n.val s).setReg (pDmc n.val) 0x050 0xF000
      raiseBit (pDmc n.val) 0 (setDmcState n.val dmcInService s)
    else channelFails n.val s
  else s))

/-! ## Migration (R329, R330) -/

/-- MIG_START: a write of DMC_MIG_CTRL with START = 1 (R329). -/
def execMigStart (m : Master) (n : Fin 6) (ctrl : Word) (s : State) : Host.Outcome State Fault Refusal :=
  .next (issue m .write (pDmc n.val) 0x090 (dmcWrite m n.val 0x090 (ctrl ||| 1)) s)

/-- One line of a unit being copied: a corrected line is copied corrected, a line that stays uncorrectable is
poisoned in the destination and queued with CAUSE 0x2, and the read of a poisoned one is recorded (R318, R330).
(DEDUCED: log entry 64) -/
def migLine (n line : Nat) (e : SymErrs) (s : State) : State :=
  match readOutcome line e s with
  | .corrected fix => (goodRead line e (.corrected fix) true s).2
  | .uncorrectable => poisonLine n line 0x2 s
  | .clean => if (errWord e).all (· = 0) then s
      else s.wrBytes line (residueLine n (s.rdBytes line 64) (errWord e) s)
  | .poison => poisonRead .mig line s

/-- The last unit is copied (R330). (DEDUCED: log entry 64) -/
def migDone (n l : Nat) (s : State) : State :=
  let src := migSrc n s
  let s := setLmap n l (migDst n s) (setPstate n (migDst n s) rankInService (setPstate n src rankRetired s))
  raiseBit (pDmc n) 8 (setDmcState n dmcInService (s.setFld (pDmc n) 0x090 0 0 0))

/-- MIG_UNIT_COPY: the next 128-byte unit, what its two lines return at their last read (R330). -/
def execMigUnitCopy (n : Fin 6) (e0 e1 : SymErrs) (s : State) : Host.Outcome State Fault Refusal :=
  .next (whenServed s (if dmcState n.val s = dmcMigrating then
    match logicalOf n.val (migSrc n.val s) s with
    | none => s
    | some l =>
      let size := rankSize (dmcGeom n.val s)
      let ca := l * size + 128 * wmark n.val s
      let s := migLine n.val (physAddr n.val ca) e0 s
      let s := migLine n.val (physAddr n.val (ca + 64)) e1 s
      let copied := [(migDst n.val s, 2 * wmark n.val s), (migDst n.val s, 2 * wmark n.val s + 1)]
      let s := setDmc n.val (fun t => { t with sparePoison := t.sparePoison.filter fun q => !copied.contains q }) s
      let s := s.setReg (pDmc n.val) 0x098 (s.reg (pDmc n.val) 0x098 + 1)
      let s := s.setFld (pDmc n.val) 0x094 6 0 (wmark n.val s * 100 / (size / 128))
      if wmark n.val s = size / 128 then migDone n.val l s else s
  else s))

/-! ## Self-refresh (R328) -/

/-- Every channel is in self-refresh and TCH has acknowledged: entry to WATCH completes, a drive of WAKE being
released first (R440, R476). -/
def watchComplete (s : State) : State :=
  if watchPending s && s.dev = devRun && s.pwr.watchAck
      && (List.range 6).all (fun n => dmcState n s = dmcSelfRefresh) then
    let s := if s.pwr.wakeLow then { s with pwr := { s.pwr with wakeLow := false } }.emit (.wake false) else s
    tchAsleep (setDev devWatch ({ s with pwr := { s.pwr with watchAt := s.clk } }.setFld pPmu 0x054 0 0 0))
  else s

/-- SELF_REFRESH_ENTRY, at the PMU's request, once no transaction is outstanding (R328, R440). -/
def execSelfRefreshEntry (n : Fin 6) (s : State) : Host.Outcome State Fault Refusal :=
  .next (whenServed s (if watchPending s && s.pwr.watchAck && dmcState n.val s = dmcInService
      && (smAt n.val s.dmc).retries.isEmpty then
    let ranks := (List.range 4).filter fun p => rankLive n.val p s
    let s := ranks.foldl (fun s p => makeUp n.val p s) s
    let s := ranks.foldl (fun s p => s.emit (.ddr n.val p .selfRefreshEntry)) s
    let s := showOwed n.val (setDmc n.val (fun t => { t with owed := [] }) s)
    watchComplete (setDmcState n.val dmcSelfRefresh s)
  else s))

/-- A channel leaves self-refresh: after an abandoned entry to WATCH, or, in the boot after a wake, once boot group 2 has
passed (R328, R438, R441). (DEDUCED: log entry 80) -/
def leavesSelfRefresh (n : Nat) (s : State) : Bool :=
  served s && dmcState n s = dmcSelfRefresh && !watchPending s && (!s.bst.wake || s.bst.group = 3)

/-- SELF_REFRESH_EXIT, `ok` when the verification passes (R328, R447). -/
def execSelfRefreshExit (n : Fin 6) (ok : Bool) (s : State) : Host.Outcome State Fault Refusal :=
  .next (whenServed s (if leavesSelfRefresh n.val s then
    let ranks := (List.range 4).filter fun p => rankFitted n.val p s
    let s := ranks.foldl (fun s p => s.emit (.ddr n.val p .selfRefreshExit)) s
    let s := ranks.foldl (fun s p => (s.emit (.ddr n.val p .zqCal)).emit (.ddr n.val p .dqsOsc)) s
    if ok then setDmcState n.val dmcInService s else channelFails n.val s
  else s))

/-! ## Reading the page -/

/-- DMC_SCRUB_STAT.PERCENT: lines read of the pass over the lines of the scrubbed ranks. -/
def scrubPercent (n : Nat) (s : State) : Nat :=
  let st := smAt n s.dmc
  let ranks := (List.range 4).filter fun p => scrubbed n p s
  let done := (ranks.filter fun p => p < st.scrubRank).length * rankLines n s + st.scrubLine
  if ranks = [] then 0 else min 100 (done * 100 / (ranks.length * rankLines n s))

/-- A read of a DMC page. -/
def dmcRead (m : Master) (n off : Nat) (s : State) : Word × State :=
  match off with
  | 0x05C => (putFld (s.reg (pDmc n) off) 6 0 (scrubPercent n s), s)
  | 0x080 => poisonPopRead m n s
  | 0x084 => (keptShadow m (pDmc n) off s, s)
  | _ => (s.reg (pDmc n) off, s)

end Sys2Proof.Machine
end

