-- ==== Sys2Proof/Machine/Power.lean ====
section
/-! DEFINITION. Power, reset, device states and boot: the SYS and PMU pages, supply warnings, device resets, WATCH,
the boot image and the VBAT domain (R427 to R431, R435 to R451). -/

namespace Sys2Proof.Machine

def setPwr (f : Pwr → Pwr) (s : State) : State := { s with pwr := f s.pwr }

def setVbt (f : VbtSt → VbtSt) (s : State) : State := { s with vbt := f s.vbt }

/-! ## Supply warnings (R429 to R431) -/

def warned (s : State) : Bool := s.pwr.warnCore || s.pwr.warnIo

/-- The duration of the warning up to now, in µs, rounded up. -/
def warningUs (s : State) : Nat := roundUp (2 * (s.pwr.warnBefore + (s.clk - s.pwr.warnStart))) 1000

/-- A warning ends: the longest one is kept (R431). -/
def recordWarning (s : State) : State :=
  setPwr (fun p => { p with warnCore := false, warnIo := false })
    (setVbt (fun v => { v with boDur := max v.boDur (min (warningUs s) 0xFFFFFFFF) }) s)

/-- A warned rail and its level in mV: the lowest is kept (R431). -/
def noteRail (rail : Rail) (mv : Nat) (s : State) : State :=
  match rail with
  | .core => setVbt (fun v => { v with boMinCore := min v.boMinCore mv }) (setPwr (fun p => { p with warnCore := true }) s)
  | .io33 => setVbt (fun v => { v with boMinIo := min v.boMinIo mv }) (setPwr (fun p => { p with warnIo := true }) s)
  | _ => s

/-- A rail below its warning level (R427). -/
def belowWarning (rail : Rail) (mv : Nat) : Bool :=
  match rail with
  | .core => mv < 700
  | .io33 => mv < 3000
  | _ => false

/-- The rail is warned now. -/
def railWarned (rail : Rail) (s : State) : Bool :=
  match rail with
  | .core => s.pwr.warnCore
  | .io33 => s.pwr.warnIo
  | _ => false

/-- BROWNOUT_WARNING: the rail is at a level below its warning level, and has been below it for `ns` (R429 to R431). -/
def execBrownoutWarning (rail : Rail) (mv ns : Nat) (s : State) : Host.Outcome State Fault Refusal :=
  .next (if !belowWarning rail mv || (ns < 200 && !railWarned rail s) then s
    else if warned s then noteRail rail mv s
    else
      let s := setPwr (fun p => { p with warnStart := s.clk, warnBefore := 0 }) (noteRail rail mv s)
      let s := setVbt (fun v => { v with boCount := min (v.boCount + 1) 0xFFFFFFFF }) s
      interruptRuns 2 (fun _ => true) (raiseBit pPmu 0 s))

/-- Every warned rail has stayed above its warning level plus 10 mV for 10 µs; the operands are the lowest levels of
VDD_CORE and VDD_IO33 over the last `ns` (R429). -/
def recovered (coreMv ioMv ns : Nat) (s : State) : Bool :=
  warned s && 10000 ≤ ns && (!s.pwr.warnCore || 710 < coreMv) && (!s.pwr.warnIo || 3010 < ioMv)

/-- BROWNOUT_END (R429, R431). -/
def execBrownoutEnd (coreMv ioMv ns : Nat) (s : State) : Host.Outcome State Fault Refusal :=
  .next (if !recovered coreMv ioMv ns s then s
    else raiseBit pPmu 1 (setPwr (fun p => { p with recovery := some s.clk }) (recordWarning s)))

/-! ## MRAM at a reset (R434, R436) -/

/-- The store whose array cycle has begun and the ones that wait are gone; with a loss of supply the word of the
one that has begun is undefined, else its cycle ends. (DEDUCED: log entry 78) -/
def endStores (cut : Bool) (s : State) : State :=
  let s := match s.mrm.queue.find? fun st => st.begun.isSome with
    | none => s
    | some st =>
      if cut then { s with mrm := { s.mrm with cut := st.ofs / 8 :: s.mrm.cut.filter (· ≠ st.ofs / 8) } }
      else s.wrBytes (mramBase + st.ofs) st.data
  { s with mrm := { s.mrm with queue := [], withheld := [] } }

def inMram (a : Nat) : Bool := region a = .mram

def inDramRange (a : Nat) : Bool := region a = .dram

/-! ## Device resets (R435, R436) -/

/-- What a device reset keeps: MRAM, the VBAT domain, the supply monitors, the fuses, what the board drives, and
the commands and messages outside the ZW96. (DESIGN CHOICE, DEDUCED: log entries 5, 77) -/
def afterReset (s : State) : State :=
  { ({} : State) with
    pending := s.pending, outbox := s.outbox, free := s.free
    mem := s.mem.filter fun c => inMram c.1
    mrm := s.mrm, vbt := s.vbt
    pwr := { s.pwr with
      watchAck := false, wakeLow := false, wokeAt := none, recovery := none, asleep := 0, warnStart := 0
      warnBefore := s.pwr.warnBefore + (s.clk - s.pwr.warnStart) }
    fuseSv := s.fuseSv, keyStuck := s.keyStuck, pins := s.pins }

/-- A device reset of a cause is asserted; `cut` tells whether the supplies have failed.
(DEDUCED: log entries 77, 78) -/
def assertReset (cause : Nat) (cut : Bool) (s : State) : State :=
  let prev := if s.pwr.inReset then s.pwr.prevDev else s.dev
  let s := endStores cut (if cut && warned s then recordWarning s else s)
  let s := setVbt (fun v => { v with cause := cause }) s
  afterReset (setPwr (fun p => { p with inReset := true, prevDev := prev, resets := p.resets + 1 }) s)

/-- POWER_ON: the supplies come up from none (R428, R435). -/
def execPowerOn (s : State) : Host.Outcome State Fault Refusal :=
  .next (setPwr (fun p => { p with prevDev := 0 }) (assertReset 1 true s))

/-- The reset level of a rail, in mV (R427). -/
def resetLevel : Rail → Nat
  | .core => 660
  | .aon => 620
  | .ser => 770
  | .ddr => 990
  | .io18 => 1620
  | .io33 => 2800

/-- SUPPLY_RESET: the rail is at a level below its reset level, and has been below it for `ns`; the level of a warned rail
is recorded (R429, R431, R435). -/
def execSupplyReset (rail : Rail) (mv ns : Nat) (s : State) : Host.Outcome State Fault Refusal :=
  .next (if resetLevel rail ≤ mv || ns < 500 then s
    else
      assertReset (match rail with
        | .core | .aon => 2
        | _ => 3) true (if railWarned rail s then noteRail rail mv s else s))

/-- RESET_PIN: RESET_N has been low for `lowNs`. From 100 ns to below 1 µs the manual leaves the effect open
(R435). (DESIGN CHOICE: log entry 79) -/
def execResetPin (lowNs : Nat) (s : State) : Host.Outcome State Fault Refusal :=
  .next (if 1000 ≤ lowNs then assertReset 4 false s
    else if lowNs < 100 then s
    else
      let (taken, s) := s.takeBool
      if taken then assertReset 4 false s else s)

/-- DEBUG_RESET: a reset request of an unlocked debug access (R435, R469). -/
def execDebugReset (s : State) : Host.Outcome State Fault Refusal :=
  .next (whenServed s (if debugUnlocked s then assertReset 6 false s else s))

/-- DEVICE_RESET_RELEASE: registers at their reset values, BOOT, the state before the reset in PREV, STATE_CHANGE, and
the load of the network time (R30, R100, R436, R437, R442). (DEDUCED: log entry 77) -/
def execDeviceResetRelease (bootXspi : Bool) (s : State) : Host.Outcome State Fault Refusal :=
  .next (if !s.pwr.inReset then s
    else
      let prev := s.pwr.prevDev
      let s := setPwr (fun p => { p with inReset := false, prevDev := 0, bootXspi := bootXspi }) (afterReset s)
      timeLoad (raiseBit pSys 0 (s.setFld pSys 0x040 10 8 prev)))

/-! ## The SYS page (R446, R449, R450) -/

/-- The conditions of R446. (DEDUCED: log entry 82) -/
def bootReady (s : State) : Bool :=
  (List.range 6).all (fun n => dmcState n s = dmcInService && dmcGeom n s = dmcGeom 0 s)
    && s.rf pSys 0x048 9 0 ≠ 0 && s.rf pKey 0x05C 3 0 = 1
    && (List.range 25).all (fun p => verdictOf p s = 2)
    && s.bst.group = 3 && s.bst.fwDue.isEmpty

/-- A request's admission: the code that refuses it (R450). (DEDUCED: log entries 82, 88) -/
def requestCode (byMaster inState : Bool) : Verdict :=
  if !byMaster then .err 0x41 else if !inState then .err 0x42 else .ok

def bootOrRun (s : State) : Bool := s.dev = devBoot || s.dev = devRun

/-- The check of a write to the SYS page. (DEDUCED: log entry 82) -/
def sysCheck (m : Master) (priv : Bool) (off : Nat) (v : Word) (s : State) : Verdict :=
  match off with
  | 0x044 =>
    let run := if fld v 15 8 = 0 then Verdict.ok else requestCode (isGuard m) (bootOrRun s)
    if run ≠ .ok then run
    else if !bit v 0 then .ok
    else if !isGuard m || s.dev ≠ devBoot then requestCode (isGuard m) false
    else if bootReady s then .ok
    else .err 0x40
  | 0x04C => requestCode (fld v 15 0 = 0x5A96 && (isGuard m || (isApc m && priv))) (bootOrRun s)
  | 0x054 => requestCode (fld v 15 0 = 0xA5C3 && isGuard m) true
  | _ => .ok

/-- Released APCs start at ENTRY_APC (R449). -/
def startApcs (new : Nat) (s : State) : State :=
  (List.finRange 8).foldl (fun s k => if new.testBit k.val then s.emit (.run (.apc k) s.key.entryApc) else s) s

/-- The effect of an accepted write to the SYS page; `was` is the state before it. -/
def sysEffect (m : Master) (off : Nat) (v : Word) (was s : State) : State :=
  match off with
  | 0x044 =>
    let s := startApcs (fld (v &&& ~~~ was.reg pSys 0x044) 15 8) s
    if bit v 0 then setBst (fun b => { b with rotAt := s.clk + rotInterval s }) (setDev devRun s) else s
  | 0x04C => withdraw 1 (masterId m) s
  | 0x054 => assertReset 5 false s
  | _ => s

/-- A write to a register of the SYS page. A refused BOOT_DONE raises BOOT_REFUSED (R446). -/
def sysWrite (m : Master) (priv : Bool) (off : Nat) (v : Word) (s : State) : State :=
  let t := regCommand m pSys off v (sysCheck m priv off v) (sysEffect m off v s) s
  if (admitWrite m pSys off v s).isNone && sysCheck m priv off v s = .err 0x40 then raiseBit pSys 1 t else t

/-- APC_RUN: a write of SYS_BOOT_CTRL.APC_RUN (R449). -/
def execApcRun (m : Master) (mask : BitVec 8) (s : State) : Host.Outcome State Fault Refusal :=
  .next (issue m .write pSys 0x044 (sysWrite m true 0x044 (mask.setWidth 32 <<< 8)) s)

/-- BOOT_DONE: a write of SYS_BOOT_CTRL.BOOT_DONE = 1 (R446). -/
def execBootDone (m : Master) (s : State) : Host.Outcome State Fault Refusal :=
  .next (issue m .write pSys 0x044 (sysWrite m true 0x044 1) s)

/-- SYS_WITHDRAW: a write of SYS_WITHDRAW (R450). -/
def execSysWithdraw (m : Master) (priv : Bool) (key : Word) (s : State) : Host.Outcome State Fault Refusal :=
  .next (issueAt m priv .write (pageAddr pSys 0x04C) 4 (sysWrite m priv 0x04C key) s)

/-- SOFTWARE_RESET: a write of SYS_RESET_REQ (R450). -/
def execSoftwareReset (m : Master) (key : Word) (s : State) : Host.Outcome State Fault Refusal :=
  .next (issue m .write pSys 0x054 (sysWrite m true 0x054 key) s)

/-! ## WATCH (R440, R441) -/

/-- A request to enter WATCH is admitted (R440). -/
def watchAdmitted (m : Master) (s : State) : Bool :=
  isGuard m && s.dev = devRun && (List.range 6).all fun n => dmcState n s ≠ dmcMigrating

/-- Step 1 of the entry: outputs, engines and mirror channels stop (R440). -/
def watchStart (s : State) : State :=
  let s := (List.range 16).foldl (fun s n => if outState n s = outDisabled then s else outStop n s) s
  let s := (List.range 16).foldl (fun s n => abandonCoding n (abandonPic n s)) s
  encAbandonAll s

/-- The check of a write to the PMU page (R440, R451). -/
def pmuCheck (m : Master) (off : Nat) (v : Word) (s : State) : Verdict :=
  if 0x40 ≤ off && reservedSet pPmu off v then .err 0x41
  else if off = 0x054 && bit v 0 && !watchAdmitted m s then .err 0x40
  else .ok

/-- The effect of an accepted write to the PMU page; `was` is the state before it. -/
def pmuEffect (off : Nat) (v : Word) (was s : State) : State :=
  if off = 0x054 && bit v 0 && !watchPending was then
    watchStart (setPwr (fun p => { p with watchAck := false }) s)
  else s

/-- A write to a register of the PMU page. -/
def pmuWrite (m : Master) (off : Nat) (v : Word) (s : State) : State :=
  regCommand m pPmu off v (pmuCheck m off v) (pmuEffect off v s) s

/-- WATCH_ENTRY: a write of PMU_WATCH.REQ = 1 (R440). -/
def execWatchEntry (m : Master) (s : State) : Host.Outcome State Fault Refusal :=
  .next (issue m .write pPmu 0x054 (pmuWrite m 0x054 1) s)

/-- Bit of PMU_WAKE_CFG and code of PMU_WAKE_STAT of a source. -/
def wakeBit : WakeSource → Nat
  | .touch => 0
  | .pin .. => 1
  | .perst => 2

/-- The pages whose registers WATCH keeps: TCH, PMU and the retained DDR5 controllers (R440, R441).
(DEDUCED: log entry 80) -/
def keptInWatch (page : Nat) : Bool := page = 5 || page = pPmu || (50 ≤ page && page < 56)

/-- What a wake finds: the domains that were gated are as after a reset; DRAM, MRAM, TCH, the PMU with the supply
monitors and the channels keep their state. (DEDUCED: log entries 77, 80) -/
def afterWake (s : State) : State :=
  let s := endStores false s
  let kept := fun k => keptInWatch (k / 0x1000 % 0x100)
  { afterReset s with
    regs := s.regs.filter fun p => kept p.1
    heldLow := s.heldLow.filter fun p => kept p.1
    pix := s.pix.filter fun p => kept p.1
    latched := s.latched.filter fun p => kept p.1
    xq := s.xq.filter fun x => keptInWatch x.page
    pwr := { s.pwr with watchAck := false, wakeLow := false }
    mem := s.mem.filter fun c => inMram c.1 || inDramRange c.1
    poison := s.poison, dmc := s.dmc, clk := s.clk
    tch := tchAwake s
    bst := { wake := true } }

/-- Since the entry to WATCH the pin has been high for 1 ms, which armed it, and then low for 1 ms (R441, R476).
(DEDUCED: log entry 80) -/
def wakePinSeen (highUs lowUs : Nat) (s : State) : Bool :=
  1000 ≤ highUs && 1000 ≤ lowUs && s.pwr.watchAt + (1000 + lowUs) * 500 ≤ s.clk

/-- Whether a source wakes the ZW96 now: a gesture; the WAKE pin; a rise of PERST_N (R405, R441, R476). -/
def wakes (src : WakeSource) (s : State) : Bool :=
  s.dev = devWatch && s.rb pPmu 0x058 (wakeBit src) &&
    match src with
    | .touch => s.tch.wake
    | .pin highUs lowUs => wakePinSeen highUs lowUs s
    | .perst => s.pins.perstLow

/-- WATCH_WAKE (R441): BOOT with PREV = WATCH, the source recorded, WAKE pulsed low, the network time loaded.
(DEDUCED: log entry 80) -/
def execWatchWake (src : WakeSource) (s : State) : Host.Outcome State Fault Refusal :=
  .next (if !wakes src s then s
    else
      let s := setPwr (fun p => { p with resets := p.resets + 1, wokeAt := some s.clk }) (afterWake s)
      let s := if src = .perst then { s with pins := { s.pins with perstLow := false } } else s
      let s := (s.setFld pSys 0x040 10 8 devWatch).setFld pPmu 0x05C 1 0 (wakeBit src + 1)
      timeLoad ((raiseBit pSys 0 s).emit .wakePulse))

/-! ## The VBAT domain and the PMU page (R448, R451) -/

/-- VBAT_MEASURE: the level of VBAT in mV (R448). -/
def execVbatMeasure (mv : Nat) (s : State) : Host.Outcome State Fault Refusal :=
  let t := setVbt (fun v => { v with low := mv < 2400 }) s
  .next (if mv < 2400 && !s.vbt.low then raiseBit pPmu 2 t else t)

/-- VBAT_SUPPLY_LOSS: VBAT has fallen below 1.8 V while VDD_AON is at `aonMv`. A VDD_AON above its reset level feeds the
VBAT domain; else what the domain held is lost (R427, R448). -/
def execVbatSupplyLoss (aonMv : Nat) (s : State) : Host.Outcome State Fault Refusal :=
  .next (if resetLevel .aon < aonMv then s else setVbt (fun v => { low := v.low }) s)

/-- PMU_STAT (R451). -/
def pmuStat (s : State) : Word :=
  BitVec.ofNat 32 (b2n s.vbt.valid * 16 + b2n s.vbt.low * 8 + b2n s.pwr.warnIo * 4 + b2n s.pwr.warnCore * 2
    + b2n (warned s))

/-- A read of the PMU page (R435, R451). (DESIGN CHOICE: log entry 79) -/
def pmuRead (off : Nat) (s : State) : Word × State :=
  match off with
  | 0x040 => (pmuStat s, s)
  | 0x044 => (BitVec.ofNat 32 s.vbt.boCount, setVbt (fun v => { v with boCount := 0 }) s)
  | 0x048 => (BitVec.ofNat 32 (s.vbt.boMinCore * 0x10000 + s.vbt.boMinIo),
      setVbt (fun v => { v with boMinCore := 0xFFFF, boMinIo := 0xFFFF }) s)
  | 0x04C => (BitVec.ofNat 32 s.vbt.boDur, setVbt (fun v => { v with boDur := 0 }) s)
  | 0x050 => (BitVec.ofNat 32 (if s.vbt.valid then s.vbt.cause else 1), s)
  | 0x060 => (loW s.vbt.sec, s)
  | 0x064 => (hiW s.vbt.sec, s)
  | 0x068 => (BitVec.ofNat 32 s.vbt.tick, s)
  | 0x06C => (BitVec.ofNat 32 (BitVec.ofInt 16 s.vbt.trim).toNat, s)
  | 0x070 => (BitVec.ofNat 32 s.vbt.epoch, s)
  | _ => (s.reg pPmu off, s)

end Sys2Proof.Machine
end

