-- ==== Sys2Proof/Machine/Access.lean ====
section
/-! DEFINITION. The common header of every page, the dispatch of a register access to its chapter, and the
accesses of masters to the fabric (R6, R11 to R13, R17 to R20, R338, R364, R365, R455). -/

namespace Sys2Proof.Machine

/-! ## Enabling, disabling and resetting a block (R17, R19) -/

/-- An engine's descriptors in progress and completions not written are abandoned, reads that wait among them. -/
def dmaStop (e : Nat) (s : State) : State :=
  let ds := (smAt e s.dma).chans.flatMap fun c => c.2.inflight
  let s := (ds.filter fun d => d.fed && d.status.isNone).foldl (fun s d => crcAbort d.unit s) s
  let s := (ds.filterMap (·.waits)).foldl (fun s w => leaveFlight w.id s) s
  setEngine e (fun g => { g with
    chans := g.chans.map fun c => (c.1, { c.2 with inflight := [] }), waiting := [] }) s

/-- A page is written ENABLE = 0 while it is 1: the block stops and abandons its work (R17). -/
def stopPage (bus : Bus) (page : Nat) (s : State) : State :=
  let i := pageInst page
  match pageKind page with
  | .cmp => cmpStop i s
  | .cdc => cdcStopped bus i s
  | .out => outDisable i s
  | .enc => encAbandonAll s
  | .ng => ngDisable i s
  | .kib => kibDisable s
  | .src => srcStopped s
  | .ing => (List.range 128).foldl (fun s c => jbAbandon c s) s
  | .dpi => dpiLinkOff i s
  | .dma => dmaStop i s
  | .crc => if crcBusy i s then crcAbort i s else s
  | .pci => pciStop s
  | .mge => mgeStop s
  | _ => s

/-- A page is written ENABLE = 1 while it is 0. -/
def startPage (bus : Bus) (page : Nat) (s : State) : State :=
  let i := pageInst page
  match pageKind page with
  | .cdc => placeUnbound bus s
  | .out => outStart i s
  | .grd => setGrd i (fun g => { g with seen := false }) s
  | .ng => ngEnable i s
  | .kib => kibEnable s
  | _ => s

/-- What a block keeps beyond its registers returns to its form after reset (R19). (DEDUCED: log entry 49) -/
def resetParts (page : Nat) (s : State) : State :=
  let i := pageInst page
  match pageKind page with
  | .cmp => setCmp i (fun c => { seq := c.seq }) s
  | .grd => setGrd i (fun _ => {}) s
  | .out => setOut i (fun _ => {}) s
  | .cdc => setEng i (fun e => { draining := e.draining }) s
  | .enc =>
    let s := (List.range 4).foldl (fun s c => dropSession (128 + c) (releaseRate (.enc c) s)) s
    { s with enc := [] }
  | .ng => setNg i (fun _ => {}) s
  | .kib =>
    { s with
      kib := {}, gate := [], hist := []
      duty := s.duty.map fun d => (d.1, { nextPic := d.2.nextPic }) }
  | .src => { (List.range 128).foldl (fun s c => dropSession c s) s with ctx := [] }
  | .dpi => setDpi i (fun _ => {}) s
  | .dma => { s with dma := smErase i s.dma }
  | .ing => { s with net := { s.net with prp := [] } }
  | .pci => setPci (fun t => { t with qps := [] }) s
  | .mge => { s with nonce := none }
  | _ => s

/-- SOFT_RESET: the block stops, work is abandoned, registers return to their reset values but for TEST_HOLD, and
RESET_BUSY and SOFT_RESET read 1 until the reset completes. The dispatcher's window and its events, which are the same on
every CDC page, are no part of an engine's reset (R19, R151). (DEDUCED: log entry 17) -/
def softResetPage (bus : Bus) (page : Nat) (s : State) : State :=
  let hold := s.testHold page
  let raw := s.reg page 0x010
  let s := resetParts page (stopPage bus page (s.setFld page 0x008 0 0 0))
  let s := s.clearPage page fun off => pageKind page = .cdc && 0x800 ≤ off
  let s := if pageKind page = .cdc then s.setReg page 0x010 (raw &&& 3) else s
  (s.setReg page 0x008 (BitVec.ofNat 32 (2 + b2n hold * 4))).setFld page 0x00C 1 1 1

/-- The refusal of a write of 1 to a reserved bit of the header, where the page's chapter gives a code for it.
(DEDUCED: log entry 17) -/
def hdrRange (page off : Nat) (v : Word) : Option Nat :=
  if v &&& hdrReserved page off ≠ 0 then reservedCode page else none

/-- The check of a write to the common header of a page (R7, R17, R247). (DEDUCED: log entry 88) -/
def hdrCheck (page off : Nat) (v : Word) (s : State) : Verdict :=
  if let some c := hdrRange page off v then .err c
  else if pageKind page = .kib && s.dev = devWithdrawn && off ≠ 0x010 then .err 0x45
  else if pageKind page = .out && afterOff (pageInst page) s then .drop
  else if off = 0x008 then
    if enableFixed page then .drop
    else
      match pageKind page with
      | .grd => grdCheck (pageInst page) off v s
      | .crc => if bit v 1 && crcBusy (pageInst page) s then .err 0x40 else .ok
      | _ => .ok
  else .ok

/-- IRQ_RAW bits that a condition holds at 1 (R26, R103, R151, R304, R468). (DEDUCED: log entry 18) -/
def heldEvents (page : Nat) (s : State) : Word :=
  let any4 := fun (f : Nat → State → Word) => (List.range 4).any fun i => f i s ≠ 0
  match pageKind page with
  | .src => if any4 srcPend then 1 else 0
  | .kib => if any4 kibPend then 1 else 0
  | .cdc => if any4 dspPend then 1 else 0
  | .mge => if s.reg page 0x31C ≠ 0 then bitW 12 else 0
  | _ => 0

/-- A W1C write of IRQ_RAW: bits 0 and 1 of the CDC pages are the same on all of them. (DEDUCED: log entry 18) -/
def afterW1c (page : Nat) (v : Word) (s : State) : State :=
  let hold := fun (s : State) (p : Nat) => s.setReg p 0x010 (s.reg p 0x010 ||| heldEvents p s)
  if pageKind page = .cdc then
    (List.range 16).foldl (fun s n =>
      hold (s.setReg (pCdc n) 0x010 (s.reg (pCdc n) 0x010 &&& ~~~ (v &&& 3))) (pCdc n)) s
  else hold s page

/-- The effect of an accepted write to the common header; `was` is the state before it. -/
def hdrEffect (bus : Bus) (page off : Nat) (v : Word) (was s : State) : State :=
  match off with
  | 0x008 =>
    if bit v 1 then softResetPage bus page s
    else if bit v 0 && !was.enabled page then startPage bus page s
    else if !bit v 0 && was.enabled page then stopPage bus page s
    else s
  | 0x010 => afterW1c page v s
  | 0x014 =>
    let s := if pageKind page = .out then noteOut (pageInst page) off was s else s
    afterIrqEn page (was.reg page 0x014) (s.setReg page 0x014 (s.reg page 0x014 &&& eventMask page))
  | 0x01C =>
    if bit v 15 then ((s.setReg page 0x01C 0).setReg page 0x020 0).setReg page 0x024 0 else s
  | _ => s

/-- A write to the common header of a page (R17 to R19). (DEDUCED: log entry 17) -/
def hdrWrite (bus : Bus) (m : Master) (page off : Nat) (v : Word) (s : State) : State :=
  regCommand m page off v (hdrCheck page off v) (hdrEffect bus page off v s) s

/-! ## BLK_STAT (R17) -/

/-- BLK_STAT.BLOCK as the chapters give it. (DEDUCED: log entry 19) -/
def pageBlock (page : Nat) (s : State) : Nat :=
  let i := pageInst page
  match pageKind page with
  | .cmp => cmpBlock i s
  | .grd => grdBlock i s
  | .out => outState i s
  | .dmc => dmcState i s
  | .ica => ictBlock .ica s
  | .ics => ictBlock .ics s
  | .gte => b2n (s.rb page 0x040 2)
  | .tch => tchState s
  | _ => 0

/-- The block has recorded a fault. (DEDUCED: log entry 19) -/
def pageFault (page : Nat) (s : State) : Bool :=
  match pageKind page with
  | .gte => s.rb page 0x050 31
  | .cmp => s.rf page 0x070 7 0 ≠ 0
  | _ => false

/-- The block has work it has not completed. (DEDUCED: log entry 19) -/
def pageActive (page : Nat) (s : State) : Bool :=
  let i := pageInst page
  match pageKind page with
  | .bst => !s.bst.runs.isEmpty || !s.bst.waiting.isEmpty
  | .mrm => !s.mrm.queue.isEmpty
  | .tch => s.tch.running || s.rb page 0x040 2
  | .gte => !(gateInflight i s).isEmpty
  | .dma => (smAt i s.dma).chans.any (fun c => !c.2.inflight.isEmpty) || !(smAt i s.dma).waiting.isEmpty
  | .crc => crcBusy i s
  | .dmc => dmcState i s = dmcInitSt || dmcState i s = dmcMigrating || !(smAt i s.dmc).retries.isEmpty
  | .cdc => (smAt i s.eng).pic.isSome || (smAt i s.eng).encoding.isSome
  | .ing => s.ctx.any fun c => !c.2.jb.isEmpty
  | .src => (s.ctx.any fun c => !c.2.jb.isEmpty) || (s.dpi.any fun d => d.2.frame.isSome) || !s.rx.isEmpty
  | .dpi => (smAt i s.dpi).frame.isSome
  | .cmp => (composing i s).isSome
  | .grd | .out => outState i s = outRunning || outState i s = outReleasing
  | .enc => s.enc.any fun e => e.2.cur.isSome || !e.2.inputs.isEmpty || !e.2.packets.isEmpty
  | .ng => (smAt i s.ng).tx.isSome || !(smAt i s.ng).q0.isEmpty || !(smAt i s.ng).q1.isEmpty
  | .kib => s.kib.due
  | .pci => !s.pci.hold.isEmpty
  | .mge => mdioBusy s || (List.range 4).any (fun j => i2cBusy j s) || s.uart.any fun u => !u.2.tx.isEmpty
  | .ptp => s.tm.slew ≠ 0
  | _ => false

/-- A self-test run on the block is in progress. -/
def pageInTest (page : Nat) (s : State) : Bool := s.bst.runs.any fun r => (runPages r.1 s).contains page

/-- BLK_STAT of a page (R17). (DEDUCED: log entry 19) -/
def blkStat (page : Nat) (s : State) : Word :=
  BitVec.ofNat 32 (pageBlock page s % 65536 * 65536 + b2n (pageFault page s) * 8 + b2n (pageInTest page s) * 4
    + b2n (s.resetBusy page) * 2 + b2n (pageActive page s))

/-! ## Reading a register -/

/-- The present value of a register of a page, with the side effects its chapter gives the read. -/
def pageValue (m : Master) (page off : Nat) (s : State) : Word × State :=
  let i := pageInst page
  if off = 0x00C then (blkStat page s, s)
  else if off = 0x008 then (putFld (s.reg page 0x008) 2 2 (b2n (s.testHold page)), s)
  else if off = 0x018 then (s.reg page 0x010 &&& s.reg page 0x014, s)
  else if off < 0x40 then (s.reg page off, s)
  else
    match pageKind page with
    | .sys => (s.reg page off, s)
    | .pmu => pmuRead off s
    | .key => keyRead m off s
    | .bst => bstRead m off s
    | .mrm => mrmRead off s
    | .tch => tchRead off s
    | .ica => ictRead .ica off s
    | .ics => ictRead .ics off s
    | .gte => (if off = 0x04C then gteStat page s else s.reg page off, s)
    | .dma => dmaRead i off s
    | .crc => crcRead i off s
    | .dmc => dmcRead m i off s
    | .cdc => cdcRead m page off s
    | .ing => (s.reg page off, s)
    | .src => srcRead m off s
    | .dpi => dpiRead i off s
    | .cmp => cmpRead i off s
    | .grd => grdRead m i off s
    | .out => outRead i off s
    | .enc => encRead off s
    | .ng => ngRead i off s
    | .kib => kibRead m off s
    | .eth => (s.reg page off, s)
    | .ptp => ptpRead m off s
    | .ttu => ttuRead m off s
    | .pci => pciRead m off s
    | .mge => mgeRead off s

/-- The present value of a register, or what a page that holds its contents shows (R31). -/
def liveRead (m : Master) (page off : Nat) (s : State) : Word × State := heldRead page off (pageValue m page off) s

/-- What a read returns: a low word of a pair captures the high word for the master, whose next read of the high
word returns it (R13); an RC register returns to its reset value, but on a frozen page (R6, R31). -/
def readValue (m : Master) (page off : Nat) (s : State) : Word × State :=
  match findRow page off with
  | none => (0, s)
  | some r =>
    let p := canonPage page off
    let idx := winIdx r.win m s
    let (w, s) := liveRead m page off s
    let (w, s) := match r.pair with
      | .single => (w, s)
      | .low =>
        let (high, s) := liveRead m page (off + 4) s
        (w, setShadow m p (off + 4) idx high s)
      | .high => readShadow m p off idx w s
    if r.rc = 0 || frozenPage p s then (w, s)
    else
      let init := resetOf (rkey p off idx)
      (w, s.setRegAt p off idx ((s.regAt p off idx &&& ~~~ r.rc) ||| (init &&& r.rc)))

/-- A register read at its page. A read of GTE_DRAIN waits (R367). -/
def pageRead (m : Master) (page off : Nat) (s : State) : State :=
  readCommand m page off (readValue m page off) s

/-! ## Writing a register -/

/-- A register write at its page, by an access of the given PRIV. -/
def pageWrite (bus : Bus) (m : Master) (priv : Bool) (page off : Nat) (v : Word) (s : State) : State :=
  let i := pageInst page
  if off < 0x40 then hdrWrite bus m page off v s
  else
    match pageKind page with
    | .sys => sysWrite m priv off v s
    | .pmu => pmuWrite m off v s
    | .key => keyWrite m off v s
    | .bst => bstWrite m off v s
    | .mrm => mrmWrite m off v s
    | .tch => tchWrite m off v s
    | .ica => ictWrite m .ica off v s
    | .ics => ictWrite m .ics off v s
    | .gte => gteWrite m page off v s
    | .dma => dmaWrite m priv i off v s
    | .crc => crcWrite m i off v s
    | .dmc => dmcWrite m i off v s
    | .cdc => cdcWrite bus m page off v s
    | .ing => ingWrite m off v s
    | .src => srcWrite m off v s
    | .dpi => dpiWrite m i off v s
    | .cmp => cmpWrite m i off v s
    | .grd => grdWrite m i off v s
    | .out => outWrite m i off v s
    | .enc => encWrite bus m off v s
    | .ng => ngWrite m i off v s
    | .kib => kibWrite bus m off v s
    | .eth => ethWrite m i off v s
    | .ptp => ptpWrite m off v s
    | .ttu => regCommand m pTtu off v (ttuCheck off) (ttuEffect m off v) s
    | .pci => pciWrite m off v s
    | .mge => mgeWrite m off v s

/-! ## Accesses to the register pages (R12) -/

/-- The words of a register access, the lower address first. (DEDUCED: log entry 20) -/
def regReads (m : Master) : List Nat → State → Bool × List Byte × State
  | [], s => (true, [], s)
  | a :: rest, s =>
    let o := a - regBase
    let t := pageRead m (o / 0x1000) (o % 0x1000) s
    let (ok, d, u) := regReads m rest { t with resp := s.resp }
    (t.resp.ok && ok, leBytes 4 t.resp.data ++ d, u)

/-- The register writes of an access, one word after another (R12, R14). (DEDUCED: log entry 20) -/
def regWrites (bus : Bus) (m : Master) (priv : Bool) : List (Nat × List Byte) → State → Bool × State
  | [], s => (true, s)
  | (a, bs) :: rest, s =>
    let o := a - regBase
    let t := pageWrite bus m priv (o / 0x1000) (o % 0x1000) (BitVec.ofNat 32 (leNat bs)) s
    let (ok, u) := regWrites bus m priv rest { t with resp := s.resp }
    (t.resp.ok && ok, u)

/-- The 32-bit words of a register access. -/
def regWords (a len : Nat) : List Nat := (List.range (len / 4)).map fun i => a + 4 * i

/-- A write of a register access's bytes. -/
def regWriteBytes (bus : Bus) (m : Master) (priv : Bool) (a : Nat) (bs : List Byte) (s : State) : Bool × State :=
  regWrites bus m priv ((regWords a bs.length).zip (cutBlocks 4 (bs.length / 4 + 1) 0 bs |>.map (·.2))) s

/-! ## Accesses of masters (R11, R338, R359 to R367) -/

/-- A read or fetch that its gate has judged: refused bytes read 0, and one refused part makes the whole response an
error. (DESIGN CHOICE: log entry 14) -/
def fabricRead (m : Master) (j : Judged) (a len : Nat) (s : State) : Bool × List Byte × State :=
  let (ok, d, s) := (parts a len).foldl (fun (acc : Bool × List Byte × State) p =>
    if j.admitted.contains p then
      let (ok, d, s) :=
        if region p.1 = .regs && regAccessOk a len then regReads m (regWords p.1 p.2) acc.2.2
        else readPart m p.1 p.2 acc.2.2
      (acc.1 && ok, acc.2.1 ++ d, s)
    else (false, acc.2.1 ++ List.replicate p.2 0, acc.2.2)) (true, [], recordUnanswered m false j.admitted s)
  (ok && !j.faulted, d, s)

/-- A write that its gate has judged, `regw` serving the register pages: refused parts are not made, and one makes the whole
response an error. The write stays in flight while stores of it wait (R364, R367). -/
def fabricWriteBy (regw : Nat → List Byte → State → Bool × State) (m : Master) (j : Judged) (a : Nat) (bs : List Byte)
    (s : State) : Bool × State :=
  let (ok, s) := (parts a bs.length).foldl (fun (acc : Bool × State) p =>
    if j.admitted.contains p then
      let d := partBytes a p bs
      let (ok, s) :=
        if region p.1 = .regs && regAccessOk a bs.length then regw p.1 d acc.2 else writePart m p.1 d acc.2
      (acc.1 && ok, s)
    else (false, acc.2)) (true, recordUnanswered m true j.admitted s)
  let ok := ok && !j.faulted
  (ok, openWrite m a bs.length ok s)

/-- A write that its gate has judged. (DESIGN CHOICE, PRESUMED: log entries 14, 21) -/
def fabricWrite (bus : Bus) (m : Master) (priv : Bool) (j : Judged) (a : Nat) (bs : List Byte) (s : State) : Bool × State :=
  fabricWriteBy (regWriteBytes bus m (fixedPriv m priv)) m j a bs s

/-- A write of a master, its response given (R340, R432). -/
def writeAt (bus : Bus) (m : Master) (priv : Bool) (j : Judged) (a : Nat) (bs : List Byte) (s : State) : State :=
  let (ok, s) := fabricWrite bus m priv j a bs s
  s.respond ok 0

/-! ## Atomics (R11, R338) -/

/-- The value an AMO stores. -/
def amoValue (op : AtomicOp) (n old v : Nat) : Nat :=
  let sg := fun x => (BitVec.ofNat (8 * n) x).toInt
  match op with
  | .swap | .lr | .sc => v
  | .add => (old + v) % 2 ^ (8 * n)
  | .and => Nat.land old v
  | .or => Nat.lor old v
  | .xor => Nat.xor old v
  | .min => if sg old ≤ sg v then old else v
  | .max => if sg old ≤ sg v then v else old
  | .minu => min old v
  | .maxu => max old v

/-- A reservation of LR (R338). (DEDUCED: log entry 66) -/
def reservation (m a n : Nat) : Reservation := { m := m, addr := a, len := n }

def dropResv (m : Nat) (s : State) : State := { s with resv := s.resv.filter fun r => r.m ≠ m }

/-- An atomic at memory that takes it. (DEDUCED: log entry 66) -/
def atomicAt (m : Master) (op : AtomicOp) (a n v : Nat) (s : State) : State :=
  let id := masterId m
  match op with
  | .sc =>
    let held := s.resv.contains (reservation id a n)
    let s := dropResv id s
    if held then
      let (ok, s) := writePart m a (leBytes n v) s
      s.respond ok 0
    else s.respond true 1
  | _ =>
    let (ok, d, s) := readPart m a n s
    if !ok then s.respond false 0
    else if op = .lr then
      let s := dropResv id s
      { s with resv := s.resv ++ [reservation id a n] }.respond true (leNat d)
    else
      let (ok, s) := writePart m a (leBytes n (amoValue op n (leNat d) v)) s
      s.respond ok (leNat d)

/-- How an atomic is told of as an access: a load-reserved is a load (R340). (PRESUMED: log entry 21) -/
def atomicKind (op : AtomicOp) : AccKind := if op = .lr then .read else .atomic

/-- An atomic access that its gate has judged: it is carried out whole at DRAM or system SRAM, misaligned too, or not at all
when it crosses a page or range boundary or its target takes none (R11, R337, R338, R364). (DEDUCED: log entry 20) -/
def fabricAtomic (m : Master) (j : Judged) (op : AtomicOp) (a : Nat) (data : List Byte) (s : State) : State :=
  let n := data.length
  if j.faulted then s.respond false 0
  else if 1 < (parts a n).length || unanswered false a s then (recordUnanswered m false (parts a n) s).respond false 0
  else
    match region a with
    | .dram | .sram => atomicAt m op a n (leNat data) s
    | _ => s.respond false 0

/-- A read of GTE_DRAIN: its gate, and whether it takes the word above too (R367). -/
def drainRead (a len : Nat) : Option (Nat × Bool) :=
  let o := a - regBase
  if region a = .regs && (len = 4 || len = 8) && o % 0x1000 = 0x048 && pageKind (o / 0x1000) = .gte then
    some (pageInst (o / 0x1000), len = 8)
  else none

/-- A misaligned load or store of an APC to MRAM or the boot ROM, which is not carried out; a register page answers one
with its own error (R12, R337). (PRESUMED: log entry 21) -/
def misaligned (m : Master) (a : Nat) : Access → Bool
  | .read len => isApc m && (region a = .mram || region a = .rom) && a % len ≠ 0
  | .write bs => isApc m && (region a = .mram || region a = .rom) && a % bs.length ≠ 0
  | _ => false

/-- How an access is reported (R340). -/
def accessKind : Access → AccKind
  | .read _ => .read
  | .fetch _ => .fetch
  | .write _ | .writeBack _ _ => .write
  | .atomic op _ => atomicKind op

/-- The PRIV that an access carries: a write-back that of the lowest of the stores that dirtied its line (R339). -/
def accessPriv (priv : Bool) : Access → Bool
  | .writeBack _ stores => stores.all id
  | _ => priv

/-- A read that its gate has judged, its response given; one of GTE_DRAIN waits (R367). -/
def readAt (m : Master) (j : Judged) (a len : Nat) (s : State) : State :=
  match if j.faulted then none else drainRead a len with
  | some (g, wide) => drainAt m g a wide s
  | none =>
    let (ok, d, s) := fabricRead m j a len s
    s.respond ok (leNat d)

/-- An access that its gate has judged is carried out, its response left in `resp`. -/
def carryOut (bus : Bus) (m : Master) (priv : Bool) (j : Judged) (a : Nat) (acc : Access) (s : State) : State :=
  match acc with
  | .read len => readAt m j a len s
  | .fetch len =>
    let (ok, d, s) := fabricRead m j a len s
    s.respond ok (leNat d)
  | .write bs | .writeBack bs _ => writeAt bus m (accessPriv priv acc) j a bs s
  | .atomic op data => fabricAtomic m j op a data s

/-- The operands name an access: some bytes, or 4 or 8 for an atomic; an APC writes back a line that some store has
dirtied (R337, R339). -/
def accessFormed (m : Master) (a : Nat) : Access → Bool
  | .read n | .fetch n => 0 < n
  | .write bs => !bs.isEmpty
  | .atomic _ d => d.length = 4 || d.length = 8
  | .writeBack d stores => isApc m && d.length = 64 && a % 64 = 0 && !stores.isEmpty

/-- How a gate is told of an access (R360): an atomic, load-reserved too, needs both rights. -/
def gateKind : Access → AccKind
  | .atomic _ _ => .atomic
  | acc => accessKind acc

/-- An access of a master at an address: judged by its gate at issue, carried out after its earlier ones to the same blocks
of memory (R29, R365). -/
def accessAt (bus : Bus) (m : Master) (priv : Bool) (a : Nat) (acc : Access) (s : State) : State :=
  let (j, s) := gateCheck m (fixedPriv m (accessPriv priv acc)) (gateKind acc) a (accLen acc) s
  if mustWait m a (accLen acc) s && !j.admitted.isEmpty then
    park (.fabricAccess m priv (BitVec.ofNat 40 a) acc) m (accessKind acc) a j s
  else settled m (accessKind acc) a (carryOut bus m priv j a acc) s

/-- An access that a master issues (R30, R337, R342, R469). (PRESUMED: log entry 21) -/
def masterAccess (bus : Bus) (m : Master) (priv : Bool) (a : Nat) (acc : Access) (s : State) : State :=
  if !mayIssue m s then notIssued m s
  else if misaligned m a acc then answer m (accessKind acc) a false 0 s
  else accessAt bus m priv a acc s

/-! ## The host's BARs (R455) -/

/-- The fabric address of an offset in a BAR; none outside it, or in BAR4. -/
def barAddr (b : Bar) (offset : Nat) (s : State) : Option Nat :=
  match b with
  | .bar4 => none
  | .bar0 => if offset < 0x100000 then some (regBase + offset) else none
  | .bar2 =>
    if offset < 2 ^ s.rf pPci 0x048 5 0 then some ((s.pair pPci 0x04C + offset) % 2 ^ 40) else none

end Sys2Proof.Machine
end

