-- ==== Sys2Proof/Machine/Retry.lean ====
section
/-! DEFINITION. The accesses that wait behind a read that is made again, once it has ended (R29, R365). -/

namespace Sys2Proof.Machine

/-- What an access that has waited does at its target, under the judgement of its issue (R365). -/
def parkedWork (bus : Bus) (j : Judged) : Instr → State → State
  | .fabricAccess m priv a acc, s => carryOut bus m priv j a.toNat acc s
  | .dramRead m _ line e, s => lineRead m (lineOf line.toNat) e s
  | .dramWrite m _ line data, s => wholeWrite m (lineOf line.toNat) data s
  | .dramPartialWrite m _ a data e, s => partialWrite m a.toNat data e s
  | _, s => s

/-- The kind of an access that waits, as it is reported. -/
def parkedKind : Instr → AccKind
  | .fabricAccess _ _ _ acc => accessKind acc
  | .dramWrite _ _ _ _ | .dramPartialWrite _ _ _ _ _ => .write
  | _ => .read

/-- An access that has waited is carried out: it is answered, unless it stays in flight once more. -/
def resume (bus : Bus) (p : Parked) (s : State) : State :=
  match waitSpan p.cmd with
  | none => s
  | some (m, a, _) =>
    let s := leaveFlight p.id s
    let t := parkedWork bus p.judged p.cmd s
    if flown m s t ≠ [] then t else landed s.resp p.id m (parkedKind p.cmd) a t

/-- The accesses that wait are carried out in their order; those that still have to wait wait on (R29). -/
def reissueAll (bus : Bus) (s : State) : State :=
  s.behind.foldl (fun s p =>
    match waitSpan p.cmd with
    | some (m, a, len) => if mustWait m a len s then { s with behind := s.behind ++ [p] } else resume bus p s
    | none => s) { s with behind := [] }

end Sys2Proof.Machine
end

