-- ==== Sys2Proof/Machine/Own.lean ====
section
/-! DEFINITION. The accesses that a block makes by itself: judged by its gate, carried out after its earlier ones to the same
memory, at memory and at the register pages alike (R12, R15, R20, R22, R24, R29, R358, R364, R365, R367). -/

namespace Sys2Proof.Machine

/-! ## What an access of a block waits for -/

/-- A read that is made again comes to its end before what must wait for it; whether it succeeds is left open (R29, R316).
(DESIGN CHOICE: log entry 14) -/
def endRetry (n : Nat) (s : State) (r : Retry) : State :=
  let (good, s) := s.takeBool
  if good then resumeRetry n r [[]] r.left s else resumeRetry n r [] 0 s

/-- The reads that are being made again and that `which` picks come to their ends. -/
def endRetries (which : Retry → Bool) (s : State) : State :=
  (List.range 6).foldl (fun s n => ((smAt n s.dmc).retries.filter which).foldl (endRetry n) s) s

/-- The blocks of memory that the waiting accesses of a master touch. -/
def parkedBlocks (m : Master) (s : State) : List Nat :=
  s.behind.flatMap fun p =>
    match waitSpan p.cmd with
    | some (q, a, len) => if q = m then linesOf a len else []
    | none => []

/-- What an access of a block has to wait for completes first (R29). (DESIGN CHOICE: log entry 14) -/
def settleFor (bus : Bus) (m : Master) (a len : Nat) : Nat → State → State
  | 0, s => s
  | n + 1, s =>
    if mustWait m a len s then
      let blocks := linesOf a len ++ parkedBlocks m s
      settleFor bus m a len n
        (reissueAll bus (endRetries (fun r => r.acc.isSome && r.m = m && blocks.contains r.line) s))
    else s

/-- What an access of a block has to wait for is complete (R29). (DESIGN CHOICE: log entry 14) -/
def settle (bus : Bus) (m : Master) (a len : Nat) (s : State) : State := settleFor bus m a len (s.behind.length + 1) s

/-- The stores that wait or are in progress come to their ends, in their order (R432). -/
def finishStores : Nat → State → State
  | 0, s => s
  | n + 1, s =>
    match s.mrm.queue with
    | [] => s
    | st :: rest => finishStores n (if st.begun.isSome then endStore st rest s else beginStore st rest s)

/-- The waiting reads of GTE_DRAIN among some accesses are answered as they become ready. -/
def answerDrains (ids : List Nat) (s : State) : State :=
  s.drains.foldl (fun s d => if ids.contains d.id && drainReady s d then drainAnswer d s else s) s

/-- Some accesses in flight come to their ends (R367). (DESIGN CHOICE: log entry 14) -/
def endAccesses (bus : Bus) (ids : List Nat) : Nat → State → State
  | 0, s => s
  | n + 1, s =>
    if allDone ids s then s
    else
      let s := reissueAll bus (endRetries (fun r => r.acc.any ids.contains) s)
      let s := if allDone ids s then s else finishStores (2 * (mramStores s).length) s
      endAccesses bus ids n (answerDrains ids s)

/-- A block's own read of GTE_DRAIN waits for the accesses that the gate has admitted, and finds their number (R367).
(DESIGN CHOICE: log entry 14) -/
def drainOwn (bus : Bus) (j : Judged) (a len : Nat) (s : State) : State :=
  match if j.faulted then none else drainRead a len with
  | none => s
  | some (g, _) =>
    if (admitRead (8 + g) 0x048 s).isSome then s
    else
      let ids := gateInflight g s
      (endAccesses bus ids (ids.length + 1) s).setFld (8 + g) 0x048 15 0 (min ids.length 65535)

/-! ## The accesses -/

/-- A block's own read. -/
def ownRead (bus : Bus) (m : Master) (priv : Bool) (a len : Nat) (s : State) : Bool × List Byte × State :=
  let (j, s) := gateCheck m priv .read a len s
  fabricRead m j a len (drainOwn bus j a len (settle bus m a len s))

/-- A block's own write. -/
def ownWrite (bus : Bus) (m : Master) (priv : Bool) (a : Nat) (bs : List Byte) (s : State) : Bool × State :=
  let (j, s) := gateCheck m priv .write a bs.length s
  fabricWrite bus m priv j a bs (settle bus m a bs.length s)

/-- A register write that other blocks' register writes have brought about, too deep for one command: it is served with the
next clock, and whether it was answered with an error is left open. (DESIGN CHOICE: log entry 22) -/
def laterWrite (m : Master) (priv : Bool) (a : Nat) (bs : List Byte) (s : State) : Bool × State :=
  let (ok, s) := s.takeBool
  (ok, { s with ownRegs := s.ownRegs ++ [.fabricAccess m priv (BitVec.ofNat 40 a) (.write bs)] })

/-- The accesses of blocks, where the effects of their register writes may bring about accesses of blocks in turn, `n` deep. -/
def ownAt : Nat → Bus
  | 0 =>
    { readAs := fun m priv a len s =>
        let (j, s) := gateCheck m priv .read a len s
        fabricRead m j a len s
      writeAs := fun m priv a bs s =>
        let (j, s) := gateCheck m priv .write a bs.length s
        fabricWriteBy (laterWrite m priv) m j a bs s }
  | n + 1 => { readAs := ownRead (ownAt n), writeAs := ownWrite (ownAt n) }

/-- The accesses that blocks make by themselves. (DESIGN CHOICE: log entry 22) -/
def ownBus : Bus := ownAt 4

/-- A block's own read of memory. (DESIGN CHOICE: log entry 22) -/
def busRead (m : Master) (a len : Nat) (s : State) : Bool × List Byte × State := ownBus.read m a len s

/-- A block's own write of memory. (DESIGN CHOICE: log entry 22) -/
def busWrite (m : Master) (a : Nat) (bs : List Byte) (s : State) : Bool × State := ownBus.write m a bs s

/-- A block's read of a little-endian number of `n` bytes. -/
def busNat (m : Master) (a n : Nat) (s : State) : Bool × Nat × State :=
  let (ok, d, s) := busRead m a n s
  (ok, leNat d, s)

/-- A page serves a register write that was left for the next clock. (DESIGN CHOICE: log entry 22) -/
def serveOwn (s : State) : Instr → State
  | .fabricAccess m priv a (.write bs) => (regWriteBytes ownBus m priv a.toNat bs s).2
  | _ => s

/-- The pages serve the register writes that were left for this clock; nothing answers the last command again.
(DESIGN CHOICE: log entries 2, 22) -/
def regTick (s : State) : State :=
  { s.ownRegs.foldl serveOwn { s with ownRegs := [] } with resp := s.resp }

end Sys2Proof.Machine
end

