-- ==== Sys2Proof/Machine/AccessWork.lean ====
section
/-! DEFINITION. The rows that are accesses of a master to the common header or to any address, and the read of DRAM
that is made again (R6, R12, R13, R17 to R20, R26, R316, R455). -/

namespace Sys2Proof.Machine

/-! ## Enabling, disabling and resetting a block (R17, R19) -/

/-- SOFT_RESET: a write of BLK_CTRL with SOFT_RESET = 1 (R19). -/
def execSoftReset (m : Master) (page : Fin 141) (s : State) : Host.Outcome State Fault Refusal :=
  .next (issue m .write page.val 0x008 (hdrWrite ownBus m page.val 0x008 2) s)

/-- SOFT_RESET_DONE (R19). (DEDUCED: log entry 17) -/
def execSoftResetDone (page : Fin 141) (s : State) : Host.Outcome State Fault Refusal :=
  .next (whenServed s (if s.resetBusy page.val then
      (s.setFld page.val 0x008 1 1 0).setFld page.val 0x00C 1 1 0
    else s))

/-- BLOCK_ENABLE: a write of BLK_CTRL with ENABLE = 1 (R17). (DESIGN CHOICE: log entry 12) -/
def execBlockEnable (m : Master) (page : Fin 141) (s : State) : Host.Outcome State Fault Refusal :=
  .next (issue m .write page.val 0x008 (hdrWrite ownBus m page.val 0x008 1) s)

/-- BLOCK_DISABLE: a write of BLK_CTRL with ENABLE = 0 (R17). -/
def execBlockDisable (m : Master) (page : Fin 141) (s : State) : Host.Outcome State Fault Refusal :=
  .next (issue m .write page.val 0x008 (hdrWrite ownBus m page.val 0x008 0) s)

/-- CMP_DISABLE: a write of BLK_CTRL with ENABLE = 0 to a CMP page (R191). -/
def execCmpDisable (m : Master) (n : Fin 16) (s : State) : Host.Outcome State Fault Refusal :=
  .next (issue m .write (pCmp n.val) 0x008 (hdrWrite ownBus m (pCmp n.val) 0x008 0) s)

/-- CDC_ENGINE_DISABLE: a write of BLK_CTRL with ENABLE = 0 to a CDC page (R490). (DEDUCED: log entry 46) -/
def execCdcEngineDisable (m : Master) (n : Fin 16) (s : State) : Host.Outcome State Fault Refusal :=
  .next (issue m .write (pCdc n.val) 0x008 (hdrWrite ownBus m (pCdc n.val) 0x008 0) s)

/-- SRC_PAGE_DISABLE: a write of BLK_CTRL with ENABLE = 0 to the SRC page (R488). -/
def execSrcPageDisable (m : Master) (s : State) : Host.Outcome State Fault Refusal :=
  .next (issue m .write pSrc 0x008 (hdrWrite ownBus m pSrc 0x008 0) s)

/-- OUT_ENABLE: a write of BLK_CTRL with ENABLE = 1 to an OUT page (R221). -/
def execOutEnable (m : Master) (n : Fin 16) (s : State) : Host.Outcome State Fault Refusal :=
  .next (issue m .write (pOut n.val) 0x008 (hdrWrite ownBus m (pOut n.val) 0x008 1) s)

/-- OUT_DISABLE: a write of BLK_CTRL with ENABLE = 0 to an OUT page (R221). -/
def execOutDisable (m : Master) (n : Fin 16) (s : State) : Host.Outcome State Fault Refusal :=
  .next (issue m .write (pOut n.val) 0x008 (hdrWrite ownBus m (pOut n.val) 0x008 0) s)

/-- ERR_CLEAR: a write of 1 to ERR_CODE.CLEAR (R18). -/
def execErrClear (m : Master) (page : Fin 141) (s : State) : Host.Outcome State Fault Refusal :=
  .next (issue m .write page.val 0x01C (hdrWrite ownBus m page.val 0x01C 0x8000) s)

/-! ## Atomics (R11, R338) -/

/-- FABRIC_ACCESS (R365). (DESIGN CHOICE: log entry 3) -/
def execFabricAccess (m : Master) (priv : Bool) (addr : Addr) (a : Access) (s : State) :
    Host.Outcome State Fault Refusal :=
  if !accessFormed m addr.toNat a then
    .refused (.illFormed "an access has some bytes, an atomic 4 or 8, an APC's write-back a dirty line")
  else .next (masterAccess ownBus m priv addr.toNat a s)

/-- REGISTER_WRITE: a write of `size` bytes to a register page (R12, R22). (DESIGN CHOICE: log entry 3) -/
def execRegisterWrite (m : Master) (priv : Bool) (addr : Addr) (size : Nat) (v : BitVec 64) (s : State) :
    Host.Outcome State Fault Refusal :=
  if !(size = 1 || size = 2 || size = 4 || size = 8) then
    .refused (.illFormed "a register write has 1, 2, 4 or 8 bytes")
  else .next (masterAccess ownBus m priv addr.toNat (.write (leBytes size v.toNat)) s)

/-- PAIR_HIGH_WRITE: a write of the high word of a pair (R13). -/
def execPairHighWrite (m : Master) (priv : Bool) (addr : Addr) (v : Word) (s : State) :
    Host.Outcome State Fault Refusal :=
  .next (masterAccess ownBus m priv addr.toNat (.write (leBytes 4 v.toNat)) s)

/-- PAIR_LOW_READ: a read of the low word of a pair (R13). -/
def execPairLowRead (m : Master) (addr : Addr) (s : State) : Host.Outcome State Fault Refusal :=
  .next (masterAccess ownBus m true addr.toNat (.read 4) s)

/-- RC_READ: a read of an RC register (R6). -/
def execRcRead (m : Master) (addr : Addr) (s : State) : Host.Outcome State Fault Refusal :=
  .next (masterAccess ownBus m true addr.toNat (.read 4) s)

/-! ## The host's BARs (R455) -/

/-- HOST_BAR_ACCESS: a memory read or write of the host enters the fabric as PCI with PRIV = 0; in BAR4 it is one of the
MSI-X table, the PBA or the doorbells. A function in D3hot, or an address outside the BAR, completes none (R455).
(DESIGN CHOICE, DEDUCED: log entries 3, 20, 84) -/
def execHostBarAccess (bar : Bar) (offset : Nat) (a : Access) (s : State) :
    Host.Outcome State Fault Refusal :=
  match a with
  | .fetch _ | .atomic _ _ | .writeBack _ _ => .refused (.illFormed "the host reads and writes")
  | .read _ | .write _ =>
    if !accessFormed .pci 0 a then .refused (.illFormed "an access has some bytes")
    else
      .next (if !clocked s || !barServed s then s.respond false 0
        else if bar = .bar4 then bar4Access offset a (linkWake s)
        else
          match barAddr bar offset s with
          | none => s.respond false 0
          | some addr => accessAt ownBus .pci false addr a (linkWake s))

/-! ## The end of a read that is made again (R29, R316) -/

/-- DRAM_READ_RETRY: a line found UNCORRECTABLE is read again, and what waited for it follows (R29, R316). -/
def execDramReadRetry (m : Master) (line : Addr) (retries : List SymErrs) (s : State) :
    Host.Outcome State Fault Refusal :=
  .next (whenServed s (reissueAll ownBus (readAgain m line retries s)))

end Sys2Proof.Machine
end

