-- ==== Sys2Proof/Machine/SurfaceWork.lean ====
section
/-! DEFINITION. How samples lie in memory, how a writer stores them and how a reader decodes them, Mborin blocks among
them (R156 to R164). -/

namespace Sys2Proof.Machine

/-! ## Formats (R156) -/

def fmtReserved (f : Nat) : Bool := 9 ≤ f

/-- Container size in bytes (R157, R159). -/
def fmtContainer (f : Nat) : Nat := if f = 0 || f = 2 then 1 else if f = 1 || f = 3 then 2 else 4

/-- The planar Mborin format of a depth. -/
def mbFmt (depth : Nat) : Nat := if depth = 10 then 3 else 2

/-! ## Planes of blocks (R160) -/

/-- Depths of the channels, in coding order (R160). -/
def PlaneKind.depths : PlaneKind → List Nat
  | .luma8 => [8]
  | .chroma8 => [8, 8]
  | .luma10 => [10]
  | .chroma10 => [10, 10]
  | .argb8 => [8, 8, 8, 8]
  | .argb10 => [10, 10, 10, 2]

/-- Samples per row of a channel of a block. -/
def PlaneKind.nx : PlaneKind → Nat
  | .chroma8 | .chroma10 => 8
  | _ => 16

/-- The bytes of one column of the channels in their container (R157). -/
def containerBytes (k : PlaneKind) (vs : List Nat) : List Byte :=
  match k with
  | .luma8 | .chroma8 => vs.flatMap fun v => leBytes 1 v
  | .luma10 | .chroma10 => vs.flatMap fun v => leBytes 2 v
  | .argb8 => leBytes 4 (vs.getD 3 0 * 2 ^ 24 + vs.getD 2 0 * 2 ^ 16 + vs.getD 1 0 * 2 ^ 8 + vs.getD 0 0)
  | .argb10 => leBytes 4 (vs.getD 3 0 * 2 ^ 30 + vs.getD 2 0 * 2 ^ 20 + vs.getD 1 0 * 2 ^ 10 + vs.getD 0 0)

/-- The channels of one column read from its container (R157). -/
def containerVals (k : PlaneKind) (n : Nat) : List Nat :=
  match k with
  | .luma8 => [n % 2 ^ 8]
  | .chroma8 => [n % 2 ^ 8, n / 2 ^ 8 % 2 ^ 8]
  | .luma10 => [n % 2 ^ 10]
  | .chroma10 => [n % 2 ^ 10, n / 2 ^ 16 % 2 ^ 10]
  | .argb8 => [n % 2 ^ 8, n / 2 ^ 8 % 2 ^ 8, n / 2 ^ 16 % 2 ^ 8, n / 2 ^ 24 % 2 ^ 8]
  | .argb10 => [n % 2 ^ 10, n / 2 ^ 10 % 2 ^ 10, n / 2 ^ 20 % 2 ^ 10, n / 2 ^ 30 % 4]

/-- Bytes of one column of a plane. -/
def PlaneKind.colBytes (k : PlaneKind) : Nat := k.bw / k.nx

/-! ## Coding a block (R162, R163) -/

/-- Zigzag of the residual of a sample against its prediction (R162). -/
def zigzag (d v p : Nat) : Nat :=
  let r := (v + 2 ^ d - p) % 2 ^ d
  if r < 2 ^ (d - 1) then 2 * r else 2 * (2 ^ d - r) - 1

/-- A sample from its zigzag code and its prediction. -/
def unzigzag (d u p : Nat) : Nat :=
  if u % 2 = 0 then (p + u / 2) % 2 ^ d else (p + 2 ^ d - (u + 1) / 2 % 2 ^ d) % 2 ^ d

/-- The positions of a block of `nx` columns in raster order without (0, 0): row and column. -/
def blockPositions (nx : Nat) : List (Nat × Nat) :=
  ((List.range (4 * nx)).map fun i => (i / nx, i % nx)).tail

/-- The prediction of a position: above for column 0, else left (R162). -/
def predict (s : Nat → Nat → Nat) (y x : Nat) : Nat := if x = 0 then s (y - 1) 0 else s y (x - 1)

/-- The bit string of one channel (R162). -/
def encodeChannel (d nx : Nat) (s : Nat → Nat → Nat) : List Bool :=
  let us := (blockPositions nx).map fun p => zigzag d (s p.1 p.2) (predict s p.1 p.2)
  let w := us.foldl (fun m u => max m (bitsNeeded u)) 0
  bitsOf d (s 0 0) ++ bitsOf 4 w ++ us.flatMap fun u => bitsOf w u

/-- A block: the sample of channel `c` at row `y`, column `x`. -/
abbrev BlockFn := Nat → Nat → Nat → Nat

/-- The raw bytes of a block, row by row (R161). -/
def rawBlock (k : PlaneKind) (b : BlockFn) : List Byte :=
  (List.range 4).flatMap fun y => (List.range k.nx).flatMap fun x =>
    containerBytes k ((List.range k.depths.length).map fun c => b c y x)

/-- The header code and payload that a writer chooses (R163). -/
def encodeBlock (k : PlaneKind) (b : BlockFn) : Nat × List Byte :=
  let zero := (List.range k.depths.length).all fun c => (List.range 4).all fun y =>
    (List.range k.nx).all fun x => b c y x = 0
  if zero then (0, [])
  else
    let bits := k.depths.zipIdx.flatMap fun d => encodeChannel d.1 k.nx (b d.2)
    let code := roundUp bits.length (k.unit * 8)
    if code ≤ 7 then (code, packBits (code * k.unit) bits) else (8, rawBlock k b)

/-! ## Decoding a block (R161, R164) -/

/-- Decode the residuals of one channel: samples in raster order, and the bits left; none when the width
exceeds the depth or the bits run out. -/
def decodeChannel (d nx : Nat) (bits : List Bool) : Option (List Nat × List Bool) :=
  if bits.length < d + 4 then none
  else
    let base := ofBits (bits.take d)
    let w := ofBits ((bits.drop d).take 4)
    let rest := bits.drop (d + 4)
    if d < w || rest.length < (4 * nx - 1) * w then none
    else
      let vals := (List.range (4 * nx - 1)).foldl (fun (acc : List Nat) i =>
        let u := ofBits ((rest.drop (i * w)).take w)
        let n := i + 1
        let p := if n % nx = 0 then acc.getD (n - nx) 0 else acc.getD (n - 1) 0
        acc ++ [unzigzag d u p]) [base]
      some (vals, rest.drop ((4 * nx - 1) * w))

def decodeChannels (nx : Nat) : List Nat → List Bool → Option (List (List Nat))
  | [], _ => some []
  | d :: ds, bits =>
    match decodeChannel d nx bits with
    | none => none
    | some (vs, rest) => (decodeChannels nx ds rest).map (vs :: ·)

/-- The channels of a block from its header code and the bytes of its slot, each in raster order; none for a
damaged block (R164). -/
def decodeBlock (k : PlaneKind) (code : Nat) (slot : List Byte) : Option (List (List Nat)) :=
  let zeros := k.depths.map fun _ => List.replicate (4 * k.nx) 0
  if code = 0 then some zeros
  else if code = 8 then
    let cols := (List.range (4 * k.nx)).map fun i =>
      containerVals k (leNat ((slot.drop (i * k.colBytes)).take k.colBytes))
    some ((List.range k.depths.length).map fun c => cols.map fun v => v.getD c 0)
  else if code ≤ 7 then decodeChannels k.nx k.depths (unpackBits (slot.take (code * k.unit)))
  else none

/-! ## Surfaces in memory -/

/-- Read one block of a Mborin plane: its channels (all 0 when damaged), whether it was damaged, and whether
every read was served. -/
def readBlock (m : Master) (f : Surf) (chroma : Bool) (bx by_ : Nat) (s : State) :
    List (List Nat) × Bool × Bool × State :=
  let (k, plane, row0) := f.plane chroma
  let ha := f.header + (row0 + by_) * headerStride k f.stride + bx / 2
  let (ok1, hb, s) := busNat m ha 1 s
  let code := if bx % 2 = 0 then hb % 16 else hb / 16
  let n := if code = 8 then 8 * k.unit else if code ≤ 7 then code * k.unit else 0
  let (ok2, slot, s) := busRead m (plane + by_ * 4 * f.stride + bx * 4 * k.bw) n s
  match decodeBlock k code slot with
  | some chs => (chs, false, ok1 && ok2, s)
  | none => (k.depths.map fun _ => List.replicate (4 * k.nx) 0, true, ok1 && ok2, s)

/-- Read the channels at one column of a plane: `x` counts columns (pairs for chroma). -/
def readCol (m : Master) (f : Surf) (chroma : Bool) (x y : Nat) (s : State) : List Nat × Bool × State :=
  let (k, plane, _) := f.plane chroma
  if fmtMborin f.fmt then
    let (chs, dmg, _, s) := readBlock m f chroma (x / k.nx) (y / 4) s
    (chs.map fun c => c.getD (y % 4 * k.nx + x % k.nx) 0, dmg, s)
  else
    let (_, n, s) := busNat m (plane + y * f.stride + x * k.colBytes) k.colBytes s
    (containerVals k n, false, s)

/-- Write one block of a plane with its header nibble after its payload (R163). -/
def writeBlock (m : Master) (f : Surf) (chroma : Bool) (bx by_ : Nat) (b : BlockFn) (s : State) : State :=
  let (k, plane, row0) := f.plane chroma
  let (code, bytes) := encodeBlock k b
  let s := (busWrite m (plane + by_ * 4 * f.stride + bx * 4 * k.bw) bytes s).2
  let ha := f.header + (row0 + by_) * headerStride k f.stride + bx / 2
  let (_, old, s) := busNat m ha 1 s
  let nib := if bx % 2 = 0 then old / 16 * 16 + code else old % 16 + code * 16
  (busWrite m ha (leBytes 1 nib) s).2

/-- The sample nearest to (x, y) inside a picture given by rows (R160). -/
def nearest (rows : List (List Nat)) (y x : Nat) : Nat :=
  let y' := min y (rows.length - 1)
  at2 rows y' (min x ((rows.getD y' []).length - 1))

/-- Store a decoded picture: luma rows and chroma rows of CbCr pairs, in Mborin blocks (R134, R160). -/
def writeMborin (m : Master) (f : Surf) (luma chroma : List (List Nat)) (s : State) : State :=
  let put := fun (s : State) (ch : Bool) (rows : List (List Nat)) (bxs bys : Nat) =>
    (List.range bys).foldl (fun s by_ => (List.range bxs).foldl (fun s bx =>
      let k := (f.plane ch).1
      writeBlock m f ch bx by_ (fun c y x =>
        if ch then
          let r := rows.getD (min (by_ * 4 + y) (rows.length - 1)) []
          r.getD (2 * min (bx * 8 + x) (r.length / 2 - 1) + c) 0
        else nearest rows (by_ * 4 + y) (bx * k.nx + x)) s) s) s
  let s := put s false luma (roundUp f.w 16) (blockRows f.h)
  put s true chroma (roundUp f.w 16) (blockRows (roundUp f.h 2))

/-- Store a packed frame line by line (R121, R157). -/
def writePacked (m : Master) (plane stride : Nat) : Nat → List (List Word) → State → State
  | _, [], s => s
  | y, l :: ls, s =>
    writePacked m plane stride (y + 1) ls
      (busWrite m (plane + y * stride) (l.flatMap fun w => leBytes 4 w.toNat) s).2

/-- A damaged line reads as the same line of an earlier frame. -/
def readPackedLine (m : Master) (plane stride w y : Nat) (s : State) : List Word × State :=
  let (_, bs, s) := busRead m (plane + y * stride) (4 * w) s
  ((List.range w).map fun x => BitVec.ofNat 32 (leNat ((bs.drop (4 * x)).take 4)), s)

end Sys2Proof.Machine
end

