-- ==== Sys2Proof/Machine/PoolWork.lean ====
section
/-! DEFINITION. The maps and content check values of a frame, and its delivery with them (R35 to R42, R60). -/

namespace Sys2Proof.Machine

/-! ## Maps (R41, R42, R121, R145) -/

/-- The concealment map of marked blocks: 16 bytes a row. -/
def mapBytes (rows : Nat) (blocks : List (Nat × Nat)) : List Byte :=
  (List.range rows).flatMap fun y => (List.range 16).map fun k =>
    BitVec.ofNat 8 ((List.range 8).foldl (fun n i => n + b2n (blocks.contains (8 * k + i, y)) * 2 ^ i) 0)

/-- Every block of a picture of `w` × `h` blocks. -/
def allBlocks (w h : Nat) : List (Nat × Nat) :=
  (List.range h).flatMap fun y => (List.range w).map fun x => (x, y)

/-- The rows of a block capture-time map: entries of 8 bytes, each row padded to 64 bytes (R42). -/
def bctBytes (w : Nat) : List (List (Nat × Nat)) → List Byte
  | [] => []
  | r :: rs =>
    let row := (List.range w).flatMap fun x =>
      let e := r.getD x (0, 0)
      leBytes 4 e.1 ++ leBytes 1 e.2 ++ leBytes 3 0
    takeBytes (roundUp (8 * w) 64 * 64) row ++ bctBytes w rs

/-! ## Samples and check values (R56, R58) -/

/-- The samples of a rectangle of rows. -/
def rectRows (x y w h : Nat) (rows : List (List Nat)) : List (List Nat) :=
  ((rows.drop y).take h).map fun r => (r.drop x).take w

/-- The content CRC of a planar picture: luma rows, then rows of CbCr pairs. (DEDUCED: log entry 48) -/
def planarCrc (luma chroma : List (List Nat)) : Word := crc32c (sampleBytes luma ++ sampleBytes chroma)

/-- The token CRC of a planar picture. A chroma sample lies in the rectangle when its luma position of R46
does. (DEDUCED: log entry 48) -/
def planarToken (r : Nat × Nat × Nat × Nat) (luma chroma : List (List Nat)) : Word :=
  let (x, y, w, h) := r
  let x0 := roundUp x 2
  let y0 := roundUp y 2
  let x1 := roundUp (x + w) 2
  let y1 := roundUp (y + h) 2
  crc32c (sampleBytes (rectRows x y w h luma)
    ++ sampleBytes (rectRows (2 * x0) y0 (2 * (x1 - x0)) (y1 - y0) chroma))

/-- The three components of a PK32_C10 pixel in order (R157). -/
def pkSamples (w : Word) : List Nat := [fld w 29 20, fld w 19 10, fld w 9 0]

/-- The content CRC of a packed picture (R56). (DEDUCED: log entry 48) -/
def packedCrc (rows : List (List Word)) : Word := crc32c (sampleBytes (rows.map fun r => r.flatMap pkSamples))

/-- The token CRC of a packed picture over its rectangle (R58). (DEDUCED: log entry 48) -/
def packedToken (r : Nat × Nat × Nat × Nat) (rows : List (List Word)) : Word :=
  let (x, y, w, h) := r
  packedCrc (((rows.drop y).take h).map fun row => (row.drop x).take w)

/-! ## Delivery (R35, R37, R139, R140) -/

/-- Deliver a frame whose counts this ZW96 computes. -/
def deliver (m : Master) (c b : Nat) (i : FrameInfo) (s : State) : State :=
  let (n, s) := frameCounts c i s
  deliverWith ownBus m c b i n s

end Sys2Proof.Machine
end

