-- ==== Sys2Proof/Machine/ClaimsWork.lean ====
section
/-! DEFINITION. What a duty offers and a picture received over Ngurelo as it enters the pool (R279 to R288). -/

namespace Sys2Proof.Machine

/-! ## Duties (R279, R284, R294) -/

/-- Every duty that sends a context's pictures offers the NEWEST one. -/
def dutiesOffer (c b : Nat) (s : State) : State :=
  ((List.range 128).filter fun d => dutySends d s && dutyCtx d s = c).foldl (fun s d => dutyOffer ownBus d b s) s

/-- A decoded or captured frame is delivered, and sent by the duties of its context. -/
def deliverFrame (m : Master) (c b : Nat) (i : FrameInfo) (s : State) : State :=
  dutiesOffer c b (deliver m c b i s)

end Sys2Proof.Machine
end

