-- ==== Sys2Proof/Machine/CaptureWork.lean ====
section
/-! DEFINITION. The frames of the DisplayPort sink ports: what is stored of each, and the end of a frame (R118, R121).
-/

namespace Sys2Proof.Machine

/-! ## Frames (R120, R121, R137, R489) -/

/-- A pixel as it is stored: 8-bit components shifted left by 2 (R157). (DEDUCED: log entry 44) -/
def storedPixel (bpc : Nat) (w : Word) : Word := if bpc = 8 then (w <<< 2) &&& 0x3FCFF3FC else w &&& 0x3FFFFFFF

/-- What stands in for a damaged line: the same line of the context's previous frame, or zero (R121). -/
def spareLine (m : Master) (prev : Option Nat) (w y : Nat) (s : State) : List Word × State :=
  match prev with
  | none => (List.replicate w 0, s)
  | some b =>
    let f := bufSurf b s
    if f.fmt ≠ 8 || f.h ≤ y then (List.replicate w 0, s)
    else
      let (l, s) := readPackedLine m f.plane0 f.stride (min w f.w) y s
      (l ++ List.replicate (w - f.w) 0, s)

/-- The lines of a frame as stored, with the numbers of the damaged ones. (DEDUCED: log entry 44) -/
def storedLines (m : Master) (prev : Option Nat) (fmt : DpFormat) (lines : List (Option (List Word))) :
    Nat → Nat → State → List (List Word) × List Nat × State
  | 0, _, s => ([], [], s)
  | n + 1, y, s =>
    let good := match lines.getD y none with
      | some l => if l.length = fmt.width then some (l.map (storedPixel fmt.bpc)) else none
      | none => none
    match good with
    | some l =>
      let (ls, bad, s) := storedLines m prev fmt lines n (y + 1) s
      (l :: ls, bad, s)
    | none =>
      let (l, s) := spareLine m prev fmt.width y s
      let (ls, bad, s) := storedLines m prev fmt lines n (y + 1) s
      (l :: ls, y :: bad, s)

/-- A captured frame is stored and delivered (R120, R121). -/
def storeFrame (p : Nat) (fr : DpiFrame) (rows : List (List Word)) (bad : List Nat) (s : State) : State :=
  let m := dpiMaster p
  let (c, b, w, h) := (fr.ctx, fr.buf, fr.fmt.width, fr.fmt.height)
  let d := (smAt b s.buf).desc
  let s := writePacked m d.plane0 d.stride 0 rows s
  let s := setBuf b (fun t => { t with fmt := 8, ct := fr.ct, bct := false }) (setGeometry b w h 0 0 w h true s)
  let blocks := (allBlocks (roundUp w 64) (roundUp h 64)).filter fun x => bad.any fun y => y / 64 = x.2
  let s := if blocks.isEmpty then s else (busWrite m d.cmap (mapBytes (roundUp h 64) blocks) s).2
  let crc := packedCrc rows
  let token := (tokenRect c w h s).map fun t => packedToken t rows
  let s := setBuf b (fun t => { t with conceal := blocks, refConceal := blocks, crc, token }) s
  let info : FrameInfo := { ct := fr.ct, crc := some crc, token, w, h, conceal := !blocks.isEmpty, cmap := d.cmap, bct := none }
  deliverFrame m c b info (ctxInput c (setMark b mkFill false s))

/-- DPI_FRAME_END: each line as received, none for a damaged one (R121). (DEDUCED: log entry 44) -/
def execDpiFrameEnd (p : Fin 8) (lines : List (Option (List Word))) (s : State) :
    Host.Outcome State Fault Refusal :=
  .next (whenClocked s (match (smAt p.val s.dpi).frame with
    | none => s
    | some fr =>
      let (rows, bad, s) :=
        storedLines (dpiMaster p.val) (newestBuf fr.ctx s) fr.fmt lines fr.fmt.height 0 s
      if s.rf (pDpi p.val) 0x044 7 0 < bad.length then dpiDrop p.val s
      else storeFrame p.val fr rows bad (setDpi p.val (fun d => { d with frame := none }) s)))

end Sys2Proof.Machine
end

