-- ==== Sys2Proof/Machine/DispatcherWork.lean ====
section
/-! DEFINITION. The rows of the dispatcher that move work: contexts enabled, disabled, flushed and moved, buffers held
(R129 to R133, R138, R141, R142). -/

namespace Sys2Proof.Machine

/-! ## The window's registers (R141, R142, R150, R152) -/

/-- DSP_CTX_ENABLE: a write of DSP_CTX_CTRL with EN = 1 through CDC*n* (R130). -/
def execDspCtxEnable (m : Master) (n : Fin 16) (ctrl : Word) (s : State) :
    Host.Outcome State Fault Refusal :=
  .next (issue m .write (pCdc n.val) 0x840 (cdcWrite ownBus m (pCdc n.val) 0x840 (ctrl ||| 1)) s)

/-- DSP_CTX_DISABLE: a write of DSP_CTX_CTRL with EN = 0 (R141). -/
def execDspCtxDisable (m : Master) (n : Fin 16) (ctrl : Word) (s : State) :
    Host.Outcome State Fault Refusal :=
  .next (issue m .write (pCdc n.val) 0x840 (cdcWrite ownBus m (pCdc n.val) 0x840 (ctrl &&& ~~~ 1#32)) s)

/-- DSP_CTX_FLUSH: a write of DSP_CTX_CTRL with FLUSH = 1 (R141). -/
def execDspCtxFlush (m : Master) (n : Fin 16) (ctrl : Word) (s : State) :
    Host.Outcome State Fault Refusal :=
  .next (issue m .write (pCdc n.val) 0x840 (cdcWrite ownBus m (pCdc n.val) 0x840 (ctrl ||| 4)) s)

/-- BUF_HOLD_SET: a write of DSP_BUF_HOLD with HOLD = 1 (R142). -/
def execBufHoldSet (m : Master) (n : Fin 16) (s : State) : Host.Outcome State Fault Refusal :=
  .next (issue m .write (pCdc n.val) 0x894 (cdcWrite ownBus m (pCdc n.val) 0x894 1) s)

/-- BUF_HOLD_CLEAR: a write of DSP_BUF_HOLD with HOLD = 0 (R142). -/
def execBufHoldClear (m : Master) (n : Fin 16) (s : State) : Host.Outcome State Fault Refusal :=
  .next (issue m .write (pCdc n.val) 0x894 (cdcWrite ownBus m (pCdc n.val) 0x894 0) s)

/-! ## Handover and moves (R132, R133, R415) -/

/-- CONTEXT_MOVE: a context moved by placement reaches its new engine at a picture boundary (R132). -/
def execContextMove (c : Fin 128) (s : State) : Host.Outcome State Fault Refusal :=
  .next (whenPixel s (if busyCommit (.dec c.val) s then s
    else
      match placedOf (.dec c.val) s with
      | some p => moveCommit ownBus (.dec c.val) p.target s
      | none => s))

/-- The next engine in ascending order that is enabled, after `j` (R133, R490). -/
def nextEngine (j : Nat) (s : State) : Option Nat :=
  ((List.range 15).map fun i => (j + 1 + i) % 16).find? fun n => s.enabled (pCdc n)

/-- Steps 1 and 2 of a handover: the held engine enters service, the next one drains and its whole placement
goes to the engine that entered (R133). -/
def handover (j e : Nat) (s : State) : State :=
  let s := s.setFld (pCdc j) 0x008 2 2 0
  let s := setEng e (fun t => { t with draining := true }) s
  if s.enabled (pCdc j) then
    (onEngine e s.placed).foldl (fun s p => adoptOne ownBus p.what (some j) s) s
  else placeAgain ownBus (onEngine e s.placed) s

end Sys2Proof.Machine
end

