-- ==== Sys2Proof/Machine/DmaRun.lean ====
section
/-! DEFINITION. DMA at work: the fetch of descriptors, their requests, completion and the completion ring (R372 to
R380, R383 to R385). -/

namespace Sys2Proof.Machine

/-! ## Descriptors (R374, R375) -/

/-- The descriptor that 32 bytes spell. -/
def dmaParse (b : List Byte) : DmaDesc :=
  let at_ := fun off n => leNat ((b.drop off).take n)
  { src := at_ 0 8, dst := at_ 8 8, width := at_ 0x10 4, lines := at_ 0x14 2, id := at_ 0x16 2
    srcStride := at_ 0x18 2, dstStride := at_ 0x1A 2, op := at_ 0x1C 1 % 16, unit := at_ 0x1C 1 / 16
    flags := at_ 0x1D 1 }

def opCopy : Nat := 0
def opFill : Nat := 1
def opCrc : Nat := 2
def opCopyCrc : Nat := 3

def DmaDesc.reads (d : DmaDesc) : Bool := d.op ≠ opFill
def DmaDesc.writes (d : DmaDesc) : Bool := d.op ≠ opCrc
def DmaDesc.feeds (d : DmaDesc) : Bool := d.op = opCrc || d.op = opCopyCrc

/-- The first byte after `lines` lines of a stride. -/
def DmaDesc.extent (d : DmaDesc) (base stride : Nat) : Nat := base + (d.lines - 1) * (64 * stride) + d.width

/-- A descriptor that completes with BAD_DESC; `tail` is its reserved half-word (R375). -/
def DmaDesc.bad (d : DmaDesc) (tail : Nat) : Bool :=
  3 < d.op || tail ≠ 0 || 16 ≤ d.flags || (d.op = opFill && d.src / 2 ^ 32 ≠ 0)
    || d.width = 0 || 16777216 < d.width || d.lines = 0
    || (1 < d.lines && d.writes && 64 * d.dstStride < d.width)
    || (d.reads && 2 ^ 40 < d.extent d.src d.srcStride)
    || (d.writes && 2 ^ 40 < d.extent d.dst d.dstStride)
    || (d.feeds && 7 < d.unit)

/-- No descriptor starts: the completion ring is off or full (R377, R387). (DEDUCED: log entry 67) -/
def dmaStalled (e : Nat) (s : State) : Bool := s.rf (pDma e) 0x048 3 0 = 0 || cqFull e s

/-- A channel may take work. -/
def dmaLive (e c : Nat) (s : State) : Bool :=
  s.enabled (pDma e) && dmaEn e c s && !(dmaCh e c s).halted && !(smAt e s.dma).cqError && !dmaStalled e s

/-- A read of a channel (R29, R372). -/
def dmaReadAs (e : Fin 2) (priv : Bool) (a len : Nat) (s : State) : Bool × List Byte × State :=
  let (j, s) := gateCheck (.dma e) priv .read a len s
  fabricRead (.dma e) j a len (settle ownBus (.dma e) a len s)

/-- A write of a channel: whether it went well as far as it has returned, the access in flight where it has not, and the
state (R29, R372, R376). -/
def dmaWriteAs (e : Fin 2) (priv : Bool) (a : Nat) (bs : List Byte) (s : State) : Bool × List Nat × State :=
  let (j, s) := gateCheck (.dma e) priv .write a bs.length s
  let s := settle ownBus (.dma e) a bs.length s
  let (ok, t) := fabricWrite ownBus (.dma e) priv j a bs s
  (ok, flown (.dma e) s t, t)

/-- DMA_DESC_FETCH (R373, R378). -/
def execDmaDescFetch (e : Fin 2) (c : Fin 8) (s : State) : Host.Outcome State Fault Refusal :=
  let p := pDma e.val
  let head := (s.reg p (dmaOff c.val 0x10)).toNat
  let size := s.rf p (dmaOff c.val 0xC) 3 0
  .next (whenClocked s (if !dmaLive e.val c.val s || 4 ≤ (dmaCh e.val c.val s).inflight.length
      || head % 2 ^ size = (s.reg p (dmaOff c.val 0x14)).toNat % 2 ^ size then s
    else
      let a := s.pair p (dmaOff c.val 4) + 32 * head
      let (ok, b, s) := dmaReadAs e (dmaPriv e.val c.val s) a 32 s
      let d := dmaParse b
      let d :=
        if !ok then { status := some 4, fault := a }
        else if d.bad (leNat (b.drop 0x1E)) then { d with status := some 3 }
        else d
      let s := s.setReg p (dmaOff c.val 0x10) (BitVec.ofNat 32 ((head + 1) % 2 ^ size))
      setCh e.val c.val (fun t => { t with inflight := t.inflight ++ [d] }) s))

/-! ## Requests (R372, R376, R379) -/

/-- A request: the offset in its line, source and destination address, length. -/
structure DmaReq where
  ofs : Nat
  src : Nat
  dst : Nat
  len : Nat
  deriving DecidableEq, Repr

/-- The requests of a descriptor, of up to 256 bytes each, in ascending address, line by line. -/
def DmaDesc.requests (d : DmaDesc) : List DmaReq :=
  (List.range d.lines).flatMap fun y => (List.range (roundUp d.width 256)).map fun i =>
    { ofs := 256 * i, src := d.src + y * 64 * d.srcStride + 256 * i
      dst := d.dst + y * 64 * d.dstStride + 256 * i, len := min 256 (d.width - 256 * i) }

/-- The pattern of a FILL from an offset of its line. -/
def fillBytes (pattern ofs n : Nat) : List Byte :=
  (List.range n).map fun i => BitVec.ofNat 8 (pattern / 2 ^ (8 * ((ofs + i) % 4)))

/-- A request has its data, or its read has failed: the data feed the unit and are written; whether the descriptor goes on
(R378, R379). -/
def dmaPut (e : Fin 2) (priv : Bool) (d : DmaDesc) (r : DmaReq) (rok : Bool) (data : List Byte) (s : State) :
    Bool × DmaDesc × State :=
  if !rok then (false, { d with status := some 1, fault := r.src }, s)
  else
    let s := if d.feeds then crcAbsorb d.unit data s else s
    if !d.writes then (true, d, s)
    else
      let (wok, accs, s) := dmaWriteAs e priv r.dst data s
      let d := { d with accs := d.accs ++ accs }
      if wok then (true, d, s) else (false, { d with status := some 2, fault := r.dst }, s)

/-- A read of GTE_DRAIN that has been judged and that the page takes (R365, R367). (DEDUCED: log entry 67) -/
def drainWaits (j : Judged) (a len : Nat) (s : State) : Option (Nat × Bool) :=
  (if j.faulted then none else drainRead a len).filter fun g => (admitRead (8 + g.1) 0x048 s).isNone

/-- A descriptor waits for the answer to its read of GTE_DRAIN, an access of the engine's gate (R367).
(DEDUCED: log entry 67) -/
def dmaAwait (e : Fin 2) (d : DmaDesc) (r : DmaReq) (g : Nat) (wide : Bool) (left : Nat) (s : State) : DmaDesc × State :=
  ({ d with waits := some { gate := g, id := s.accId, ids := gateInflight g s, wide, left }, accs := d.accs ++ [s.accId] },
    enterFlight (.dma e) true r.src 1 true s)

/-- Issue requests up to the first error, or up to a read of GTE_DRAIN that has to wait (R367, R379).
(DEDUCED: log entry 67) -/
def dmaRequests (e : Fin 2) (priv : Bool) (d : DmaDesc) : List DmaReq → State → DmaDesc × State
  | [], s => ({ d with status := some 0 }, s)
  | r :: rest, s =>
    let go := fun (x : Bool × DmaDesc × State) =>
      if x.1 then dmaRequests e priv x.2.1 rest x.2.2 else (x.2.1, x.2.2)
    if !d.reads then go (dmaPut e priv d r true (fillBytes d.src r.ofs r.len) s)
    else
      let (j, s) := gateCheck (.dma e) priv .read r.src r.len s
      let got := fun s =>
        let (ok, data, s) := fabricRead (.dma e) j r.src r.len (settle ownBus (.dma e) r.src r.len s)
        go (dmaPut e priv d r ok data s)
      match drainWaits j r.src r.len s with
      | none => got s
      | some (g, wide) =>
        if (gateInflight g s).isEmpty then got (s.setFld (8 + g) 0x048 15 0 0)
        else dmaAwait e d r g wide (rest.length + 1) s

/-- What a read of GTE_DRAIN that has waited returns, with the word above where it takes that too (R367). -/
def drainData (w : DmaWait) (s : State) : List Byte :=
  leBytes 4 (s.reg (8 + w.gate) 0x048).toNat ++ (if w.wide then leBytes 4 (gteStat (8 + w.gate) s).toNat else [])

/-- A descriptor goes on with the read of GTE_DRAIN that has been answered; one that has failed meanwhile makes no further
request (R367, R379). (DEDUCED: log entry 67) -/
def dmaResume (e : Fin 2) (priv : Bool) (d : DmaDesc) (w : DmaWait) (s : State) : DmaDesc × State :=
  let s := leaveFlight w.id (s.setFld (8 + w.gate) 0x048 15 0 (min w.ids.length 65535))
  let d := { d with waits := none }
  if d.status.isSome then (d, s)
  else
    match d.requests.drop (d.requests.length - w.left) with
    | [] => ({ d with status := some 0 }, s)
    | r :: rest =>
      let (more, d, s) := dmaPut e priv d r true (drainData w s) s
      if more then dmaRequests e priv d rest s else (d, s)

/-- Issue the requests of a descriptor; one with CRC_START first acts as START (R384). -/
def dmaIssue (e : Fin 2) (priv : Bool) (d : DmaDesc) (s : State) : DmaDesc × State :=
  let s := if d.feeds && d.flags.testBit 2 then crcStart d.unit s else s
  dmaRequests e priv { d with fed := d.feeds } d.requests s

/-- Run a descriptor of a channel. A unit that is not bound to the channel, or takes no work, takes no bytes (R17, R20,
R383). (DEDUCED: log entry 67) -/
def dmaExecute (e : Fin 2) (c : Nat) (d : DmaDesc) (s : State) : DmaDesc × State :=
  if d.feeds && (workRefusal (pCrc d.unit) s).isSome then
    ({ d with status := some 5 }, refuseWork (pCrc d.unit) (.dma e) s)
  else if d.feeds && !crcBoundTo d.unit e.val c s then ({ d with status := some 5 }, s)
  else dmaIssue e (dmaPriv e.val c s) d s

/-- A descriptor at a place of a channel's list. -/
def setDesc (e c i : Nat) (d : DmaDesc) (s : State) : State :=
  setCh e c (fun t => { t with inflight := t.inflight.set i d }) s

/-- The next descriptor of a channel starts, when it has operation `op` and nothing that it must wait for is in
progress: from then on its unit is busy. One that waits for its read of GTE_DRAIN goes on when that is answered (R367, R376,
R386). (DEDUCED: log entry 67) -/
def dmaStart (op : Nat) (e : Fin 2) (c : Nat) (s : State) : State :=
  let ds := (dmaCh e.val c s).inflight
  match ds.findIdx? fun d => d.status.isNone || d.waits.isSome with
  | none => s
  | some i =>
    let d := ds.getD i {}
    let earlier := ds.take i
    if d.op ≠ op || !s.enabled (pDma e.val) then s
    else
      match d.waits with
      | some w =>
        if allDone w.ids s then
          let (d, s) := dmaResume e (dmaPriv e.val c s) d w s
          setDesc e.val c i d s
        else s
      | none =>
        let waits := (d.flags.testBit 0 && !earlier.isEmpty) || (d.feeds && earlier.any fun x => x.feeds)
        if waits || dmaStalled e.val s then s
        else
          let (d, s) := dmaExecute e c d (setDesc e.val c i { d with fed := d.feeds } s)
          setDesc e.val c i d s

/-- DMA_COPY (R374). -/
def execDmaCopy (e : Fin 2) (c : Fin 8) (s : State) : Host.Outcome State Fault Refusal :=
  .next (whenClocked s (dmaStart opCopy e c.val s))

/-- DMA_FILL (R374). -/
def execDmaFill (e : Fin 2) (c : Fin 8) (s : State) : Host.Outcome State Fault Refusal :=
  .next (whenClocked s (dmaStart opFill e c.val s))

/-- DMA_CRC (R374). -/
def execDmaCrc (e : Fin 2) (c : Fin 8) (s : State) : Host.Outcome State Fault Refusal :=
  .next (whenClocked s (dmaStart opCrc e c.val s))

/-- DMA_COPY_CRC (R374). -/
def execDmaCopyCrc (e : Fin 2) (c : Fin 8) (s : State) : Host.Outcome State Fault Refusal :=
  .next (whenClocked s (dmaStart opCopyCrc e c.val s))

/-! ## Completion (R376 to R380) -/

/-- The completion of a descriptor of a channel. (DEDUCED: log entry 67) -/
def dmaCompletion (c : Nat) (d : DmaDesc) (st : Nat) : DmaCpl :=
  { ch := c, id := if st = 4 then 0 else d.id, status := st
    crc := d.crc, fault := if st = 1 || st = 2 || st = 4 then d.fault else 0 }

/-- The end of a descriptor at the unit it feeds: CRC_FINAL of one that has gone well acts as FINISH, any other status
than OK aborts the unit (R384, R385). The descriptor with its last status. (DEDUCED: log entry 67) -/
def dmaFinish (d : DmaDesc) (s : State) : DmaDesc × State :=
  if !d.feeds || 7 < d.unit then (d, s)
  else if d.status ≠ some 0 then (d, crcAbort d.unit s)
  else if d.flags.testBit 3 then
    let (r, mismatch, s) := crcFinish d.unit s
    ({ d with crc := r.toNat, status := some (if mismatch then 6 else 0) }, s)
  else (d, s)

/-- A descriptor completes with a status. After a completion error its entry is lost (R380). -/
def dmaComplete (e c i : Nat) (d : DmaDesc) (st : Nat) (s : State) : State :=
  let p := pDma e
  let cpl := dmaCompletion c d st
  let s := setCh e c (fun t => { t with inflight := t.inflight.eraseIdx i }) s
  let s := (s.setFld p (dmaOff c 0x18) 11 8 st).bump p (dmaOff c 0x1C)
  let s := if d.flags.testBit 1 then raiseBit p c s else s
  let s := if 1 ≤ st && st ≤ 5 then dmaHalt e c s else s
  setEngine e (fun g => { g with waiting := if g.cqError then [] else g.waiting ++ [cpl] }) s

/-- Every write of a descriptor has returned (R376). (DEDUCED: log entry 67) -/
def dmaReturned (d : DmaDesc) (s : State) : Bool := d.accs.all fun i => s.inflight.all fun x => x.id ≠ i

/-- DMA_DESC_COMPLETE: every request of the `i`-th descriptor in progress has returned, writes that wait in the
MRAM queue included (R376, R378). -/
def execDmaDescComplete (e : Fin 2) (c : Fin 8) (i : Fin 4) (s : State) : Host.Outcome State Fault Refusal :=
  let d := (dmaCh e.val c.val s).inflight.getD i.val {}
  .next (whenClocked s (if d.status.isNone || !dmaReturned d s then s
    else
      let (d, s) := dmaFinish d s
      dmaComplete e.val c.val i.val d (d.status.getD 0) s))

/-- The bytes of a completion entry (R377). -/
def cplBytes (phase : Bool) (x : DmaCpl) : List Byte :=
  leBytes 2 x.id ++ leBytes 1 x.ch ++ leBytes 1 (b2n phase * 128 + x.status) ++ leBytes 4 x.crc ++ leBytes 8 x.fault

/-- A completion write has failed: the completions are lost and every channel halts (R380). -/
def cqFailed (e a : Nat) (m : Master) (s : State) : State :=
  let s := raiseBit (pDma e) 17 (s.recordErr (pDma e) 0x43 (masterId m) a)
  let s := setEngine e (fun g => { g with cqError := true, waiting := [] }) s
  (List.range 8).foldl (fun s c => dmaHalt e c s) s

/-- DMA_CQ_WRITE (R377, R380). (DEDUCED: log entry 68) -/
def execDmaCqWrite (e : Fin 2) (s : State) : Host.Outcome State Fault Refusal :=
  let p := pDma e.val
  .next (whenClocked s (match (smAt e.val s.dma).waiting with
    | [] => s
    | x :: rest =>
      if !s.enabled p || s.rf p 0x048 3 0 = 0 || cqFull e.val s || (smAt e.val s.dma).cqError then s
      else
        let head := (s.reg p 0x04C).toNat
        let n := cqSize e.val s
        let a := s.pair p 0x040 + 16 * head
        let (ok, _, s) := dmaWriteAs e (dmaPriv e.val x.ch s) a (cplBytes (smAt e.val s.dma).phase x) s
        if !ok then cqFailed e.val a (.dma e) s
        else
          let s := s.setReg p 0x04C (BitVec.ofNat 32 ((head + 1) % n))
          let s := setEngine e.val (fun g => { g with
            waiting := rest, phase := if head + 1 = n then !g.phase else g.phase }) s
          if cqFull e.val s then raiseBit p 16 s else s))

end Sys2Proof.Machine
end

