-- ==== Sys2Proof/Machine/Conceal.lean ====
section
/-! DEFINITION. Concealment: the phantom picture, the concealment reference, the copy of a co-located area and the
interpolation of columns (R144, R146). -/

namespace Sys2Proof.Machine

/-! ## Planes and phantoms (R146) -/

/-- One plane of a picture as the decoder works on it: its rows, chroma in CbCr pairs, and its
depth. -/
structure DecPlane where
  chroma : Bool
  rows : List (List Nat)
  depth : Nat

/-- Lines of a 16×16 luma area in the plane. -/
def DecPlane.areaH (p : DecPlane) : Nat := if p.chroma then 8 else 16

/-- The value of every sample of a phantom. -/
def phantomSample (depth : Nat) : Nat := 2 ^ (depth - 1)

/-- The same plane of a phantom: a picture of the stream's size that occupies no buffer. -/
def DecPlane.phantom (p : DecPlane) : DecPlane :=
  { p with rows := p.rows.map fun r => r.map fun _ => phantomSample p.depth }

/-- The samples of an area of a plane. -/
def DecPlane.area (p : DecPlane) (a : Nat × Nat) : List (List Nat) :=
  ((p.rows.drop (p.areaH * a.2)).take p.areaH).map fun r => (r.drop (16 * a.1)).take 16

/-! ## The concealment reference (R144) -/

/-- The decoded picture buffer: what is kept for reference or awaits output. -/
def dpbBufs (c : Nat) (s : State) : List Nat :=
  (ownedBufs c s).filter fun b => marked b mkRef s || marked b mkPend s

/-- Whether a picture is nearer to `poc` in output order than another, the earlier one on a tie. -/
def nearer (poc : Int) (a b : Nat) (s : State) : Bool :=
  let pa := (smAt a s.buf).poc
  let pb := (smAt b s.buf).poc
  let da := (pa - poc).natAbs
  let db := (pb - poc).natAbs
  da < db || (da = db && pa < pb)

/-- The concealment reference; none stands for the phantom. -/
def concealRef (c : Nat) (poc : Int) (s : State) : Option Nat :=
  match dpbBufs c s with
  | [] => none
  | b :: bs => some (bs.foldl (fun x y => if nearer poc y x s then y else x) b)

/-! ## Areas (R144) -/

/-- The samples of an area in a stored picture, at the depth of the stream. -/
def refArea (m : Master) (b : Nat) (p : DecPlane) (area : Nat × Nat) (s : State) : List (List Nat) × State :=
  let f := bufSurf b s
  let k := (f.plane p.chroma).1
  let narrow := fun v => v / 2 ^ (fmtDepth f.fmt - p.depth)
  (List.range (p.areaH / 4)).foldl (fun acc i =>
    let (chs, _, _, s) := readBlock m f p.chroma area.1 (area.2 * (p.areaH / 4) + i) acc.2
    (acc.1 ++ (List.range 4).map (fun y => (List.range k.nx).flatMap fun x =>
      chs.map fun c => narrow (c.getD (y * k.nx + x) 0)), s)) ([], s)

/-- Rows with an area replaced, as far as it lies in the picture. -/
def putArea (p : DecPlane) (area : Nat × Nat) (patch : List (List Nat)) : DecPlane :=
  { p with rows := p.rows.zipIdx.map fun r =>
      if r.2 / p.areaH = area.2 then
        let new := patch.getD (r.2 % p.areaH) []
        r.1.take (16 * area.1) ++ new.take (r.1.length - 16 * area.1) ++ r.1.drop (16 * area.1 + 16)
      else r.1 }

/-- Copy one area from the concealment reference, or from the phantom. -/
def copyArea (m : Master) (ref : Option Nat) (p : DecPlane) (area : Nat × Nat) (s : State) : DecPlane × State :=
  match ref with
  | none => (putArea p area (p.phantom.area area), s)
  | some b =>
    let (patch, s) := refArea m b p area s
    (putArea p area patch, s)

def copyAreas (m : Master) (ref : Option Nat) (areas : List (Nat × Nat)) (p : DecPlane) (s : State) :
    DecPlane × State :=
  areas.foldl (fun acc a => copyArea m ref acc.1 a acc.2) (p, s)

/-! ## Interpolation (R144) -/

/-- The run of concealed areas of a column of areas that holds row `y` of areas: its first and last. -/
def runTop (areas : List (Nat × Nat)) (x : Nat) : Nat → Nat
  | 0 => 0
  | y + 1 => if areas.contains (x, y) then runTop areas x y else y + 1

def runEnd (areas : List (Nat × Nat)) (x : Nat) : Nat → Nat → Nat
  | 0, y => y
  | n + 1, y => if areas.contains (x, y + 1) then runEnd areas x n (y + 1) else y

/-- A point of the line from `a` at distance 0 to `b` at distance `n`; to which side a fraction goes is open.
(DESIGN CHOICE: log entry 105) -/
def lerp (up : Bool) (a b k n : Nat) : Nat :=
  let v := a * (n - k) + b * k
  if up then roundUp v n else v / n

/-- The sample of column `x` at line `y` of a concealed area. -/
def fillSample (up : Bool) (areas : List (Nat × Nat)) (p : DecPlane) (y x : Nat) : Nat :=
  let ax := x / 16
  let ay := y / p.areaH
  let first := runTop areas ax ay * p.areaH
  let next := (runEnd areas ax p.rows.length ay + 1) * p.areaH
  if first = 0 then (if next < p.rows.length then at2 p.rows next x else phantomSample p.depth)
  else if next < p.rows.length then
    lerp up (at2 p.rows (first - 1) x) (at2 p.rows next x) (y - (first - 1)) (next - (first - 1))
  else at2 p.rows (first - 1) x

def fillAreas (up : Bool) (areas : List (Nat × Nat)) (p : DecPlane) : DecPlane :=
  { p with rows := p.rows.zipIdx.map fun r => r.1.zipIdx.map fun v =>
      if areas.contains (v.2 / 16, r.2 / p.areaH) then fillSample up areas p r.2 v.2 else v.1 }

/-! ## A picture (R144) -/

/-- The concealed picture: copies in one with a reference list, interpolation in one whose slices are all intra. -/
def concealPicture (m : Master) (c : Nat) (poc : Int) (inter : Bool) (areas : List (Nat × Nat)) (luma chroma : DecPlane)
    (s : State) : List (List Nat) × List (List Nat) × State :=
  if areas.isEmpty then (luma.rows, chroma.rows, s)
  else if inter then
    let ref := concealRef c poc s
    let (l, s) := copyAreas m ref areas luma s
    let (k, s) := copyAreas m ref areas chroma s
    (l.rows, k.rows, s)
  else
    let (up, s) := s.takeBool
    ((fillAreas up areas luma).rows, (fillAreas up areas chroma).rows, s)

end Sys2Proof.Machine
end

