-- ==== Sys2Proof/Machine/Engines.lean ====
section
/-! DEFINITION. Decoding: what an engine accepts, how a picture starts and ends, concealment, output order and
statistics (R125 to R128, R132, R139, R140, R143 to R149, R259). -/

namespace Sys2Proof.Machine

/-! ## What the engines decode (R125, R127) -/

/-- The detail code of a stream outside R125, the lowest of those that apply; none when it lies within.
(DESIGN CHOICE: log entry 107) -/
def paramDetail (p : StreamParams) : Option Nat :=
  let size := 64 ≤ p.width && p.width ≤ 4096 && 64 ≤ p.height && p.height ≤ 2304
  if p.h265 then
    if !(p.profileIdc = 1 || p.profileIdc = 2 || p.compat) then some 0x01
    else if p.highTier then some 0x02
    else if 153 < p.levelIdc || p.overLevel then some 0x03
    else if p.chromaFormat ≠ 1 || p.separatePlanes then some 0x04
    else if p.depthLuma < 8 || 10 < p.depthLuma || p.depthChroma < 8 || 10 < p.depthChroma then some 0x05
    else if p.field then some 0x06
    else if !size then some 0x07
    else none
  else
    if !(p.profileIdc = 66 || p.profileIdc = 77 || p.profileIdc = 100) then some 0x01
    else if 51 < p.levelIdc || p.overLevel then some 0x03
    else if p.chromaFormat ≠ 1 || p.separatePlanes then some 0x04
    else if p.depthLuma ≠ 8 || p.depthChroma ≠ 8 then some 0x05
    else if p.field then some 0x06
    else if !size then some 0x07
    else if p.profileIdc = 66 && !p.compat && (p.sliceGroups || p.redundant) then some 0x08
    else none

def isIrap (k : PicKind) : Bool := k = .idr || k = .irapNoRasl || k = .irap

/-- The pictures that empty the decoded picture buffer (R136, R139). -/
def emptiesDpb (k : PicKind) : Bool := k = .idr || k = .irapNoRasl

/-- The refusal of R127. -/
def unsupported (c detail : Nat) (s : State) : State :=
  setSync c syncUnsupported (dspEvent c 3 (dspError c 0x8 detail noUnit s))

/-- The context becomes SYNCED; as a recovery ends, every picture in the decoded picture buffer counts as free of
concealment (R147). -/
def becomeSynced (c : Nat) (s : State) : State :=
  if syncOf c s = syncSynced then s
  else
    let s := if syncOf c s = syncRecovering then
        (ownedBufs c s).foldl (fun s b => setBuf b (fun t => { t with refConceal := [] }) s) s
      else s
    dspEvent c 2 (setSync c syncSynced (setDsp c (fun t => { t with recovery := none }) s))

/-- A phantom stands in for missing references (R146). -/
def becomeRecovering (c : Nat) (s : State) : State := dspEvent c 1 (setSync c syncRecovering s)

/-! ## Output (R139, R140, R147) -/

/-- The pictures that await output. -/
def pendBufs (c : Nat) (s : State) : List Nat := (ownedBufs c s).filter fun b => marked b mkPend s

/-- The one first in output order. -/
def firstOut (bs : List Nat) (s : State) : Option Nat :=
  match bs with
  | [] => none
  | b :: rest =>
    some (rest.foldl (fun x y => if (smAt y s.buf).poc < (smAt x s.buf).poc then y else x) b)

/-- What the record of a stored picture says (R140). -/
def bufInfo (b : Nat) (s : State) : FrameInfo :=
  let t := smAt b s.buf
  { ct := t.ct, crc := some t.crc, token := t.token
    w := s.rfAt pDsp 0x898 b 31 16, h := s.rfAt pDsp 0x898 b 15 0
    conceal := !t.conceal.isEmpty, cmap := t.desc.cmap
    bct := if t.bct then some t.desc.bctmap else none }

/-- The recovery point of an H.265 context completes with the output of a picture that reaches it (R147). -/
def recoveryAtOutput (c b : Nat) (s : State) : State :=
  match (smAt c s.dsp).recovery with
  | some (start, n) =>
    if ctxH265 c s && syncOf c s = syncRecovering && start + n ≤ (smAt b s.buf).poc then
      becomeSynced c s
    else s
  | none => s

/-- A pending picture is output, or refused when its capture time lies before that of NEWEST (R139). -/
def outputPic (m : Master) (c b : Nat) (s : State) : State :=
  let late := match newestBuf c s with
    | none => false
    | some x =>
      let old := (smAt x s.buf).ct
      let new := (smAt b s.buf).ct
      old.valid && new.valid && new.t < old.t
  if late then dspEvent c 6 (dspError c 0xC 0 noUnit (setMark b mkPend false s))
  else
    let s := setBuf b (fun t => { t with out := true }) (setMark b mkPend false s)
    recoveryAtOutput c b (deliverFrame m c b (bufInfo b s) s)

/-- What lets pending pictures wait: the reorder bound, and the latency count of H.265 (R139). -/
structure OutBound where
  reorder : Nat
  latency : Option Nat := none
  deriving DecidableEq, Repr

/-- A picture must be output: more wait than the reorder bound, or one has waited for the latency count (R139). -/
def mustOutput (w : OutBound) (ps : List Nat) (s : State) : Bool :=
  w.reorder < ps.length || w.latency.any fun n => ps.any fun b => n ≤ (smAt b s.buf).waited

/-- Output pending pictures while one must be. -/
def bump (m : Master) (c : Nat) (w : OutBound) : Nat → State → State
  | 0, s => s
  | n + 1, s =>
    let ps := pendBufs c s
    if !mustOutput w ps s then s
    else
      match firstOut ps s with
      | none => s
      | some b => bump m c w n (outputPic m c b s)

/-- Output every pending picture. (DEDUCED: log entry 47) -/
def bumpAll (m : Master) (c : Nat) (s : State) : State := bump m c { reorder := 0 } ((pendBufs c s).length) s

/-- A picture that will be output has completed: those that follow it in output order have waited for one more (R139).
(PRESUMED: log entry 100) -/
def countWait (c b : Nat) (s : State) : State :=
  ((pendBufs c s).filter fun x => (smAt b s.buf).poc < (smAt x s.buf).poc).foldl
    (fun s x => setBuf x (fun t => { t with waited := t.waited + 1 }) s) s

/-! ## Starting a picture (R127, R128, R132, R137, R146, R147) -/

/-- The contexts bound to an engine with a waiting access unit; one whose picture another engine still decodes waits for
its picture boundary (R131, R490). -/
def waitingOn (n : Nat) (s : State) : List (Nat × ReleasedAu) :=
  s.placed.filterMap fun p =>
    match p.what with
    | .enc _ => none
    | .dec c =>
      if p.engine = some n && p.moveTo.isNone && !busyCommit p.what s then ((smAt c s.dsp).queue.head?).map fun a => (c, a) else none

/-- The oldest released access unit, ties to the lowest context (R132). -/
def oldestAu : List (Nat × ReleasedAu) → Option (Nat × ReleasedAu)
  | [] => none
  | a :: as => some (as.foldl (fun b q =>
      if q.2.no < b.2.no || (q.2.no = b.2.no && q.1 < b.1) then q else b) a)

/-- A gap of frame_num in H.264 where the stream allows none (R143). -/
def frameGap (c : Nat) (f : AuFacts) (s : State) : Bool :=
  match (smAt c s.dsp).prevFrameNum with
  | none => false
  | some p => !f.params.h265 && !isIrap f.kind && !f.params.gapsAllowed && f.frameNum ≠ p
      && f.frameNum ≠ (p + 1) % f.params.maxFrameNum

/-- An H.264 recovery point has been reached by a picture (R147). -/
def recoveryReached (c : Nat) (f : AuFacts) (s : State) : Bool :=
  match (smAt c s.dsp).recovery with
  | none => false
  | some (start, n) =>
    !f.params.h265 && n.toNat ≤ (f.frameNum + f.params.maxFrameNum - start.toNat) % f.params.maxFrameNum

/-- A recovery point SEI opens, or replaces, a recovery point while the context is RECOVERING (R147).
(DESIGN CHOICE: log entry 111) -/
def openRecovery (c : Nat) (f : AuFacts) (s : State) : State :=
  match f.recovery with
  | none => s
  | some n =>
    if syncOf c s = syncRecovering then
      setDsp c (fun t => { t with
        recovery := some (if f.params.h265 then f.poc else Int.ofNat f.frameNum, n) }) s
    else s

/-- Whether an access unit is looked at: before the first IRAP picture or recovery point, and after a refusal until an
IRAP picture within R125, access units are discarded without an error (R127, R128). -/
def startable (c : Nat) (f : AuFacts) (s : State) : Bool :=
  if syncOf c s = syncWait then isIrap f.kind || f.recovery.isSome
  else if syncOf c s = syncUnsupported then isIrap f.kind && f.paramsHeld && (paramDetail f.params).isNone
  else true

/-- The synchronisation of a context as a picture's decoding begins (R128, R143, R146, R147).
(DEDUCED: log entry 47) -/
def syncAtStart (c : Nat) (f : AuFacts) (s : State) : State :=
  if isIrap f.kind then
    becomeSynced c (setDsp c (fun t => { t with craEnded := decide (syncOf c s = syncRecovering) }) s)
  else
    let s := if syncOf c s = syncWait then becomeRecovering c s else s
    let s := if f.missingRef || frameGap c f s then becomeRecovering c (dspError c 0x7 0 noUnit s) else s
    let s := openRecovery c f s
    if syncOf c s = syncRecovering && recoveryReached c f s then becomeSynced c s else s

/-- The stored depth that a picture asks for (R125, R137). -/
def picDepth (p : StreamParams) : Nat := if 8 < p.depthLuma || 8 < p.depthChroma then 10 else 8

/-- What a decoded picture needs of its buffer (R137). -/
def picNeed (p : StreamParams) : Need :=
  { w := p.width, h := p.height, depth := picDepth p, atLeast := true, planar := true, mborin := true }

/-- A picture takes its buffer and the engine starts. The pictures that an IDR or an IRAP with NoRaslOutputFlag = 1
empties from the decoded picture buffer go first (R136, R137, R139). -/
def startPicture (n c : Nat) (au : ReleasedAu) (f : AuFacts) (s : State) : State :=
  let was := s
  let s := if emptiesDpb f.kind then clearMarks mkRef (ownedBufs c s) (bumpAll (engMaster n) c s) else s
  match allocAfter was c (picNeed f.params) s with
  | (some b, s) =>
    let s := syncAtStart c f s
    let phantom := syncOf c s = syncRecovering && (f.missingRef || frameGap c f s)
    let prev := if f.isRef then some f.frameNum else (smAt c s.dsp).prevFrameNum
    let s := setDsp c (fun t => { t with prevFrameNum := prev }) s
    let pic : DecPic := { ctx := c, buf := b, au, facts := f, startClk := s.clk, phantom }
    setEng n (fun e => { e with pic := some pic }) s
  | (none, s) => dropFrame c (dspEvent c 5 (dspError c 0x9 0 noUnit s))

/-- An error of one class, a number of times. -/
def repeatError (c cls : Nat) : Nat → State → State
  | 0, s => s
  | n + 1, s => repeatError c cls n (dspError c cls 0 noUnit s)

/-- An engine takes an access unit of a context: the NAL units with a bad header, the parameter sets and slice headers
that fail parsing and the slices without their parameter sets are discarded with their classes, a stream outside R125 and a picture that no buffer holds are refused
before anything is decoded (R126, R127, R143). (DESIGN CHOICE: log entry 107) -/
def startAu (n c : Nat) (au : ReleasedAu) (f : AuFacts) (s : State) : State :=
  let s := setDsp c (fun t => { t with queue := t.queue.drop 1 }) s
  if !startable c f s then s
  else
    let s := repeatError c 0x1 (siftNals (ctxH265 c s) au.nals).2 s
    let s := repeatError c 0x2 f.badSets s
    let s := repeatError c 0x4 f.badSlices (repeatError c 0x3 f.missingSets s)
    if !f.paramsHeld then s
    else
      match paramDetail f.params with
      | some d => unsupported c d s
      | none => if holdingBufs c (picNeed f.params) s = [] then unsupported c 0x09 s else startPicture n c au f s

/-- DECODE_START: a free engine in service takes the oldest released access unit of its contexts (R132).
(DEDUCED: log entry 47) -/
def execDecodeStart (n : Fin 16) (f : AuFacts) (s : State) : Host.Outcome State Fault Refusal :=
  let e := smAt n.val s.eng
  .next (whenPixel s (if !inService n.val s || e.pic.isSome || e.encoding.isSome then s
    else
      match oldestAu (waitingOn n.val s) with
      | none => s
      | some (c, au) => startAu n.val c au f s))

/-! ## Ending a picture (R125, R139, R140, R143, R145) -/

/-- Blocks marked through inter prediction: the reference's block is marked (R145). RASL pictures of a CRA that ended a
recovery are judged against the pictures before it (R147). -/
def interMarks (rasl : Bool) (r : DecResult) (s : State) : List (Nat × Nat) :=
  r.inter.filterMap fun i =>
    let t := smAt i.2.1 s.buf
    if (if rasl then t.conceal else t.refConceal).contains i.2.2 then some i.1 else none

/-- Close a set of marked blocks under intra prediction from marked neighbours (R145). -/
def intraClose (deps : List ((Nat × Nat) × (Nat × Nat))) : Nat → List (Nat × Nat) → List (Nat × Nat)
  | 0, m => m
  | n + 1, m =>
    let add := deps.filterMap fun d => if m.contains d.2 && !m.contains d.1 then some d.1 else none
    match add with
    | [] => m
    | b :: _ => intraClose deps n (b :: m)

/-- The areas concealed in a picture (R143, R144). -/
def hiddenAreas (r : DecResult) : List (Nat × Nat) := r.areas ++ r.missing

/-- The areas of units that no decoded slice covers (R143): with no class 0x5 in the picture, no failing slice accounts
for any. -/
def uncoveredAreas (r : DecResult) : List (Nat × Nat) :=
  if r.errors.any fun e => e.1 = 5 then r.missing else hiddenAreas r

/-- The concealment map of a completed picture (R145, R146). -/
def concealBlocks (c : Nat) (p : DecPic) (r : DecResult) (s : State) : List (Nat × Nat) :=
  if syncOf c s = syncRecovering then
    allBlocks (roundUp p.facts.params.width 64) (roundUp p.facts.params.height 64)
  else
    let rasl := p.facts.kind = .rasl && (smAt c s.dsp).craEnded
    intraClose r.intra r.intra.length ((hiddenAreas r).map (fun a => (a.1 / 4, a.2 / 4)) ++ interMarks rasl r s)

/-- Whether the liveness SEI gives a trusted capture time (R259). -/
def seiTrusted (x : SeiMsg) (w h : Nat) (s : State) : Bool :=
  x.version = 1 && x.checkOk && 0x80 ≤ x.flags % 256 && x.gmId = gmId s && x.domain = s.rf pPtp 0x07C 15 8
    && x.widthBlk = roundUp w 64 && x.heightBlk = roundUp h 64

/-- The capture time of a picture of a context with SEI_CT = 1 (R259). -/
def seiCapTime (x : Option SeiMsg) (w h : Nat) (s : State) : CapTime :=
  match x with
  | none => { epoch := s.tm.epoch, network := true, origin := 4 }
  | some x =>
    { t := x.ct.t16, epoch := s.tm.epoch, valid := seiTrusted x w h s, network := true, origin := 4 }

/-- Rows of `w` entries. -/
def entryRows (w : Nat) : Nat → List (Nat × Nat) → List (List (Nat × Nat))
  | 0, _ => []
  | n + 1, es => (es.take w) :: entryRows w n (es.drop w)

/-- The block capture-time map of a picture of `w` × `h` blocks, written from a liveness SEI (R42, R259).
(DEDUCED: log entry 104) -/
def seiMap (x : SeiMsg) (w h : Nat) : List Byte :=
  let rows := (entryRows x.widthBlk x.heightBlk x.entries).take h
  bctBytes w (rows.map fun r => r.map fun e => (if e.2 = 0x1FFFFFFF then 0xFFFFFFFF else e.2, e.1))

/-- Samples shifted to the stored depth (R125). -/
def toDepth (from_ dst : Nat) (rows : List (List Nat)) : List (List Nat) :=
  rows.map fun r => r.map fun v => v * 2 ^ (dst - from_)

/-- The picture is stored in its buffer, concealed where no slice was decoded: samples, maps, geometry and what its
record will say (R140, R144, R145). -/
def storePicture (n : Nat) (p : DecPic) (r : DecResult) (s : State) : State :=
  let m := engMaster n
  let c := p.ctx
  let b := p.buf
  let f := p.facts.params
  let d := (smAt b s.buf).desc
  let (luma, chroma, s) := concealPicture m c p.facts.poc (r.hasP || r.hasB) (hiddenAreas r)
    { chroma := false, rows := r.luma, depth := f.depthLuma } { chroma := true, rows := r.chroma, depth := f.depthChroma } s
  let luma := toDepth f.depthLuma d.depth luma
  let chroma := toDepth f.depthChroma d.depth chroma
  let s := setGeometry b f.width f.height f.cropLeft f.cropTop f.cropW f.cropH (d.depth = 10) s
  let s := setBuf b (fun t => { t with fmt := mbFmt d.depth }) s
  let s := writeMborin m (bufSurf b s) luma chroma s
  let blocks := concealBlocks c p r s
  let s := if blocks.isEmpty then s
    else (busWrite m d.cmap (mapBytes (roundUp f.height 64) blocks) s).2
  let sei := if bit (ctxCfg c s) 30 then some (livenessSei (siftNals (ctxH265 c s) p.au.nals).1) else none
  let msg := (sei.getD none).map parseSei
  let ct := if sei.isSome then seiCapTime msg f.width f.height s else p.au.ct
  let map := if d.bctmap ≠ 0 then msg else none
  let s := match map with
    | some x => (busWrite m d.bctmap (seiMap x (roundUp f.width 64) (roundUp f.height 64)) s).2
    | none => s
  let token := (tokenRect c f.width f.height s).map fun t => planarToken t luma chroma
  setBuf b (fun t => { t with
    ct, poc := p.facts.poc, conceal := blocks, refConceal := blocks, crc := planarCrc luma chroma, token
    bct := map.isSome, out := false, waited := 0 }) s

/-- An error that decoding found: class 0x5 concerns a unit, and 0x7 substitutes a phantom (R143, R146). -/
def recordError (c : Nat) (e : Nat × Nat) (s : State) : State :=
  if e.1 = 5 then dspError c 0x5 0 e.2 s
  else if e.1 = 2 || e.1 = 4 then dspError c e.1 0 noUnit s
  else if e.1 = 7 then becomeRecovering c (dspError c 0x7 0 noUnit s)
  else s

/-- The errors that decoding found, in order. -/
def recordErrors (c : Nat) (es : List (Nat × Nat)) (s : State) : State := es.foldl (fun s e => recordError c e s) s

/-- CTU_SIZE: 16 for H.264 (R149). -/
def ctuSizeOf (h265 : Bool) (t : DecStats) : Nat := if h265 && (t.ctuSize = 32 || t.ctuSize = 64) then t.ctuSize else 16

/-- The address of the unit that holds an area: a macroblock or CTU, in raster order (R143). -/
def unitOf (f : StreamParams) (r : DecResult) (a : Nat × Nat) : Nat :=
  let n := ctuSizeOf f.h265 r.stats / 16
  a.2 / n * roundUp f.width (16 * n) + a.1 / n

/-- At the end of the picture, class 0x6 records the first unit not covered by a decoded slice (R143). -/
def recordMissing (c : Nat) (f : StreamParams) (r : DecResult) (s : State) : State :=
  match (uncoveredAreas r).map (unitOf f r) with
  | [] => s
  | u :: us => dspError c 0x6 0 (us.foldl min u) s

/-! ## Statistics slots (R148, R149) -/

/-- A section: rows of bytes, each padded to 64 bytes. (DEDUCED: log entry 95) -/
def sectionBytes (rows : List (List Byte)) : List Byte :=
  rows.flatMap fun r => takeBytes (roundUp r.length 64 * 64) r

/-- A motion vector component saturated to ±32,767, as s16. -/
def mvNat (v : Int) : Nat := (BitVec.ofInt 16 (clampI (-32767) 32767 v)).toNat

/-- The vector entry of a block; an intra block reads 0x8000 in both halves (R149). -/
def mvBytes (b : BlockStat) : List Byte :=
  match b.mv with
  | some (x, y) => leBytes 2 (mvNat x) ++ leBytes 2 (mvNat y)
  | none => leBytes 2 0x8000 ++ leBytes 2 0x8000

/-- The QP and type entry of a block (R149). -/
def typeBytes (b : BlockStat) (concealed : Bool) : List Byte :=
  leBytes 1 (BitVec.ofInt 8 b.qp).toNat ++ leBytes 1 (b2n b.mv.isNone + b2n b.skip * 2 + b2n b.bi * 4 + b2n b.list1 * 8
    + b2n concealed * 16)

/-- `n` rows of `w` entries. -/
def gridOf {α : Type} (w n : Nat) (f : Nat → Nat → α) : List (List α) :=
  (List.range n).map fun y => (List.range w).map fun x => f x y

/-- The motion vectors, the QP and type entries and the CTU bits of a picture (R149). (DEDUCED: log entry 95) -/
def statSections (p : StreamParams) (r : DecResult) : List Byte × List Byte × List Byte :=
  let w16 := roundUp p.width 16
  let h16 := roundUp p.height 16
  let ctu := ctuSizeOf p.h265 r.stats
  let wc := roundUp p.width ctu
  let at_ := fun x y => r.stats.blocks.getD (y * w16 + x) {}
  (sectionBytes ((gridOf w16 h16 fun x y => mvBytes (at_ x y)).map List.flatten),
   sectionBytes ((gridOf w16 h16 fun x y => typeBytes (at_ x y) ((hiddenAreas r).contains (x, y))).map List.flatten),
   sectionBytes ((gridOf wc (roundUp p.height ctu) fun x y => leBytes 4 (r.stats.ctuBits.getD (y * wc + x) 0)).map
     List.flatten))

/-- PIC_TYPE (R149). -/
def picType (k : PicKind) (r : DecResult) : Nat := if isIrap k then 0 else if r.hasB then 3 else if r.hasP then 2 else 1

/-- The header of a slot (R149). (DEDUCED: log entry 95) -/
def statHeader (f : AuFacts) (r : DecResult) (seq flags : Nat) (ct : CapTime) (offs : Nat × Nat × Nat) (total : Nat) :
    List Byte :=
  let w := f.params.width
  let h := f.params.height
  let w16 := roundUp w 16
  let h16 := roundUp h 16
  let ctu := ctuSizeOf f.params.h265 r.stats
  let wc := roundUp w ctu
  let hc := roundUp h ctu
  let intra := ((List.range (w16 * h16)).filter fun i => (r.stats.blocks.getD i {}).mv.isNone).length
  let bits := (r.stats.ctuBits.take (wc * hc)).foldl (· + ·) 0
  let n := NTime.ofT16 ct.t
  let body := leBytes 4 seq ++ leBytes 1 (b2n f.params.h265) ++ leBytes 1 (picType f.kind r) ++ leBytes 1 ctu
    ++ leBytes 1 flags ++ leBytes 2 w16 ++ leBytes 2 h16 ++ leBytes 2 wc ++ leBytes 2 hc ++ leBytes 4 bits
    ++ leBytes 2 (if w16 * h16 = 0 then 0 else intra * 65535 / (w16 * h16)) ++ leBytes 2 0
    ++ leBytes 4 intra ++ leBytes 4 r.decodeUs ++ leBytes 4 offs.1 ++ leBytes 4 offs.2.1
    ++ leBytes 4 offs.2.2 ++ leBytes 4 total ++ leBytes 8 n.sec ++ leBytes 4 n.ns
  body ++ leBytes 4 (crc32c body).toNat

/-- The slot of a completed picture is written, or counted as lost (R148). A ring without slots is full.
(DEDUCED, DESIGN CHOICE: log entries 47, 95, 107) -/
def writeStats (n : Nat) (p : DecPic) (r : DecResult) (seq : Nat) (notOut : Bool) (s : State) : State :=
  let c := p.ctx
  if !bit (s.regAt pDsp 0x840 c) 1 then s
  else
    let slots := s.rfAt pDsp 0x87C c 15 8
    let size := s.rfAt pDsp 0x87C c 7 0 * 0x10000
    let head := s.rfAt pDsp 0x880 c 7 0
    let tail := s.rfAt pDsp 0x884 c 7 0
    if slots = 0 || (head + 1) % slots = tail % slots then dspEvent c 7 (s.bumpAt pDsp 0x888 c 1)
    else
      let (mv, qp, bits) := statSections p.facts.params r
      let o1 := 64
      let o2 := o1 + mv.length
      let o3 := o2 + qp.length
      let full := o3 + bits.length
      let fits := full ≤ size
      let st := smAt p.buf s.buf
      let flags := b2n (!st.conceal.isEmpty) + 2 * b2n (p.phantom || r.stats.phantomUsed) + 4 * b2n notOut
      let hdr := statHeader p.facts r seq flags st.ct (o1, o2, o3) (if fits then full else 64)
      let a := s.pairAt pDsp 0x874 c + head * size
      let s := (busWrite (engMaster n) a (if fits then hdr ++ mv ++ qp ++ bits else hdr) s).2
      s.setFldAt pDsp 0x880 c 7 0 ((head + 1) % slots)

/-! ## Completion -/

/-- The bounds of the stream on pictures that wait for output (R139). -/
def outBound (c : Nat) (p : StreamParams) (s : State) : OutBound :=
  { reorder := match p.reorder with
      | some n => n
      | none => if p.h265 then 0 else s.rfAt pDsp 0x840 c 18 16
    latency := if p.h265 then p.latency else none }

/-- The FRAME_SEQ that a picture would have on output: the next number, counting the pending pictures before
it in output order. -/
def seqAhead (c b : Nat) (s : State) : Nat :=
  let before := (pendBufs c s).filter fun x => x ≠ b && (smAt x s.buf).poc < (smAt b s.buf).poc
  ((smAt c s.ctx).seq + before.length) % 2 ^ 32

/-- A picture completes. (DEDUCED: log entry 47) -/
def completePicture (n : Nat) (p : DecPic) (r : DecResult) (s : State) : State :=
  let c := p.ctx
  let s := storePicture n p r (recordMissing c p.facts.params r (recordErrors c r.errors s))
  let s := setEng n (fun e => { e with pic := none }) (setMark p.buf mkFill false s)
  let s := clearMarks mkRef (r.unref.filter fun b => (ownedBufs c s).contains b) s
  let s := if p.facts.isRef then setMark p.buf mkRef true s else s
  let s := if p.facts.outputFlag then setMark p.buf mkPend true (countWait c p.buf s) else s
  let seq := seqAhead c p.buf s
  let s := (s.bump (pCdc n) 0x048).bumpAt (pCdc n) 0x04C 0 r.decodeUs
  let s := bump (engMaster n) c (outBound c p.facts.params s) ((pendBufs c s).length) s
  let notOut := !marked p.buf mkPend s && !(smAt p.buf s.buf).out
  writeStats n p r seq notOut s

/-- DECODE_COMPLETE (R140, R143). (DESIGN CHOICE: log entry 92) -/
def execDecodeComplete (n : Fin 16) (r : DecResult) (s : State) : Host.Outcome State Fault Refusal :=
  .next (whenPixel s (match (smAt n.val s.eng).pic with
    | none => s
    | some p => completePicture n.val p r s))

/-- DECODE_OVERRUN: the picture has taken more than 100 ms of engine time (R143, R151). -/
def execDecodeOverrun (n : Fin 16) (s : State) : Host.Outcome State Fault Refusal :=
  .next (whenPixel s (match (smAt n.val s.eng).pic with
    | none => s
    | some p =>
      if p.startClk + 50000000 < s.clk then
        raiseBit (pCdc n.val) 2 (dspError p.ctx 0xA 0 noUnit
          ((dropPic n.val s).bumpAt (pCdc n.val) 0x04C 0 100000))
      else s))

end Sys2Proof.Machine
end

