-- ==== Sys2Proof/Machine/PixelsWork.lean ====
section
/-! DEFINITION. The path of a layer's pixels: fetch, chroma upsampling, colour conversion, scaling, blending and
dither (R154, R165 to R178), and what each pixel reads (R46). -/

namespace Sys2Proof.Machine

/-! ## Colour conversion (R166) -/

/-- The nearest integer to `p` / `q`, ties upward. -/
def roundDiv (p q : Int) : Int := Int.fdiv (2 * p + q) (2 * q)

/-- Kr and Kb in ten-thousandths, luma and chroma scale, luma offset, of a matrix preset. -/
def cscParams (csc : Nat) : Int × Int × Int × Int × Int :=
  match csc with
  | 2 => (2990, 1140, 876, 896, 64)
  | 4 => (2627, 593, 876, 896, 64)
  | 5 => (2126, 722, 1023, 1023, 0)
  | _ => (2126, 722, 876, 896, 64)

/-- The matrix presets on normalised Y, Cb, Cr. -/
def cscMatrix (csc : Nat) (ny ncb ncr : Int) : Int × Int × Int :=
  let (kr, kb, sy, sc, oy) := cscParams csc
  let one : Int := 10000
  let kg := one - kr - kb
  let k : Int := 16384 * 4095
  let my := roundDiv k sy
  let rr := roundDiv (k * (2 * one - 2 * kr)) (one * sc)
  let gb := -roundDiv (k * (2 * kb * (one - kb))) (kg * one * sc)
  let gr := -roundDiv (k * (2 * kr * (one - kr))) (kg * one * sc)
  let bb := roundDiv (k * (2 * one - 2 * kb)) (one * sc)
  let ty := ny - oy
  let tb := ncb - 512
  let tr := ncr - 512
  let out := fun v => clampI 0 4095 (Int.fdiv (v + 8192) 16384)
  (out (my * ty + rr * tr), out (my * ty + gb * tb + gr * tr), out (my * ty + bb * tb))

/-- Nonlinear R′, G′, B′ as u12 from three components at depth `d` (R166). -/
def csc (code d : Nat) (v0 v1 v2 : Nat) : Nat × Nat × Nat :=
  let n := fun (v : Nat) => Int.ofNat (v * 2 ^ (10 - d))
  let full := fun v => (clampI 0 4095 (roundDiv (n v * 4095) 1023)).toNat
  let lim := fun v => (clampI 0 4095 (roundDiv ((clampI 64 940 (n v) - 64) * 4095) 876)).toNat
  match code with
  | 0 => (full v0, full v1, full v2)
  | 1 => (lim v0, lim v1, lim v2)
  | _ =>
    let (r, g, b) := cscMatrix code (n v0) (n v1) (n v2)
    (r.toNat, g.toNat, b.toNat)

/-! ## Tables (R167, R168, R170, R173) -/

/-- A coefficient as a signed number. -/
def coefAt (c : CmpSt) (set axis phase tap : Nat) : Int :=
  (BitVec.ofNat 10 (coefRaw c (coefKey set axis phase tap))).toInt

/-- The output table on a linear component (R168). -/
def outTable (c : CmpSt) (otf x : Nat) : Nat :=
  let i := x / 4
  let e0 := Int.ofNat (tfEntry c (4 + otf) i)
  let e1 := Int.ofNat (tfEntry c (4 + otf) (if i = 4095 then 4095 else i + 1))
  (clampI 0 16383 (e0 + Int.fdiv ((e1 - e0) * Int.ofNat (x % 4) + 2) 4)).toNat

/-- The dither matrix B of R169. -/
def ditherB (y x : Nat) : Nat := at2 [[0, 8, 2, 10], [12, 4, 14, 6], [3, 11, 1, 9], [15, 7, 13, 5]] (y % 4) (x % 4)

/-- Reduction of a component to the link depth at raster position (x, y) of a frame (R169). -/
def ditherTo (mode depth fn x y v : Nat) : Nat :=
  let sh := 14 - depth
  let add :=
    match mode with
    | 0 => 2 ^ (sh - 1)
    | 2 => ditherB (y + 2 * (fn / 2 % 2)) (x + 2 * (fn % 2)) * 2 ^ (sh - 4)
    | _ => ditherB y x * 2 ^ (sh - 4)
  min ((v + add) / 2 ^ sh) (2 ^ depth - 1)

/-! ## Scaling (R171, R172) -/

/-- The samples a box output reads, with their weights, and the length of its interval (R171). -/
def boxTaps (c t i : Nat) : List (Nat × Nat) × Nat :=
  let step := c * 65536 / t
  let lo := i * step
  let hi := if i + 1 = t then c * 65536 else (i + 1) * step
  let first := lo / 65536
  let taps := (List.range ((hi - 1) / 65536 + 1 - first)).map fun q =>
    let j := first + q
    (j, min hi ((j + 1) * 65536) - max lo (j * 65536))
  (taps.filter fun p => 0 < p.2, hi - lo)

/-- The samples a polyphase output reads, clamped to the crop window, and its phase (R172). -/
def polyTaps (axis c t i : Nat) : List Nat × Nat :=
  let step := c * 65536 / t
  let p : Int := Int.ofNat (i * step + step / 2) - 32768
  let n := Int.fdiv p 65536
  let q := ((p - n * 65536).toNat + 512) / 1024
  let n := if q = 64 then n + 1 else n
  let first : Int := if axis = 0 then n - 3 else n - 2
  ((List.range (if axis = 0 then 8 else 6)).map fun k =>
    (clampI 0 (Int.ofNat c - 1) (first + Int.ofNat k)).toNat, q % 64)

/-- The indices of the samples that output `i` of an axis reads (R46). -/
def tapIdx (poly : Bool) (axis c t i : Nat) : List Nat :=
  if poly then (polyTaps axis c t i).1 else (boxTaps c t i).1.map (·.1)

/-- Output `i` of an axis from the samples of that axis. -/
def scaleOne (cs : CmpSt) (poly : Bool) (set axis c t i : Nat) (f : Nat → Nat) : Nat :=
  if poly then
    let (idx, ph) := polyTaps axis c t i
    let acc := idx.zipIdx.foldl (fun (a : Int) p => a + coefAt cs set axis ph p.2 * Int.ofNat (f p.1)) 0
    (clampI 0 16383 (Int.fdiv (acc + 128) 256)).toNat
  else
    let (taps, len) := boxTaps c t i
    (taps.foldl (fun a p => a + f p.1 * p.2) 0 + len / 2) / len

def Rgba.chan (p : Rgba) : Nat → Nat
  | 0 => p.r
  | 1 => p.g
  | 2 => p.b
  | _ => p.a

def Rgba.ofChans (f : Nat → Nat) : Rgba := { r := f 0, g := f 1, b := f 2, a := f 3 }

/-! ## Fetching a region of a surface (R154, R160, R164) -/

/-- The channels of a region of a plane, in columns of the plane (pairs for chroma), both ends included; how
many Mborin blocks were damaged. -/
def readRegion (m : Master) (f : Surf) (chroma : Bool) (x0 x1 y0 y1 : Nat) (s : State) :
    (Nat → Nat → List Nat) × Nat × State :=
  let (k, plane, _) := f.plane chroma
  if fmtMborin f.fmt then
    let coords := (List.range (y1 / 4 + 1 - y0 / 4)).flatMap fun j =>
      (List.range (x1 / k.nx + 1 - x0 / k.nx)).map fun i => (x0 / k.nx + i, y0 / 4 + j)
    let (bs, dmg, s) := coords.foldl (fun (acc : List ((Nat × Nat) × List (List Nat)) × Nat × State) c =>
      let (chs, bad, _, s) := readBlock m f chroma c.1 c.2 acc.2.2
      (acc.1 ++ [(c, chs)], acc.2.1 + b2n bad, s)) ([], 0, s)
    (fun x y =>
      match bs.find? fun b => b.1 = (x / k.nx, y / 4) with
      | some b => b.2.map fun c => c.getD (y % 4 * k.nx + x % k.nx) 0
      | none => [], dmg, s)
  else
    let (ls, s) := (List.range (y1 + 1 - y0)).foldl (fun (acc : List (List Byte) × State) j =>
      let (_, bs, s) := busRead m (plane + (y0 + j) * f.stride + x0 * k.colBytes) ((x1 + 1 - x0) * k.colBytes)
        acc.2
      (acc.1 ++ [bs], s)) ([], s)
    (fun x y =>
      containerVals k (leNat (((ls.getD (y - y0) []).drop ((x - x0) * k.colBytes)).take k.colBytes)), 0, s)

/-- Rows of the chroma plane that the upsampler reads for a luma line (R165): the near row and the far one. -/
def chromaRows (h y : Nat) : Nat × Nat :=
  let i := y / 2
  (i, if y % 2 = 0 then i - 1 else min (i + 1) (roundUp h 2 - 1))

/-- Pairs that the upsampler reads for a luma column (R165). -/
def chromaCols (w x : Nat) : Nat × Nat := (x / 2, if x % 2 = 0 then x / 2 else min (x / 2 + 1) (roundUp w 2 - 1))

/-- Component `c` of the upsampled chroma at a luma position (R165). -/
def upsample (f : Surf) (ch : Nat → Nat → List Nat) (c x y : Nat) : Nat :=
  let (near, far) := chromaRows f.h y
  let (a, b) := chromaCols f.w x
  let v := fun j => (3 * (ch j near).getD c 0 + (ch j far).getD c 0 + 2) / 4
  if x % 2 = 0 then v a else (v a + v b + 1) / 2

/-- Alpha of a pixel expanded to u14 (R174). -/
def pixelAlpha (l : LayerIn) (a : Nat) : Nat :=
  if !l.pixAlpha then 16383
  else
    match l.surf.fmt with
    | 4 | 6 => (a * 16383 + 127) / 255
    | 5 | 7 => a * 5461
    | _ => 16383

/-- A stored pixel as linear light with alpha, before scaling (R154, steps 2 to 4). -/
def linearPixel (cs : CmpSt) (l : LayerIn) (p0 ch : Nat → Nat → List Nat) (x y : Nat) : Rgba :=
  let f := l.surf
  let d := fmtDepth f.fmt
  let raw := p0 x y
  let (r, g, b) :=
    if fmtPlanar f.fmt then csc l.csc d (raw.getD 0 0) (upsample f ch 0 x y) (upsample f ch 1 x y)
    else csc l.csc d (raw.getD 2 0) (raw.getD 1 0) (raw.getD 0 0)
  { r := tfEntry cs l.tf r, g := tfEntry cs l.tf g, b := tfEntry cs l.tf b, a := pixelAlpha l (raw.getD 3 0) }

/-- The scaled pixel at column `i`, line `j` of the destination rectangle: the vertical pass, then the
horizontal pass (R154, R171, R172). -/
def scaledPixel (cs : CmpSt) (l : LayerIn) (p0 ch : Nat → Nat → List Nat) (i j : Nat) : Rgba :=
  Rgba.ofChans fun k => scaleOne cs l.poly l.coef 0 l.cw l.dw i fun x =>
    scaleOne cs l.poly l.coef 1 l.ch l.dh j fun y =>
      (linearPixel cs l p0 ch (l.cx + x) (l.cy + y)).chan k

/-! ## What of a layer a petal row shows -/

/-- The destination lines and columns of a layer inside lines [y0, y1) of an active area `hA` wide: first and
one past the last, relative to the destination rectangle. -/
def visible (l : LayerIn) (hA y0 y1 : Nat) : Option ((Nat × Nat) × (Nat × Nat)) :=
  let j0 := y0 - l.dy
  let j1 := min l.dh (y1 - l.dy)
  let i1 := min l.dw (hA - l.dx)
  if j0 < j1 ∧ 0 < i1 then some ((0, i1), (j0, j1)) else none

/-- The least and the greatest of the samples that outputs [a, b) of an axis read. -/
def tapSpan (poly : Bool) (axis c t a b : Nat) : Nat × Nat :=
  let all := (List.range (b - a)).flatMap fun q => tapIdx poly axis c t (a + q)
  (all.foldl min (c - 1), all.foldl max 0)

/-- Fetch what lines [y0, y1) of a drawn layer need: its pixels by destination position; blocks damaged.
(DESIGN CHOICE: log entry 111) -/
def fetchLayer (m : Master) (cs : CmpSt) (l : LayerIn) (hA y0 y1 : Nat) (s : State) :
    (Nat → Nat → Rgba) × Nat × State :=
  match l.use, visible l hA y0 y1 with
  | .draw, some ((i0, i1), (j0, j1)) =>
    let (xa, xb) := tapSpan l.poly 0 l.cw l.dw i0 i1
    let (ya, yb) := tapSpan l.poly 1 l.ch l.dh j0 j1
    let (x0, x1, z0, z1) := (l.cx + xa, l.cx + xb, l.cy + ya, l.cy + yb)
    let (p0, d0, s) := readRegion m l.surf false x0 x1 z0 z1 s
    if fmtPlanar l.surf.fmt then
      let (ch, d1, s) := readRegion m l.surf true (x0 / 2) (chromaCols l.surf.w x1).2
        (min (chromaRows l.surf.h z0).1 (chromaRows l.surf.h z0).2)
        (max (chromaRows l.surf.h z1).1 (chromaRows l.surf.h z1).2) s
      (scaledPixel cs l p0 ch, d0 + d1, s)
    else (scaledPixel cs l p0 (fun _ _ => []), d0, s)
  | _, _ => (fun _ _ => {}, 0, s)

/-! ## Blending (R174 to R178) -/

def mul14 (x y : Nat) : Nat := (x * y + 8191) / 16383

/-- The colour and alpha a_k of each layer at a pixel (R175). -/
def layerAt (ls : List (LayerIn × (Nat → Nat → Rgba))) (x y : Nat) : List (Rgba × Nat) :=
  ls.map fun p =>
    if p.1.use = .draw && inDst p.1 x y then
      let c := p.2 (x - p.1.dx) (y - p.1.dy)
      (c, mul14 c.a p.1.alpha)
    else ({}, 0)

/-- The blend of one component from the bottom up (R176). -/
def blend (bg : Nat) (cs : List (Nat × Nat)) : Nat :=
  cs.foldl (fun acc c => mul14 c.1 c.2 + mul14 acc (16383 - c.2)) bg

/-- The weights of the layers, from the top down (R177). -/
def weights (as_ : List Nat) : List Nat :=
  (as_.foldr (fun a (acc : List Nat × Nat) =>
    (mul14 a acc.2 :: acc.1, mul14 (16383 - a) acc.2)) ([], 16383)).1

/-- The composed pixel at link depth (R154, R168, R169, R176). -/
def composedPixel (cs : CmpSt) (f : FrameIn) (at_ : List (Rgba × Nat)) (x y : Nat) : Rgba :=
  let comp := fun bg k =>
    ditherTo f.dither f.depth f.no x y (outTable cs f.otf (blend bg (at_.map fun p => (p.1.chan k, p.2))))
  { r := comp f.bg.r 0, g := comp f.bg.g 1, b := comp f.bg.b 2 }

/-! ## Footprints and contributions (R45, R46, R47) -/

def dedup (l : List (Nat × Nat)) : List (Nat × Nat) :=
  l.foldl (fun acc b => if acc.contains b then acc else acc ++ [b]) []

def pairsOf (xs ys : List Nat) : List (Nat × Nat) := ys.flatMap fun y => xs.map fun x => (x, y)

/-- The blocks of the stored frame in the footprint of a destination pixel (R46). -/
def footprint (l : LayerIn) (i j : Nat) : List (Nat × Nat) :=
  let xs := (tapIdx l.poly 0 l.cw l.dw i).map (l.cx + ·)
  let ys := (tapIdx l.poly 1 l.ch l.dh j).map (l.cy + ·)
  let luma := pairsOf (xs.map (· / 64)) (ys.map (· / 64))
  let chroma :=
    if fmtPlanar l.surf.fmt then
      let cols := xs.flatMap fun x => [(chromaCols l.surf.w x).1, (chromaCols l.surf.w x).2]
      let rows := ys.flatMap fun y => [(chromaRows l.surf.h y).1, (chromaRows l.surf.h y).2]
      pairsOf (cols.map (2 * · / 64)) (rows.map (2 * · / 64))
    else []
  dedup (luma ++ chroma)

def optMin (a : Option Int) (b : Int) : Option Int := some (match a with | some x => min x b | none => b)

def optMax (a : Option Int) (b : Int) : Option Int := some (match a with | some x => max x b | none => b)

/-- DELTA and ORIGIN_STATE of a block: an entry outside the map is not trustworthy (R42). (DEDUCED: log entry 25) -/
def bctEntry (m : List ((Nat × Nat) × (Nat × Nat))) (b : Nat × Nat) : Nat × Nat :=
  ((m.find? fun e => e.1 = b).map (·.2)).getD (0xFFFFFFFF, 5)

/-- A contributed pixel with the given footprint joins what its layer contributes to the petal; none when every
block is VACANT at its origin (R46). (DEDUCED: log entries 25, 26) -/
def joinPixel (l : LayerIn) (blocks : List (Nat × Nat)) (c : Option Contrib) (k : Nat) : Option Contrib :=
  let old := c.getD { layer := k }
  match l.record.bct with
  | none =>
    let t := Int.ofNat l.record.ct
    some { old with
      minCt := optMin old.minCt t, maxCt := optMax old.maxCt t
      conceal := old.conceal || blocks.any fun b => l.record.conceal.contains b }
  | some m =>
    let live := blocks.filter fun b => (bctEntry m b).2 ≠ 0
    if live.isEmpty then c
    else
      let o := live.foldl (fun (o : Contrib) b => { o with
        origin := max o.origin (min (bctEntry m b).2 5)
        conceal := o.conceal || l.record.conceal.contains b }) old
      if live.any fun b => (bctEntry m b).1 = 0xFFFFFFFF then some { o with unknown := true }
      else
        let delta := live.foldl (fun d b => max d (bctEntry m b).1) 0
        let t := Int.ofNat l.record.ct - Int.ofNat (delta * 1000 * 65536)
        some { o with minCt := optMin o.minCt t, maxCt := optMax o.maxCt t }

/-- What layer `k` contributes to a petal whose pixels are `ps`, each with its weights (R45 to R47).
(DEDUCED: log entries 27, 96) -/
def layerContrib (l : LayerIn) (k : Nat) (ps : List ((Nat × Nat) × List Nat)) : Option Contrib :=
  match l.use with
  | .off => none
  | .noBuf => if ps.any fun p => inDst l p.1.1 p.1.2 then some { layer := k, reason := 6 } else none
  | .fault _ => if ps.any fun p => inDst l p.1.1 p.1.2 then some { layer := k, reason := 7 } else none
  | .draw =>
    ps.foldl (fun c p =>
      if inDst l p.1.1 p.1.2 && 0x100 ≤ p.2.getD k 0 then
        joinPixel l (footprint l (p.1.1 - l.dx) (p.1.2 - l.dy)) c k
      else c) none

/-- What the live-declared layers contribute to a petal (R44). (DEDUCED: log entry 25) -/
def petalContribs (f : FrameIn) (ps : List ((Nat × Nat) × List Nat)) : List Contrib :=
  f.layers.zipIdx.filterMap fun p => if f.live.testBit p.2 then layerContrib p.1 p.2 ps else none

end Sys2Proof.Machine
end

