-- ==== Sys2Proof/Machine/ComposeWork.lean ====
section
/-! DEFINITION. A composition pipe at work: the latch check, the frames and records its layers take, and the rows it
delivers (R38, R170, R182 to R192). -/

namespace Sys2Proof.Machine

/-! ## Liveness records at the latch point (R38, R51, R184) -/

/-- The limits of a source context at a latch point of OUT*n*: which of the writes within the crossing bound
count is open (R51). (DESIGN CHOICE: log entry 29) -/
def limitsOf (n c : Nat) (s : State) : LvLimits × State :=
  let young := s.lvWrites.filter fun e => e.1 = c && s.clk < e.2.2 + pixBound n s
  if young.isEmpty then (limitsNow c s, s)
  else
    let (w, s) := s.takeFree
    match young[w.toNat % (young.length + 1)]? with
    | some e => (e.2.1, s)
    | none => (limitsNow c s, s)

/-- The concealed blocks of rows `ys` between columns [b0, b1], and whether every read was served (R41).
(DEDUCED: log entry 27) -/
def readConceal (m : Master) (a b0 b1 : Nat) : List Nat → State → Bool × List (Nat × Nat) × State
  | [], s => (true, [], s)
  | y :: ys, s =>
    let (ok, bs, s) := busRead m (a + 16 * y + b0 / 8) (b1 / 8 + 1 - b0 / 8) s
    let here := ((List.range (b1 + 1 - b0)).map (b0 + ·)).filter fun x =>
      (bs.getD (x / 8 - b0 / 8) 0).getLsbD (x % 8)
    let (ok2, rest, s) := readConceal m a b0 b1 ys s
    (ok && ok2, here.map (fun x => (x, y)) ++ rest, s)

/-- The entries of a block capture-time map for the same blocks (R42). (DEDUCED: log entry 27) -/
def readBct (m : Master) (a w b0 b1 : Nat) :
    List Nat → State → Bool × List ((Nat × Nat) × (Nat × Nat)) × State
  | [], s => (true, [], s)
  | y :: ys, s =>
    let (ok, bs, s) := busRead m (a + y * (roundUp (8 * w) 64 * 64) + 8 * b0) (8 * (b1 + 1 - b0)) s
    let here := (List.range (b1 + 1 - b0)).map fun i =>
      ((b0 + i, y), (leNat ((bs.drop (8 * i)).take 4), (bs.getD (8 * i + 4) 0).toNat))
    let (ok2, rest, s) := readBct m a w b0 b1 ys s
    (ok && ok2, here ++ rest, s)

/-- The record at an address, for a layer of context `known` that reads blocks `bs` (first and last column, first
and last row): with reason 0x1 when R37, R38 or R184 rejects it. A map that cannot be read counts for nothing but
that reason: no block of it is VACANT. (DEDUCED, DESIGN CHOICE: log entries 27, 113) -/
def fixRecord (n : Nat) (a : Nat) (known : Option Nat) (bs : (Nat × Nat) × (Nat × Nat)) (s : State) :
    RecIn × State :=
  let m : Master := .grd (Fin.ofNat 16 n)
  let miss : RecIn := { src := known.getD 0xFF }
  if recSize s = 0 || a = 0 || !inRecRegion a 64 s then (miss, s)
  else
    let (ok, d, s) := busRead m a 64 s
    let f := fun o k => leNat ((d.drop o).take k)
    if !ok || f 0x38 4 ≠ (crc32c (d.take 0x38)).toNat || 127 < f 0x10 1 then (miss, s)
    else
      let flags := f 0x0F 1
      let (w, h) := (f 0x24 2, f 0x26 2)
      let b1 := min bs.1.2 (w - 1)
      let rows := ((List.range (bs.2.2 + 1 - bs.2.1)).map (bs.2.1 + ·)).filter (· < h)
      let (okC, conceal, s) :=
        if !flags.testBit 3 then (true, [], s)
        else if !inRecRegion (f 0x28 8) (16 * h) s then (false, [], s)
        else readConceal m (f 0x28 8) bs.1.1 b1 rows s
      let (okB, bct, s) :=
        if !flags.testBit 2 then (true, none, s)
        else if !inRecRegion (f 0x30 8) (roundUp (8 * w) 64 * 64 * h) s then (false, none, s)
        else
          let (ok, e, s) := readBct m (f 0x30 8) w bs.1.1 b1 rows s
          (ok, if ok then some e else none, s)
      let (lim, s) := limitsOf n (f 0x10 1) s
      let r : RecIn := {
        bad := !(okC && okB) || !flags.testBit 7
        src := f 0x10 1
        ct := ((f 0x00 8) * 1000000000 + f 0x08 4 % 2 ^ 30) * 65536 + f 0x0C 2
        epoch := f 0x0E 1, network := flags.testBit 6, identRun := f 0x12 2, hold := f 0x20 4
        conceal, bct, lim }
      (r, s)

/-! ## The latch check (R180, R181) -/

/-- The picture that a layer's crop refers to: its surface, and the left, top, width and height of the cropped
picture; none when it has no buffer. -/
def layerPicture (n k : Nat) (s : State) : Option (Surf × (Nat × Nat) × (Nat × Nat)) :=
  let p := pCmp n
  let o := layOff k
  let ctrl := s.latchedReg p (o 0)
  if bit ctrl 30 then
    let a := s.latchedPair p (o 0x08)
    let pl := s.latchedReg p (o 0x10)
    let w := s.latchedFld p (o 0x18) 31 16
    let h := s.latchedFld p (o 0x18) 15 0
    let f : Surf := { fmt := fld ctrl 7 4, plane0 := a, plane1 := a + fld pl 31 16 * 4096
                      header := a + fld pl 15 0 * 4096, stride := s.latchedFld p (o 0x14) 16 6 * 64, w, h }
    some (f, (0, 0), (w, h))
  else if s.rb p (o 0x44) 31 then
    let b := s.rf p (o 0x44) 11 0
    some (bufSurf b s, (s.rfAt pDsp 0x89C b 31 16, s.rfAt pDsp 0x89C b 15 0),
      (s.rfAt pDsp 0x8A0 b 31 16, s.rfAt pDsp 0x8A0 b 15 0))
  else none

/-- The crop window: left, top, width, height in the cropped picture; the whole picture when both sizes are 0. -/
def cropOf (n k : Nat) (pic : Nat × Nat) (s : State) : Nat × Nat × Nat × Nat :=
  let sz := s.latchedReg (pCmp n) (layOff k 0x20)
  let pos := s.latchedReg (pCmp n) (layOff k 0x1C)
  if sz = 0 then (0, 0, pic.1, pic.2) else (fld pos 31 16, fld pos 15 0, fld sz 31 16, fld sz 15 0)

def ratioBad (poly : Bool) (c t : Nat) : Bool :=
  c ≠ 0 && t ≠ 0 && if poly then !(c ≤ 4 * t && t ≤ 16 * c) else !(t ≤ c && c ≤ 16 * t)

/-- The lowest code of R180 whose condition holds; 0 when the check passes. A CTX-mode layer without a buffer has
no picture, and what refers to the picture is not judged. (DEDUCED: log entry 96) -/
def latchCheck (n k hT : Nat) (f : Surf) (pic : Option (Nat × Nat)) (s : State) : Nat :=
  let p := pCmp n
  let ctrl := s.latchedReg p (layOff k 0)
  let (addr, poly) := (bit ctrl 30, bit ctrl 29)
  let (x, y, w, h) := cropOf n k (pic.getD (0, 0)) s
  let inside := pic.all fun q => x + w ≤ q.1 && y + h ≤ q.2
  let ds := s.latchedReg p (layOff k 0x28)
  let (dw, dh) := (fld ds 31 16, fld ds 15 0)
  if addr && pic.any fun q => q.1 = 0 || q.2 = 0 then 4
  else if (if poly then 4096 else 8192) < w then 1
  else if ratioBad poly w dw || ratioBad poly h dh then 2
  else if (w = 0) != (h = 0) || !inside || 8192 < h then 3
  else if addr && (fmtReserved f.fmt || f.stride < roundUp f.w 16 * 16 * fmtContainer f.fmt
      || !(smAt n s.cmp).paired.contains k) then 4
  else if dw = 0 || dh = 0 then 5
  else if 16 * hT < w * roundUp h dh then 6
  else if 6 ≤ fld ctrl 26 24 then 7
  else 0

/-- The blocks of a stored frame that a crop window reaches, the upsampler's neighbours included.
(DEDUCED: log entry 27) -/
def cropBlocks (f : Surf) (x y w h : Nat) : (Nat × Nat) × (Nat × Nat) :=
  ((x / 64, min (x + w) (f.w - 1) / 64), ((y - 2) / 64, min (y + h) (f.h - 1) / 64))

/-- Layer `k` as the coming frame uses it: its check is made and recorded, and its record read when it is
live-declared (R44, R180, R181, R184, R188). A layer that fails its check counts with reason 0x7 even when nothing
was ever delivered to it, as R181 says. (DEDUCED: log entry 96) -/
def fixLayer (n k hT : Nat) (live : Bool) (s : State) : LayerIn × State :=
  let p := pCmp n
  let o := layOff k
  let ctrl := s.latchedReg p (o 0)
  let en := bit ctrl 31
  let base : LayerIn := {
    dx := s.latchedFld p (o 0x24) 31 16, dy := s.latchedFld p (o 0x24) 15 0
    dw := s.latchedFld p (o 0x28) 31 16, dh := s.latchedFld p (o 0x28) 15 0
    poly := bit ctrl 29, coef := fld ctrl 21 20, tf := fld ctrl 23 22, csc := fld ctrl 26 24
    pixAlpha := bit ctrl 19, alpha := s.latchedFld p (o 0x04) 13 0, repeated := s.rb p (o 0x40) 10 }
  let (code, l, s) :=
    if !en then (0, base, s)
    else
      match layerPicture n k s with
      | none =>
        let code := latchCheck n k hT {} none s
        (code, { base with use := if code ≠ 0 then .fault code else if s.rb p (o 0x40) 9 then .off else .noBuf }, s)
      | some (f, (ox, oy), pic) =>
        let code := latchCheck n k hT f (some pic) s
        if code ≠ 0 then (code, { base with use := .fault code }, s)
        else
          let (x, y, w, h) := cropOf n k pic s
          let addr := bit ctrl 30
          let b := s.rf p (o 0x44) 11 0
          let a := if addr then s.latchedPair p (o 0x2C) else (smAt b s.buf).desc.record
          let known := if addr then none else (smAt b s.buf).owner
          let (r, s) := if live then fixRecord n a known (cropBlocks f (ox + x) (oy + y) w h) s else ({}, s)
          (0, { base with use := .draw, surf := f, cx := ox + x, cy := oy + y, cw := w, ch := h, record := r }, s)
  let was := (smAt n s.cmp).failed.contains k
  let s := s.setFld p (o 0x40) 15 12 code
  let s := if code ≠ 0 && !was then raiseBit p 0 s else s
  (l, setCmp n (fun c => { c with
    failed := if code ≠ 0 then k :: c.failed.filter (· ≠ k) else c.failed.filter (· ≠ k) }) s)

/-- The latch point of an enabled pipe: LATCH fields, frames, holds, checks; the layers of the coming frame and
its sequence number (R182 to R192). (DEDUCED: log entry 49) -/
def cmpLatch (n no hT live : Nat) (s : State) : List LayerIn × Nat × State :=
  let p := pCmp n
  let s := takeLatch n p s
  let before := heldBufs n s
  let s := (List.range 8).foldl (fun s k => takeLayer n k no s) s
  let s := moveHolds n before (clearArrived p s)
  let (ls, s) := (List.range 8).foldl (fun (acc : List LayerIn × State) k =>
    let (l, s) := fixLayer n k hT (live.testBit k) acc.2
    (acc.1 ++ [l], s)) ([], s)
  let faults := (ls.zipIdx.filter fun q => match q.1.use with
    | .fault _ => true
    | _ => false).foldl (fun a q => a + 2 ^ q.2) 0
  let s := s.setReg p 0x070 (BitVec.ofNat 32 faults)
  let seq := (smAt n s.cmp).seq
  (ls, seq, setCmp n (fun c => { c with seq := (seq + 1) % 2 ^ 32 }) s)

/-! ## Rows delivered (R192, R195, R196) -/

/-- The pixels of lines [y0, y1) and what the layers contribute to each petal of the row. -/
def composeRow (n : Nat) (f : FrameIn) (y0 y1 : Nat) (s : State) :
    List (List Rgba) × List (List Contrib) × State :=
  let cs := smAt n s.cmp
  let m : Master := .cmp (Fin.ofNat 16 n)
  let (ls, s) := f.layers.zipIdx.foldl (fun (acc : List (LayerIn × (Nat → Nat → Rgba)) × State) q =>
    let (px, dmg, s) := fetchLayer m cs q.1 f.hA y0 y1 acc.2
    let s := if dmg = 0 then s
      else raiseBit (pCmp n) 2 (s.bumpAt (pCmp n) (layOff q.2 0x50) 0 dmg)
    (acc.1 ++ [(q.1, px)], s)) ([], s)
  let lines := (List.range (y1 - y0)).map fun j => (List.range f.hA).map fun x => layerAt ls x (y0 + j)
  let pix := lines.zipIdx.map fun l => l.1.zipIdx.map fun c => composedPixel cs f c.1 c.2 (y0 + l.2)
  let contribs := (List.range (petalCols f)).map fun c =>
    petalContribs f (lines.zipIdx.flatMap fun l =>
      ((l.1.zipIdx.drop (64 * c)).take 64).map fun q => ((q.2, y0 + l.2), weights (q.1.map (·.2))))
  (pix, contribs, s)

/-- Whether GRD*n* discards what the pipe delivers for row `r` of a frame in scan: the frame is not new, or the
row is late (R196, R197). -/
def rowDiscarded (f : Frame) (r : Nat) (scanning : Bool) : Bool :=
  scanning && (!f.isNew || (match f.late with
    | some l => l ≤ r
    | none => false))

/-- Whether the pipe may deliver its next row: row 0 before A_k, row r + 1 once OUT*n* scans row r (R195). -/
def rowOpen (n : Nat) (f : Frame) (s : State) : Bool :=
  f.seq.isSome && f.delivered < petalRows f.inp
    && (f.delivered = 0 || ((smAt n s.out).scan.isSome
      && f.start + lineTime40 f.inp.p32 f.inp.vT (64 * (f.delivered - 1)) ≤ s.tm.run))

/-- The next petal row of a frame enters the row store. -/
def deliverRow (n : Nat) (f : Frame) (s : State) : State :=
  let r := f.delivered
  let (pix, cs, s) := composeRow n f.inp (64 * r) (min (64 * r + 64) f.inp.vA) s
  let f := { f with delivered := r + 1 }
  if rowDiscarded f r (smAt n s.out).scan.isSome then setComposing n f s
  else
    let contribs := cs.zipIdx.foldl (fun m q => smSet (petalIdx q.2 r) q.1 m) f.contribs
    setComposing n { f with pix := smSet r pix f.pix, contribs } s

end Sys2Proof.Machine
end

