-- ==== Sys2Proof/Machine/GuardWork.lean ====
section
/-! DEFINITION. A guard stage at work: the frame it latches, the petal map, the reference renderer and the verdicts
(R193 to R219). -/

namespace Sys2Proof.Machine

def grdMaster (n : Nat) : Master := .grd (Fin.ofNat 16 n)

/-! ## The latch point (R51, R213, R219) -/

def rectIn (page off : Nat) (s : State) : RectIn :=
  let ctrl := s.latchedReg page off
  { en := bit ctrl 0, mode := fld ctrl 2 1, wd := fld ctrl 15 8
    x := s.latchedFld page (off + 4) 31 16, y := s.latchedFld page (off + 4) 15 0
    w := s.latchedFld page (off + 8) 31 16, h := s.latchedFld page (off + 8) 15 0
    expect := s.latchedReg page (off + 12) }

/-- The latch point of OUT*n* for the coming frame: LATCH fields of GRD*n*, CMP*n* and OUT*n*, the frames of the
layers and the liveness inputs (R51, R186, R235). -/
def latchFrame (n : Nat) (s : State) : State :=
  let p := pGrd n
  let t := timingOf n s
  let no := (smAt n s.out).nextNo
  let s := takeLatch n (pOut n) (takeLatch n p s)
  let live := s.latchedFld p 0x040 7 0
  let (layers, seq, s) :=
    if s.enabled (pCmp n) then
      let (ls, q, s) := cmpLatch n no t.hT live s
      (ls, some q, s)
    else ([], none, s)
  let bg0 := s.latchedReg (pCmp n) 0x040
  let inp : FrameIn := {
    no, hA := t.hA, vA := t.vA, vT := t.vT, p32 := t.sched.p, depth := t.depth
    epoch := s.tm.epoch, traceable := traceable s, live, layers
    bg := { r := fld bg0 27 14, g := fld bg0 13 0, b := s.latchedFld (pCmp n) 0x044 13 0 }
    otf := s.latchedFld (pCmp n) 0x048 2 2, dither := s.latchedFld (pCmp n) 0x048 1 0
    words := (List.range 4).map fun k =>
      (wordBytes (s.latchedPair p (0x080 + 8 * k))).takeWhile (· ≠ 0)
    scale := s.latchedFld p 0x044 1 0
    vrs := (List.range 4).map fun v => rectIn p (0x100 + 0x20 * v) s
    crcs := (List.range 4).map fun v => rectIn (pOut n) (0x100 + 0x20 * v) s
    pmEn := s.rb p 0x050 16, pmBase := s.pair p 0x048, pmSlots := s.rf p 0x050 15 8, pm4k := s.rf p 0x050 7 0
    terms := counterTerms s }
  let f : Frame := { inp, seq }
  setOut n (fun o => { o with coming := some f }) s

/-! ## The petal map (R54, R199) -/

def petalCount (f : Frame) (st : Nat) : Nat :=
  ((List.range (petalRows f.inp)).flatMap fun r => (List.range (petalCols f.inp)).filter fun c =>
    (smAt (petalIdx c r) f.petals).state = st).length

/-- The greatest age among WILTED petals; 0 when there are none. -/
def maxWilted (f : Frame) : Nat :=
  f.petals.foldl (fun a p => if p.2.state = stWilted then max a p.2.age else a) 0

/-- The slot header (R199). -/
def headerBytes (f : Frame) (seqLast : Word) : List Byte :=
  let a := NTime.ofT16 f.a
  let flags := b2n (!f.isNew) + 2 * b2n f.late.isSome + 4 * b2n f.skip
  let body := leBytes 4 f.inp.no ++ leBytes 4 seqLast.toNat ++ leBytes 8 a.sec ++ leBytes 4 a.ns
    ++ leBytes 2 a.frac ++ leBytes 1 f.inp.epoch ++ leBytes 1 flags ++ leBytes 2 (petalCols f.inp)
    ++ leBytes 2 (petalRows f.inp) ++ (List.range 6).flatMap (fun st => leBytes 2 (petalCount f st))
    ++ leBytes 4 (maxWilted f) ++ leBytes 16 0
  body ++ leBytes 4 (crc32c body).toNat

/-- The header of a finished frame is written and HEAD advances (R199). (DEDUCED: log entry 50) -/
def writeHeader (n : Nat) (f : Frame) (s : State) : Frame × State :=
  match f.slot with
  | none => (f, s)
  | some a =>
    if f.headerDone then (f, s)
    else
      let s := (busWrite (grdMaster n) a (headerBytes f (s.reg (pGrd n) 0x058)) s).2
      let head := (s.rf (pGrd n) 0x054 3 0 + 1) % f.inp.pmSlots
      ({ f with headerDone := true }, s.setFld (pGrd n) 0x054 3 0 head)

/-- PMAP_HEADER_WRITE: after the last active line (R199). -/
def execPmapHeaderWrite (n : Fin 16) (s : State) : Host.Outcome State Fault Refusal :=
  .next (whenPixel s (match (smAt n.val s.out).prev with
    | none => s
    | some f =>
      let (f, s) := writeHeader n.val f s
      setOut n.val (fun o => { o with prev := some f }) s))

/-! ## The reference renderer (R210) -/

/-- The petals of rows `rs` as the map slot holds them. -/
def readPetals (n slot cols : Nat) : List Nat → State → List (Nat × List Petal) × State
  | [], s => ([], s)
  | r :: rs, s =>
    let (_, bs, s) := busRead (grdMaster n) (slot + 0x40 + 8 * r * cols) (8 * cols) s
    let row := (List.range cols).map fun c =>
      let b := bs.drop (8 * c)
      { age := leNat (b.take 4), state := (b.getD 4 0).toNat % 8 : Petal }
    let (rest, s) := readPetals n slot cols rs s
    ((r, row) :: rest, s)

/-- The petal rows that the reference renderer reads: those a rectangle touches, the row above and the row below
(R210). -/
def rowsRead (f : FrameIn) (q : RectIn) : List Nat :=
  (List.range (petalRows f)).filter fun r => q.y / 64 ≤ r + 1 && r ≤ (q.y + q.h - 1) / 64 + 1

/-- Whether the renderer draws the texts of the row above a rectangle. Whether that row has label petals depends on
a row that R210 does not have it read; where a text of four-fold scale reaches into the next row the answer is
open. (DESIGN CHOICE: log entry 108) -/
def textsAbove (f : FrameIn) (q : RectIn) (s : State) : Bool × State :=
  if f.scale = 3 && 2 ≤ q.y / 64 then s.takeBool else (true, s)

/-- The reference result of rectangle `v` of a frame, once every row that it needs has been written (R210). -/
def renderRef (n v : Nat) (f : Frame) (s : State) : Frame × State :=
  match f.inp.vrs[v]?, f.slot with
  | some q, some slot =>
    let rs := rowsRead f.inp q
    if !q.en || q.mode ≠ 1 || (smGet v f.refs).isSome
        || rs.any fun r => f.evaluated ≤ r || f.unwritten.contains r then (f, s)
    else
      let (rows, s) := readPetals n slot (petalCols f.inp) rs s
      let pm : PetalMap := fun c r => (rows.find? fun e => e.1 = r).bind fun e => e.2[c]?
      let (above, s) := textsAbove f.inp q s
      ({ f with refs := smInsert v (refCrc f.inp pm q above) f.refs }, s)
  | _, _ => (f, s)

/-- REF_RENDER_COMPLETE: of the frame whose comparison is pending, else of the frame in scan (R210). -/
def execRefRenderComplete (n : Fin 16) (v : Fin 4) (s : State) : Host.Outcome State Fault Refusal :=
  .next (whenPixel s (match (smAt n.val s.out).prev, (smAt n.val s.out).scan with
    | some f, _ =>
      let (f, s) := renderRef n.val v.val f s
      setOut n.val (fun o => { o with prev := some f }) s
    | none, some f =>
      let (f, s) := renderRef n.val v.val f s
      setOut n.val (fun o => { o with scan := some f }) s
    | none, none => s))

/-! ## Verdicts (R211, R212, R239) -/

/-- The verdict of a verification rectangle, its run and counts; whether its run has reached WD_COUNT. -/
def judgeRect (n v : Nat) (f : Frame) (q : RectIn) (s : State) : Bool × State :=
  let p := pGrd n
  let o := fun r => 0x100 + 0x20 * v + r
  let verdict := fun c (s : State) => s.setFld p (o 0x18) 2 0 c
  if !q.en then (false, verdict 0 s)
  else if !rectInside f.inp q then (false, raiseBit p 7 (verdict 4 s))
  else
    let actual := rectCrc f q (decide (q.mode = 1))
    let s := s.setReg p (o 0x10) actual
    let ref := smGet v f.refs
    let s := match ref with
      | some w => if q.mode = 1 then s.setReg p (o 0x14) w else s
      | none => s
    let code := if q.mode = 0 then (if actual = q.expect then 1 else 2)
      else match ref with
        | some w => if actual = w then 1 else 2
        | none => 3
    if code = 1 then (false, verdict 1 (s.setFld p (o 0x18) 15 8 0))
    else
      let s := raiseBit p 6 ((verdict code (s.bumpFldAt p (o 0x18) 0 15 8 1)).bump p (o 0x1C))
      (decide (0 < q.wd) && decide (q.wd ≤ s.rf p (o 0x18) 15 8), s)

/-- The verdict of a software rectangle (R239). -/
def judgeCrc (n v : Nat) (f : Frame) (q : RectIn) (s : State) : State :=
  let p := pOut n
  let o := fun r => 0x100 + 0x20 * v + r
  let verdict := fun c (s : State) => s.setFld p (o 0x14) 2 0 c
  if !q.en then verdict 0 s
  else if !rectInside f.inp q then verdict 4 s
  else
    let actual := rectCrc f q false
    let s := s.setReg p (o 0x10) actual
    if actual = q.expect then verdict 1 s else raiseBit p 14 ((verdict 2 s).bump p (o 0x18))

/-- The comparisons of a frame at the next line 0, and the withdrawal they cause (R211, R212). -/
def compareFrame (n : Nat) (s : State) : State :=
  match (smAt n s.out).prev with
  | none => s
  | some f =>
    let (f, s) := writeHeader n f s
    let s := setOut n (fun o => { o with prev := none }) s
    let s := f.inp.crcs.zipIdx.foldl (fun s q => judgeCrc n q.2 f q.1 s) s
    let (wd, s) := f.inp.vrs.zipIdx.foldl (fun (acc : Bool × State) q =>
      let (w, s) := judgeRect n q.2 f q.1 acc.2
      (acc.1 || w, s)) (false, s)
    if wd then withdraw 2 n s else s

/-! ## Stalls and late rows (R196 to R198, R236) -/

/-- CMP_ROW_DELIVERED: the pipe delivers its next petal row (R195); a row that arrives after line 64r was due is
late. -/
def execCmpRowDelivered (n : Fin 16) (s : State) : Host.Outcome State Fault Refusal :=
  .next (whenPixel s (match composing n.val s with
    | none => s
    | some f =>
      if rowOpen n.val f s then
        let s := match f.late, (smAt n.val s.out).scan with
          | none, some g => if rowDue g g.delivered < s.tm.run then checkLate n.val s else s
          | _, _ => s
        match composing n.val s with
        | some f => deliverRow n.val f s
        | none => s
      else s))

/-! ## Evaluation of a petal row (R49, R50, R195, R199, R216, R217) -/

/-- The counts, MARKED and CLEARED, and the end of a stall, after the last petal row of a frame (R198, R216,
R217). (DEDUCED: log entry 50) -/
def endEvaluation (n : Nat) (f : Frame) (s : State) : State :=
  let p := pGrd n
  let two := fun hi lo => BitVec.ofNat 32 (petalCount f hi * 65536 + petalCount f lo)
  let s := (((s.setReg p 0x068 (two stFresh stVacant)).setReg p 0x06C (two stPressed stWilted)).setReg p 0x070
    (two stUntimed stConcealed)).setReg p 0x074 (BitVec.ofNat 32 f.inp.no)
  let marked : Bool := 0 < petalCount f 2 + petalCount f 3 + petalCount f 4 + petalCount f 5
  let g := smAt n s.grd
  let s := if marked && !g.marked then raiseBit p 0 s else if !marked && g.marked then raiseBit p 1 s else s
  let calm := f.isNew && f.late.isNone
  let s := if calm && g.pressing then raiseBit p 3 s else s
  setGrd n (fun g => { g with marked, pressing := g.pressing && !calm }) s

/-- Whether R53 applies to row `r` of a frame. (DEDUCED: log entry 28) -/
def rowPressed (f : Frame) (r : Nat) : Bool :=
  !f.isNew || (match f.late with
    | some l => l ≤ r
    | none => false)

/-- The petals of row `r`, column by column (R198): judged from what was delivered, or pressed under R53. -/
def rowPetals (n : Nat) (f : Frame) (s : State) : List Petal :=
  (List.range (petalCols f.inp)).map fun c =>
    let i := petalIdx c f.evaluated
    let scan := scanTime f.inp f.a f.evaluated
    if rowPressed f f.evaluated then pressPetal (smGet i (smAt n s.grd).basis) scan
    else judgePetal f.inp ((smGet i f.contribs).getD []) scan

/-- The row's petals, each beside its index in the frame. -/
def indexRow (r : Nat) (row : List Petal) : List (Nat × Petal) :=
  row.zipIdx.map fun q => (petalIdx q.2 r, q.1)

/-- The petals of row `r` are judged, kept and written to the map. (DEDUCED: log entry 50) -/
def evaluateRow (n : Nat) (f : Frame) (s : State) : State :=
  let r := f.evaluated
  let row := rowPetals n f s
  let pressed := rowPressed f r
  let f := { f with evaluated := r + 1
                    petals := (indexRow r row).foldl (fun m (q : Nat × Petal) => smSet q.1 q.2 m) f.petals }
  let (wrote, s) := match f.slot with
    | some a => busWrite (grdMaster n) (a + 0x40 + 8 * r * petalCols f.inp) (row.flatMap petalBytes) s
    | none => (true, s)
  let f := if wrote then f else { f with unwritten := r :: f.unwritten }
  let s := setOut n (fun o => { o with scan := some f }) s
  let s := if pressed then s
    else setGrd n (fun g => { g with basis := (indexRow r row).foldl (fun m (q : Nat × Petal) =>
      if q.2.state = stVacant then smErase q.1 m else smInsert q.1 q.2 m) g.basis }) s
  if f.evaluated = petalRows f.inp then endEvaluation n f s else s

/-- The next petal row of the frame in scan is completed; one that is due and was not delivered is late
(R195, R196). -/
def evaluateNext (n : Nat) (s : State) : State :=
  match (smAt n s.out).scan with
  | none => s
  | some f =>
    if petalRows f.inp ≤ f.evaluated then s
    else
      let s := if f.delivered ≤ f.evaluated then checkLate n s else s
      match (smAt n s.out).scan with
      | some f => if rowPressed f f.evaluated || f.evaluated < f.delivered then evaluateRow n f s else s
      | none => s

def execPetalRowEvaluate (n : Fin 16) (s : State) : Host.Outcome State Fault Refusal :=
  .next (whenPixel s (evaluateNext n.val s))

/-- Complete the remaining petal rows of a frame whose last active line has ended. -/
def evaluateAll (n : Nat) : Nat → State → State
  | 0, s => s
  | k + 1, s => evaluateAll n k (evaluateNext n s)

/-! ## Line 0 (R197, R199, R233) -/

/-- Whether the frame is new, and whether numbers were skipped (R197). -/
def sequenceCheck (n : Nat) (f : Frame) (s : State) : Bool × Bool :=
  match f.seq with
  | none => (false, false)
  | some q =>
    if f.delivered = 0 then (false, false)
    else if !(smAt n s.grd).seen then (true, false)
    else
      let d := (q + 2 ^ 32 - (s.reg (pGrd n) 0x058).toNat) % 2 ^ 32
      if 1 ≤ d ∧ d < 2 ^ 31 then (true, decide (1 < d)) else (false, false)

/-- The slot of the petal map for a frame; PMAP_LOST when the frame does not fit (R199). -/
def takeSlot (n : Nat) (f : FrameIn) (s : State) : Option Nat × State :=
  if !f.pmEn then (none, s)
  else if f.pm4k * 4096 < 64 + 8 * petalCols f * petalRows f then (none, raiseBit (pGrd n) 8 s)
  else (some (f.pmBase + s.rf (pGrd n) 0x054 3 0 * f.pm4k * 4096), s)

/-- GRD*n* judges the frame whose line 0 begins (R197, R198). (DEDUCED: log entry 50) -/
def judgeFrame (n : Nat) (f : Frame) (s : State) : State :=
  let p := pGrd n
  let (isNew, skip) := sequenceCheck n f s
  let (slot, s) := takeSlot n f.inp s
  let f := { f with isNew, skip, slot }
  let f := if isNew then f else { f with pix := [], contribs := [] }
  let s := setOut n (fun o => { o with scan := some f }) s
  if isNew then
    let s := setGrd n (fun g => { g with seen := true, stalled := false }) s
    let s := s.setReg p 0x058 (BitVec.ofNat 32 (f.seq.getD 0))
    if skip then raiseBit p 4 (s.bump p 0x060) else s
  else beginPress n (s.bump p 0x05C)

end Sys2Proof.Machine
end

