-- ==== Sys2Proof/Machine/NgureloWork.lean ====
section
/-! DEFINITION. What a Ngurelo port receives, and the sending of a picture (R266 to R283, R300 to R302). -/

namespace Sys2Proof.Machine

/-! ## Link state (R270, R273, R301) -/

/-- A TRAIN flit in phase 4 (R271). (DEDUCED: log entry 59) -/
def trainIn (p : Nat) (f : Flit) (s : State) : State :=
  let t := smAt p s.ng
  if t.st ≠ 1 || t.phase ≠ 4 || !lanesLive s then s
  else
    let pl := f.payload
    let i : TrainInfo := { device := pf pl 0x10 2, tag := pf pl 0x12 1, port := pf pl 0x13 1, version := pf pl 0x14 1
                           buf0 := pf pl 0x15 1, buf1 := pf pl 0x16 1 }
    if i.device = ownId s then raiseBit (pNg p) 4 (trainFails p s)
    else if i.version ≠ 1 then trainFails p s
    else
      let n := if t.trainRx ≠ 0 && t.train = i then t.trainRx + 1 else 1
      ngEmit p (trainFlit p s) (setNg p (fun t => { t with train := i, trainRx := n, trainTx := t.trainTx + 1 }) s)

/-! ## Receiving (R268, R269, R272, R275) -/

/-- A sequenced flit that the link has taken: whether this device consumes it, after forwarding (R275). -/
def route (p : Nat) (f : Flit) (s : State) : Bool × State :=
  if f.orig = ownId s then
    if f.tag = ownTag s then (false, s)
    else (false, raiseBit pKib 2 (raiseBit (pNg p) 4 (s.bump (pNg p) 0x064)))
  else if dstReserved f then (false, s.bump (pNg p) 0x064)
  else
    let s := (forwardPorts p f s).foldl (fun s q => enqueue q [{ f with hops := f.hops - 1 }] s) s
    (f.dst = 0xFFFF || f.dst = ownId s, s)

/-- A flit arrives on a port; a Kibiter message goes to KIB elsewhere. (DEDUCED: log entry 59) -/
def flitIn (p : Nat) (f : Flit) (s : State) : State :=
  if f.type = 3 && f.crc = .good then trainIn p f s
  else
    let (taken, s) := linkRx p f s
    if !taken then s
    else if f.type = 2 then startReplay p s
    else if sequenced f.type then
      let (mine, s) := route p f s
      if mine then rxFlit ownBus (some p) f s else s
    else s

/-- A receive command whose flit has another of the defined types names no operation. (DESIGN CHOICE: log entry 3) -/
def flitCommand (p type : Nat) (f : Flit) (s : State) : Host.Outcome State Fault Refusal :=
  if f.type = type || !knownType f.type then .next (whenClocked s (flitIn p f s)) else .refused (.illFormed "flit TYPE")

/-- TRAIN_FLIT_RECEIVE (R271). -/
def execTrainFlitReceive (p : Fin 3) (f : Flit) (s : State) : Host.Outcome State Fault Refusal :=
  flitCommand p.val 3 f s

/-- IDLE_FLIT_RECEIVE (R268, R274). -/
def execIdleFlitReceive (p : Fin 3) (f : Flit) (s : State) : Host.Outcome State Fault Refusal :=
  flitCommand p.val 0 f s

/-- LINK_ACK_RECEIVE (R272). -/
def execLinkAckReceive (p : Fin 3) (f : Flit) (s : State) : Host.Outcome State Fault Refusal :=
  flitCommand p.val 1 f s

/-- LINK_NAK_RECEIVE (R272). -/
def execLinkNakReceive (p : Fin 3) (f : Flit) (s : State) : Host.Outcome State Fault Refusal :=
  flitCommand p.val 2 f s

/-- PIC_START_RECEIVE (R287). -/
def execPicStartReceive (p : Fin 3) (f : Flit) (s : State) : Host.Outcome State Fault Refusal :=
  flitCommand p.val 0x10 f s

/-- PIC_DATA_RECEIVE (R281). -/
def execPicDataReceive (p : Fin 3) (f : Flit) (s : State) : Host.Outcome State Fault Refusal :=
  flitCommand p.val 0x11 f s

/-- PIC_END_RECEIVE (R282). -/
def execPicEndReceive (p : Fin 3) (f : Flit) (s : State) : Host.Outcome State Fault Refusal :=
  flitCommand p.val 0x12 f s

/-! ## Sending pictures (R279) -/

/-- NG_PIC_SEND_START: a free port starts sending the NEWEST picture of a duty. -/
def execNgPicSendStart (p : Fin 3) (duty : Fin 128) (s : State) : Host.Outcome State Fault Refusal :=
  let p := p.val
  let d := duty.val
  let t := smAt d s.duty
  .next (whenClocked s (if !ngActive p s || (smAt p s.ng).tx.isSome || !dutySends d s || !t.todo.contains p then s
    else
      match newestBuf (dutyCtx d s) s with
      | none => s
      | some b =>
        let (pic, s) := picNumber d s
        let (fs, s) := pictureFlits ownBus (ngMaster p) b (dutyStream d s) (dutyClaim d s) pic s
        let s := setDuty d (fun t => { t with todo := t.todo.filter (· ≠ p) }) s
        let s := setNg p (fun t => { t with tx := some (d, b) }) (setMark b (mkHoldNg p) true s)
        enqueue p fs s))

end Sys2Proof.Machine
end

