-- ==== Sys2Proof/Machine/KibiterWork.lean ====
section
/-! DEFINITION. What a Kibiter receives, its paths' timeouts, and the commands to duties (R290 to R300, R303 to R305).
-/

namespace Sys2Proof.Machine

/-! ## Duty states (R294 to R296) -/

/-- A claim entry heard from another device (R294, R296). -/
def claimEntry (device : Nat) (e : Nat × Nat) (s : State) : State :=
  (List.range 128).foldl (fun s d =>
    let fromPartner : Bool := s.rfAt pKib 0x104 d 15 0 = device && dutyStream d s = e.1
    let s := setDuty d (fun t => { t with
      seen := smInsert e.1 (max (smRead (fun _ => 0) e.1 t.seen) e.2) t.seen, heard := t.heard || fromPartner }) s
    if dutyStream d s = e.1 && 3 ≤ dutyState d s && rankOf (dutyClaim d s) (ownId s) < rankOf e.2 device then
      dutyEvent d 1 (setRole d 1 s)
    else s) s

/-! ## Peers and paths (R293) -/

/-- The peer with an identifier, added when there is room; its place in the list. -/
def findPeer (id : Nat) (s : State) : Option Nat × State :=
  match s.kib.peers.findIdx? fun p => p.id = id with
  | some i => (some i, s)
  | none =>
    if s.kib.peers.length < 64 then
      (some s.kib.peers.length, setKib (fun k => { k with peers := k.peers ++ [{ id }] }) s)
    else (none, raiseBit pKib 3 s)

/-- A path of a peer is no longer alive: counted, and told to every duty that names the peer.
(DEDUCED: log entry 62) -/
def pathLost (i path : Nat) (s : State) : State :=
  let p := peerAt i s
  if !p.alive.contains path then s
  else
    let s := setPeer i (fun p => { p with alive := p.alive.filter (· ≠ path), miss := min (p.miss + 1) 0xFFFFFFFF }) s
    ((List.range 128).filter fun d => s.rfAt pKib 0x104 d 15 0 = p.id).foldl
      (fun s d => dutyEvent d 3 s) s

def pathNo : KibPath → Nat
  | .ng => 0
  | .net => 1
  | .tether => 2

/-- A message of R290 as received. -/
structure KibMsg where
  msgType : Nat
  version : Nat
  device : Nat
  state : Nat
  hbSeq : Nat
  tag : Nat
  entries : List (Nat × Nat)
  deriving DecidableEq, Repr

/-- What bytes say, padding after them left out; none when LEN or CHECK is wrong (R290). (DEDUCED: log entry 62) -/
def parseKib (b : List Byte) : Option KibMsg :=
  let at_ := fun off n => leNat ((b.drop off).take n)
  let len := at_ 2 2
  let n := at_ 0x0F 1
  if 32 < n || len ≠ 24 + 4 * n || b.length < len
      || at_ (len - 4) 4 ≠ (crc32c (b.take (len - 4))).toNat then none
  else some {
    msgType := at_ 0 1, version := at_ 1 1, device := at_ 4 2, state := at_ 6 1, hbSeq := at_ 8 4, tag := at_ 0x10 1
    entries := (List.range n).map fun i => (at_ (0x14 + 4 * i) 2, at_ (0x16 + 4 * i) 2) }

/-- A good message of another device. Claim entries act before paths are judged (R305). (DEDUCED: log entry 62) -/
def peerMessage (path : Nat) (m : KibMsg) (s : State) : State :=
  match findPeer m.device s with
  | (none, s) => s
  | (some i, s) =>
    let st := if m.state = 1 ∨ m.state = 2 then m.state else 3
    let s := setPeer i (fun p => { p with state := st, seq := m.hbSeq }) s
    let s := m.entries.foldl (fun s e => claimEntry m.device e s) s
    let s :=
      if m.msgType = 2 then s
      else if st = 3 then pathLost i path (setPeer i (fun p => { p with heard := smInsert path s.clk p.heard }) s)
      else setPeer i (fun p => { p with
        heard := smInsert path s.clk p.heard
        alive := if p.alive.contains path then p.alive else p.alive ++ [path] }) s
    evalDuties ownBus s

/-- A message is discarded and counted (R290, R303). -/
def kibDiscard (s : State) : State := setKib (fun k => { k with bad := min (k.bad + 1) 0xFFFFFFFF }) s

/-- A message that reaches KIB on a path (R290, R293): one whose LEN or CHECK is wrong, or of a reserved type or version, is
discarded. (DEDUCED: log entry 62) -/
def kibMessage (path : Nat) (b : List Byte) (s : State) : State :=
  if !s.enabled pKib then s
  else
    match parseKib b with
    | none => kibDiscard s
    | some m =>
      if m.version ≠ 1 || (m.msgType ≠ 1 && m.msgType ≠ 2) then kibDiscard s
      else if m.device = ownId s then (if m.tag = ownTag s then s else raiseBit pKib 2 s)
      else peerMessage path m s

/-- A Kibiter flit on a port: the link, forwarding, and KIB where this device consumes it (R272, R275). -/
def kibFlit (p : Nat) (f : Flit) (s : State) : State :=
  let (taken, s) := linkRx p f s
  if !taken then s
  else
    let (mine, s) := route p f s
    if mine then kibMessage 0 f.payload s else s

/-- A Kibiter message arrives. A KIBITER flit is meant where the row names a port. (DESIGN CHOICE: log entry 3) -/
def kibArrive (a : KibArrival) (s : State) : State :=
  match a with
  | .ng p f => kibFlit p.val { f with type := 0x20 } s
  | .net b => kibMessage 1 b s
  | .tether b => kibMessage 2 b s

/-- HEARTBEAT_RECEIVE (R293). -/
def execHeartbeatReceive (a : KibArrival) (s : State) : Host.Outcome State Fault Refusal := .next (whenClocked s (kibArrive a s))

/-- CLAIM_NOTICE_RECEIVE (R296). -/
def execClaimNoticeReceive (a : KibArrival) (s : State) : Host.Outcome State Fault Refusal := .next (whenClocked s (kibArrive a s))

/-- KIB_PATH_TIMEOUT: TIMEOUT_US without a heartbeat of a peer on a path. -/
def execKibPathTimeout (peer : Fin 64) (path : KibPath) (s : State) : Host.Outcome State Fault Refusal :=
  let p := peerAt peer.val s
  let k := pathNo path
  .next (whenClocked s (if p.alive.contains k
      && (smRead (fun _ => 0) k p.heard) + s.rf pKib 0x044 31 16 * 500 ≤ s.clk then
    evalDuties ownBus (pathLost peer.val k s)
  else s))

/-! ## The page (R297, R298, R300, R303, R304) -/

/-- A command through KIB_DUTY_CMD, on the duty that the master has selected (R297). -/
def dutyCmd (m : Master) (cmd : Nat) (s : State) : State := kibWrite ownBus m 0x10C (BitVec.ofNat 32 cmd) s

/-- DUTY_TAKE (R297). -/
def execDutyTake (m : Master) (s : State) : Host.Outcome State Fault Refusal :=
  .next (issue m .write pKib 0x10C (dutyCmd m 1) s)

/-- DUTY_YIELD (R297). -/
def execDutyYield (m : Master) (s : State) : Host.Outcome State Fault Refusal :=
  .next (issue m .write pKib 0x10C (dutyCmd m 2) s)

/-- DUTY_FORCE (R297). -/
def execDutyForce (m : Master) (s : State) : Host.Outcome State Fault Refusal :=
  .next (issue m .write pKib 0x10C (dutyCmd m 3) s)

/-- DUTY_UNFORCE (R297). -/
def execDutyUnforce (m : Master) (s : State) : Host.Outcome State Fault Refusal :=
  .next (issue m .write pKib 0x10C (dutyCmd m 4) s)

/-- DUTY_ROLE_WRITE (R298). -/
def execDutyRoleWrite (m : Master) (v : Word) (s : State) : Host.Outcome State Fault Refusal :=
  .next (issue m .write pKib 0x108 (kibWrite ownBus m 0x108 v) s)

end Sys2Proof.Machine
end

