-- ==== Sys2Proof/Machine/MirrorWork.lean ====
section
/-! DEFINITION. Mirror channels at work: their engines' pace, the packets and reports they send, and their enable
(R248 to R265). -/

namespace Sys2Proof.Machine

/-! ## Channel states (R251, R265) -/

/-- A stop (R251). -/
def encStop (c cause : Nat) (s : State) : State :=
  let s := encEnd c (s.setFld pEnc (encOff c 0) 0 0 0)
  raiseBit pEnc (8 + c) (setEnc c (fun t => { t with stopped := some cause }) s)

/-- OUT*n* has been released: channels whose rate or size no longer holds stop (R251). -/
def encRelease (n : Nat) (s : State) : State :=
  (channelsOf n s).foldl (fun s c =>
    let held := ((placedOf (.enc c) s).map (·.rate)).getD 0
    let t := smAt c s.enc
    if held < encRate c s then encStop c 1 s
    else if croppedSize c s ≠ (t.w, t.h) then encStop c 2 s
    else s) s

/-- OUT*n* is RUNNING (R251). -/
def encOutRunning (n : Nat) (s : State) : State := (channelsOf n s).foldl (fun s c => encEnter c s) s

/-! ## Sending (R254, R260 to R262) -/

/-- The 2 ns clocks that bytes take at twice KBPS. -/
def paceClocks (kbps bytes : Nat) : Nat :=
  if kbps = 0 then 0 else bytes * 8 * 250000 / kbps

/-- Send a packet of a channel on the header template: on both ports or on ETA. (DEDUCED: log entry 57) -/
def encSend (c portUp : Nat) (packet : List Byte) (s : State) : State :=
  let cfg := encReg c 0x28 s
  let (_, tmpl, s) := busRead .enc (s.pair pEnc (encOff c 0x20)) (fld cfg 6 0) s
  let (id, s) := if bit cfg 15 then (0, s) else s.takeFree
  let frame := fillHeader (bit cfg 15) (id.toNat % 65536) portUp tmpl packet ++ packet
  if bit cfg 14 then (sendPrp .enc frame s).2 else (sendOn .enc 0 frame s).2

/-- Whether the channel's packets are protected, and under which keys; `none`: its slot is EMPTY or the keys are
not derived yet (R262, R420). -/
def encKeys (c : Nat) (s : State) : Option (Option (List (List Byte))) :=
  if bit (encReg c 0x30 s) 0 then (sessionKeys (128 + c) s).map some else some none

/-- A packet, its head in clear: protected under the channel's keys, if it has any. An SRTCP packet ends with the E flag
and its index (R262). (DEDUCED: log entry 57) -/
def encProtect (c index : Nat) (rtcp : Bool) (keys : Option (List (List Byte))) (head plain : List Byte) (s : State) :
    List Byte :=
  match keys with
  | none => head ++ plain
  | some k =>
    head ++ srtpSeal k (encFld c 0x30 2 1 s) index rtcp head plain
      ++ (if rtcp then beBytes 4 (2 ^ 31 + index % 2 ^ 31) else [])

def rtpHeader (c : Nat) (seq : Nat) (q : EncPkt) (s : State) : List Byte :=
  [0x80, BitVec.ofNat 8 (b2n q.marker * 128 + encFld c 0x28 13 7 s)] ++ beBytes 2 seq ++ beBytes 4 q.ts
    ++ beBytes 4 (encReg c 0x2C s).toNat

/-- One RTP packet leaves. -/
def encSendRtp (c : Nat) (q : EncPkt) (rest : List EncPkt) (keys : Option (List (List Byte))) (s : State) :
    State :=
  let t := smAt c s.enc
  let packet := encProtect c t.sent false keys (rtpHeader c t.seq q s) q.payload s
  let bits := t.kbit + 8 * packet.length
  let s := setEnc c (fun t => { t with
    packets := rest, seq := (t.seq + 1) % 65536, sent := t.sent + 1, octets := t.octets + q.payload.length
    paceClk := max t.paceClk s.clk + paceClocks q.kbps packet.length, kbit := bits % 1000 }) s
  let s := (s.bumpAt pEnc (encOff c 0x40) 0 (bits / 1000)).bump pEnc (encOff c 0x50)
  let s := if q.marker && q.idr then s.bump pEnc (encOff c 0x54) else s
  encSend c 0 packet s

/-- ENC_PACKET_SEND (R260). A channel whose slot is EMPTY sends nothing (R420). -/
def execEncPacketSend (c : Fin 4) (s : State) : Host.Outcome State Fault Refusal :=
  let c := c.val
  let t := smAt c s.enc
  .next (whenPixel s (match t.packets with
    | [] => s
    | q :: rest =>
      if !encOn c s || !s.enabled pEnc || s.clk < t.paceClk then s
      else
        match encKeys c s with
        | some keys => encSendRtp c q rest keys s
        | none =>
          if (smGet (encFld c 0x30 15 8 s) s.key.slots).isSome then s
          else setEnc c (fun t => { t with packets := rest }) s))

/-- The sender report of a channel at this instant (R261). (DEDUCED: log entry 57) -/
def senderReport (c : Nat) (s : State) : List Byte :=
  let t := smAt c s.enc
  let n := NTime.ofT16 s.t16
  let frac := (n.ns * 65536 + n.frac) * 65536 / 1000000000
  [0x80, 200, 0, 6] ++ beBytes 4 (encReg c 0x2C s).toNat ++ beBytes 4 (n.sec + 2208988800) ++ beBytes 4 frac
    ++ beBytes 4 (s.t16 * 90000 / 65536 / 1000000000) ++ beBytes 4 t.sent ++ beBytes 4 t.octets

/-- ENC_SENDER_REPORT: SR_MS has passed since the last one (R261, R262). -/
def execEncSenderReport (c : Fin 4) (s : State) : Host.Outcome State Fault Refusal :=
  let c := c.val
  let t := smAt c s.enc
  let ms := s.rf pEnc 0x040 15 0
  .next (whenPixel s (if ms = 0 || encState c s ≠ 2 || !s.enabled pEnc
      || s.clk < t.srClk + ms * 500000 then s
    else
      match encKeys c s with
      | none => s
      | some keys =>
        let report := senderReport c s
        let packet := encProtect c t.srNo true keys (report.take 8) (report.drop 8) s
        encSend c 1 packet (setEnc c (fun t => { t with srClk := s.clk, srNo := t.srNo + 1 }) s)))

/-! ## Registers (R263, R264) -/

/-- ENC_CH_ENABLE: a write of ENC_CH*c*_CTRL with EN = 1 (R250). -/
def execEncChEnable (m : Master) (c : Fin 4) (ctrl : Word) (s : State) : Host.Outcome State Fault Refusal :=
  .next (issue m .write pEnc (encOff c.val 0) (encWrite ownBus m (encOff c.val 0) (ctrl ||| 1)) s)

/-- ENC_CH_DISABLE: a write with EN = 0 (R265). -/
def execEncChDisable (m : Master) (c : Fin 4) (ctrl : Word) (s : State) : Host.Outcome State Fault Refusal :=
  .next (issue m .write pEnc (encOff c.val 0) (encWrite ownBus m (encOff c.val 0) (ctrl &&& ~~~ 1#32)) s)

/-- ENC_FORCE_IDR: a write with FORCE_IDR = 1, EN as it is (R252). -/
def execEncForceIdr (m : Master) (c : Fin 4) (s : State) : Host.Outcome State Fault Refusal :=
  .next (issue m .write pEnc (encOff c.val 0)
    (fun s => encWrite ownBus m (encOff c.val 0) ((s.reg pEnc (encOff c.val 0) &&& 1) ||| 2) s) s)

end Sys2Proof.Machine
end

