-- ==== Sys2Proof/Machine/PciWork.lean ====
section
/-! DEFINITION. The fetch of a command of a queue pair (R456, R458). -/

namespace Sys2Proof.Machine

/-! ## Fields of a queue pair (R463) -/

def sqDoorbell (q : Nat) (s : State) : Nat := s.rfAt pPci 0x0A8 q 15 0

/-! ## What the host and the link do (R454 to R457, R460 to R462) -/

/-- What the host's memory returns for a command is 64 bytes, or an error (R456). -/
def commandFormed : HostRead → Bool
  | .error => true
  | .data d => d.length = 64

/-- A command may be fetched: the queue pair runs, the link and the function serve it, the submission queue
holds one and the local ring has room (R456). -/
def fetchDue (q : Nat) (s : State) : Bool :=
  let n := sqEntries q s
  s.enabled pPci && qpEn q s && linkLive s && !s.pci.d3 && (qp q s).fetch % n ≠ sqDoorbell q s % n
    && (lsqTail q s + 1) % n ≠ lsqHead q s % n

/-- A command is read from the host at QP_HSQ and stored in the local ring; an error stops the queue pair (R456).
(DEDUCED: log entry 85) -/
def pciFetch (q : Nat) (r : HostRead) (s : State) : State :=
  let n := sqEntries q s
  let s := s.emit (.hostRead (s.pairAt pPci 0x080 q + 64 * ((qp q s).fetch % n)) 64)
  let tail := lsqTail q s
  match r with
  | .error => raiseBit pPci 17 ((s.setFldAt pPci 0x098 q 31 31 0).bump pPci 0x0D0)
  | .data d =>
    let s := linkWake s
    let s := (ownBus.writeAs .pci false (s.pairAt pPci 0x090 q + 64 * (tail % n)) d s).2
    let s := setQp q (fun t => { t with fetch := (t.fetch + 1) % n }) s
    raiseBit pPci q (s.setRegAt pPci 0x0A0 q (BitVec.ofNat 32 ((tail + 1) % n)))

/-- PCI_CMD_FETCH: the answer of the host to the read of the next command of a queue pair (R456).
(DESIGN CHOICE, DEDUCED: log entries 3, 85) -/
def execPciCmdFetch (q : Fin 16) (r : HostRead) (s : State) : Host.Outcome State Fault Refusal :=
  if !commandFormed r then .refused (.illFormed "a command has 64 bytes")
  else .next (whenClocked s (if fetchDue q.val s then pciFetch q.val r s else s))

end Sys2Proof.Machine
end

