-- ==== Sys2Proof/Machine/IngestWork.lean ====
section
/-! DEFINITION. RTP packets and sender reports of a source context: matching, SRTP, payload structures, what a jitter
buffer keeps (R110 to R115). -/

namespace Sys2Proof.Machine

/-! ## Matching (R108, R110) -/

/-- The enabled IP contexts whose address entry and RTP port, or RTCP port, a datagram bears. -/
def flowOf (rtcp : Bool) (vlan : Option Nat) (d : Udp) (s : State) : List Nat :=
  (List.range 128).filter fun c =>
    let r := s.regAt pSrc 0x104 c
    ctxOn c s && ctxKind c s = kindIp && addrMatch (fld r 31 28) vlan d s
      && d.port = (if rtcp && !bit r 17 then fld r 15 0 + 1 else fld r 15 0)

/-- The SSRC of a context: set, or learned. -/
def ctxSsrc (c : Nat) (s : State) : Option Nat :=
  if s.rfAt pSrc 0x104 c 16 16 = 1 then some (s.regAt pSrc 0x108 c).toNat else (smAt c s.ctx).learned

/-- A packet belongs to a context of its flow (R110). (DEDUCED: log entry 38) -/
def belongs (p : RtpPacket) (s : State) (c : Nat) : Bool :=
  p.version = 2 && p.pt = s.rfAt pSrc 0x104 c 26 20
    && (match ctxSsrc c s with
      | some n => decide (n = p.ssrc)
      | none => true)

/-! ## SRTP (R113) -/

/-- The index of a packet under the rollover estimate of RFC 3711. -/
def srtpIndex (t : Replay) (seq : Nat) : Nat :=
  match t.top with
  | none => seq
  | some top =>
    let roc := top / 65536
    let sl := top % 65536
    let v :=
      if sl < 32768 then (if 32768 < seq - sl then (roc + 2 ^ 32 - 1) % 2 ^ 32 else roc)
      else if seq < sl - 32768 then (roc + 1) % 2 ^ 32 else roc
    v * 65536 + seq

/-- Whether an index is new within the window of 128. -/
def replayOk (t : Replay) (i : Nat) : Bool :=
  match t.top with
  | none => true
  | some top => top < i + 128 && !t.seen.contains i

/-- An index has been accepted. -/
def replayAdd (t : Replay) (i : Nat) : Replay :=
  let top := max i (t.top.getD 0)
  { top := some top, seen := (i :: t.seen).filter fun x => top < x + 128 }

def srtpFail (c : Nat) (s : State) : State := ctxEvent c evSrtpFail (count c stAuth s)

/-- A structure or packet is refused (R111, R113). (DEDUCED: log entry 38) -/
def refusedPacket (c : Nat) (s : State) : State := ctxEvent c evUnsupported (count c stUnsup s)

/-- What opening gives under the session keys of a context (R113). -/
def srtpOpened (c index : Nat) (rtcp : Bool) (head body : List Byte) (s : State) : Option (List Byte) :=
  match sessionKeys c s with
  | none => none
  | some k => srtpOpen k (s.rfAt pSrc 0x11C c 2 1) index rtcp head body

/-- SRTP of a packet that belongs to a context: its payload with padding, none when it is discarded.
(DEDUCED: log entry 38) -/
def srtpPass (c : Nat) (p : RtpPacket) (s : State) : Option (List Byte) × State :=
  if bit (s.regAt pSrc 0x11C c) 0 then
    let t := (smAt c s.ctx).srtp
    let i := srtpIndex t p.seq
    let plain := if p.secured && replayOk t i then srtpOpened c i false p.head p.body s else none
    (plain, if plain.isSome then setCtx c (fun x => { x with srtp := replayAdd t i }) s else srtpFail c s)
  else if p.secured then (none, refusedPacket c s)
  else (some p.body, s)

/-! ## Payload structures (R111) -/

/-- How a payload is fragmented (0 not, 1 first, 2 later); none when its structure is not supported.
(DEDUCED: log entry 40) -/
def payloadKind (h265 donl : Bool) (b : List Byte) : Option Nat :=
  if donl then none
  else if h265 then
    let t := octet b 0 / 2 % 64
    if b.length < 2 then none
    else if t ≤ 48 then some 0
    else if t = 49 && 3 ≤ b.length then some (if 128 ≤ octet b 2 then 1 else 2)
    else none
  else
    let t := octet b 0 % 32
    if b.isEmpty then none
    else if (1 ≤ t && t ≤ 23) || t = 24 then some 0
    else if t = 28 && 2 ≤ b.length then some (if 128 ≤ octet b 1 then 1 else 2)
    else none

/-! ## The jitter buffer (R112) -/

/-- The extended sequence number nearest to the highest one seen. -/
def extSeq (top : Option Nat) (seq : Nat) : Nat :=
  match top with
  | none => 65536 + seq
  | some t =>
    let base := t / 65536 * 65536 + seq
    if base + 32768 < t then base + 65536 else if t + 32768 < base then base - 65536 else base

def insertPkt (p : JbPkt) : List JbPkt → List JbPkt
  | [] => [p]
  | q :: qs => if p.ext < q.ext then p :: q :: qs else q :: insertPkt p qs

/-- SRC_JB_CFG.SIZE in bytes. -/
def jbSize (c : Nat) (s : State) : Nat := s.rfAt pSrc 0x118 c 31 20 * 65536

def heldBytes (t : CtxSt) : Nat := t.jb.foldl (fun a p => a + p.payload.length) 0

/-- Discard the oldest access units until the packets fit, the one that has just arrived among them.
(DEDUCED: log entry 40) -/
def makeRoom (c : Nat) : Nat → State → State
  | 0, s => s
  | n + 1, s =>
    let t := smAt c s.ctx
    if heldBytes t ≤ jbSize c s then s
    else makeRoom c n (count c stAuDrop (ctxEvent c evJbOverflow (takeHead c (headUnit t.jb) true s)))

/-- A packet is written somewhere into the jitter buffer at SRC_JB_BASE: R112 gives the buffer no layout.
(DESIGN CHOICE: log entry 101) -/
def jbStore (c : Nat) (b : List Byte) (s : State) : State :=
  let (w, s) := s.takeFree
  (busWrite .ing (s.pairAt pSrc 0x110 c + w.toNat % (jbSize c s - b.length + 1)) b s).2

/-- What becomes of a packet that reaches the jitter buffer (R112). -/
inductive JbFate where
  | dup | late | gone | tooBig | kept
  deriving DecidableEq, Repr

/-- The access unit of a timestamp has left before this packet of it: whether it was discarded. -/
def leftUnit (t : CtxSt) (ext ts : Nat) : Option Bool :=
  match t.jbLeft with
  | some (ts', dropped, unended) =>
    if ts = ts' && (unended || t.jbNext.any fun n => ext < n) then some dropped else none
  | none => none

/-- Second copy; of an access unit already released or older than the window; of one discarded; larger than the
buffer; or kept (R112). (DEDUCED: log entry 40) -/
def jbFate (c ext ts size : Nat) (s : State) : JbFate :=
  let t := smAt c s.ctx
  let old : Bool := t.jbTop.any fun top => ext + 1024 ≤ top
  let before : Bool := t.jbNext.any fun n => ext < n
  if t.jb.any fun q => q.ext = ext then .dup
  else if leftUnit t ext ts = some true then .gone
  else if old || before || leftUnit t ext ts = some false then .late
  else if jbSize c s < size then .tooBig
  else .kept

/-- A later packet of the access unit that has left moves the unit's end, from which the next one is counted
(R112). (DEDUCED: log entry 40) -/
def jbPassed (c ext : Nat) (p : RtpPacket) (s : State) : State :=
  let t := smAt c s.ctx
  if (leftUnit t ext p.ts).isNone || t.jbNext.any fun n => ext < n then s
  else releaseAll c (setCtx c (fun t => { t with
    jbNext := some (ext + 1), jbTop := some (max ext (t.jbTop.getD 0))
    jbLeft := t.jbLeft.map fun l => (l.1, l.2.1, !p.marker) }) s)

/-- A packet reaches the jitter buffer (R112). One whose own access unit must make room goes with it.
(DEDUCED: log entry 40) -/
def jbArrive (c : Nat) (p : RtpPacket) (payload : List Byte) (frag : Nat) (s : State) : State :=
  let ext := extSeq (smAt c s.ctx).jbTop p.seq
  match jbFate c ext p.ts payload.length s with
  | .dup => count c stDup s
  | .late => count c stLate (jbPassed c ext p s)
  | .gone => jbPassed c ext p s
  | .tooBig => s
  | .kept =>
    let pkt : JbPkt := { ext, ts := p.ts, marker := p.marker, payload, frag, clk := s.clk }
    let s := setCtx c (fun t => { t with
      jb := insertPkt pkt t.jb, jbTop := some (max ext (t.jbTop.getD 0)) }) s
    let s := makeRoom c (smAt c s.ctx).jb.length s
    releaseAll c (if (smAt c s.ctx).jb.any fun q => q.ext = ext then jbStore c payload s else s)

/-! ## RTP packets (R110 to R113) -/

/-- A packet counts in ST_PKTS and ST_KBYTES (R124). -/
def countPacket (c len : Nat) (s : State) : State :=
  let n := (smAt c s.ctx).kib + len
  setCtx c (fun t => { t with kib := n % 1024 }) ((count c stPkts s).bumpAt pSrc stKbytes c (n / 1024))

/-- A packet of a context (R110 to R113). (DEDUCED, DESIGN CHOICE: log entries 38, 106) -/
def rtpPacket (c : Nat) (p : RtpPacket) (s : State) : State :=
  let s :=
    if s.rfAt pSrc 0x104 c 16 16 = 0 && (smAt c s.ctx).learned.isNone then
      setCtx c (fun t => { t with learned := some p.ssrc }) s
    else s
  let s := s.setFldAt pSrc 0x138 c 8 8 1
  match srtpPass c p s with
  | (none, s) => s
  | (some padded, s) =>
    let payload := unpad p.padded padded
    let s := ctxInput c (countPacket c (payload.getD []).length s)
    match payload.bind fun b => (payloadKind (ctxH265 c s) p.donl b).map fun k => (b, k) with
    | none => refusedPacket c s
    | some (b, k) => jbArrive c p b k s

/-! ## Sender reports (R114) -/

/-- S of a sender report in units of 2⁻¹⁶ ns, the era taken nearest to the receive time. -/
def srTime (r : SenderReport) (trx : Nat) : Int :=
  let base : Int := Int.ofNat r.ntpSec - 2208988800
  let rx : Int := Int.ofNat (trx / 65536 / 1000000000)
  let era := Int.fdiv (rx - base + 2 ^ 31) (2 ^ 32)
  (base + era * 2 ^ 32) * 1000000000 * 65536 + Int.ofNat (r.ntpFrac * 1000000000 * 65536 / 2 ^ 32)

def srReject (c st : Nat) (s : State) : State := ctxEvent c evSrReject (count c st s)

/-- Sender reports matter to a context (R114, R116). (DEDUCED: log entry 41) -/
def usesReports (c : Nat) (s : State) : Bool := bit (ctxCfg c s) 31 && !bit (ctxCfg c s) 30

/-- SRTCP of an RTCP packet of a context: the packet in the clear, none when it is discarded (R113).
(DEDUCED: log entry 41) -/
def srtcpPass (c : Nat) (d : List Byte) (secured : Bool) (s : State) : Option (List Byte) × State :=
  if bit (s.regAt pSrc 0x11C c) 0 then
    let t := (smAt c s.ctx).srtcp
    let (e, index, head, body) := srtcpParts d
    let plain := if secured && e && 12 ≤ d.length && replayOk t index then srtpOpened c index true head body s
      else none
    match plain with
    | some b => (some (head ++ b), setCtx c (fun x => { x with srtcp := replayAdd t index }) s)
    | none => (none, srtpFail c s)
  else if secured then (none, refusedPacket c s)
  else (some d, s)

/-- A sender report of a context that uses it; whether it is accepted (R114). (DEDUCED: log entry 41) -/
def reportArrive (c : Nat) (r : SenderReport) (rx : Stamp) (s : State) : Bool × State :=
  let t := srTime r rx.t
  let tol := fld (ctxCfg c s) 26 16 * 1000000 * 65536
  if t < 0 || tol < (t - Int.ofNat rx.t).natAbs || !rx.traceable then (false, srReject c stUnsup s)
  else
    let new : SrRec := { s := t.toNat, rtp := r.rtp, trx := rx.t, epoch := s.tm.epoch }
    (true, srEdge c (setCtx c (fun x => { x with sr := some new }) (count c stSr s)))

/-- What becomes of an RTCP packet of a flow: discarded, or written to the ring with SR_USED. -/
inductive RtcpFate where
  | discarded | ring (used : Bool)
  deriving DecidableEq, Repr

/-- An RTCP packet of a flow (R113, R114, R116): the context with its SSRC opens it; a sender report of no SSRC of
the flow is rejected by the lowest context that uses reports. (DEDUCED: log entry 41) -/
def rtcpArrive (cs : List Nat) (d : List Byte) (secured : Bool) (rx : Stamp) (s : State) : RtcpFate × State :=
  match cs.find? fun c => ctxSsrc c s = some (beAt d 4 4) with
  | none =>
    match cs.find? fun c => usesReports c s with
    | some c => (.ring false, if octet d 1 = 200 then srReject c stUnsup s else s)
    | none => (.ring false, s)
  | some c =>
    let isSr : Bool := octet d 1 = 200 && usesReports c s
    match srtcpPass c d secured s with
    | (none, s) => (.discarded, if isSr then ctxEvent c evSrReject s else s)
    | (some plain, s) =>
      match if isSr then senderReportOf plain else none with
      | none => (.ring false, s)
      | some r =>
        let (used, s) := reportArrive c r rx s
        (.ring used, s)

end Sys2Proof.Machine
end

