-- ==== Sys2Proof/Machine/PortsWork.lean ====
section
/-! DEFINITION. Ethernet at work: reception with duplicate discard, receive and transmit rings, those of MGE too (R84,
R85, R106 to R109, R465). -/

namespace Sys2Proof.Machine

def portMaster : EthPort → Master
  | .eta => .eth 0
  | .etb => .eth 1
  | .mge => .mge

/-! ## Rings (R106, R107) -/

/-- A received frame lost for want of a ring entry is counted (R106, R465). -/
def ringLost (port : EthPort) (s : State) : State :=
  match port with
  | .mge => s.bump pMge 0x094
  | _ => s.bump pIng 0x04C

/-- Write a received frame and its descriptor into a ring; whether it found room.
(DEDUCED, DESIGN CHOICE: log entries 42, 106) -/
def ringPut (port : EthPort) (bytes : List Byte) (flags seq : Nat) (stamp : Stamp) (s : State) :
    Bool × State :=
  let page := portPage port
  let m := portMaster port
  let size := s.rf page 0x058 3 0
  let n := 2 ^ size
  let head := (s.reg page 0x05C).toNat
  if size = 0 || (head + 1) % n = (s.reg page 0x060).toNat % n then (false, ringLost port s)
  else
    let a := s.pair page 0x050 + 32 * head
    let (_, buf, s) := busNat m a 8 s
    let s := (busWrite m buf bytes s).2
    let d := leBytes 2 bytes.length ++ leBytes 2 (0x8000 + flags) ++ leBytes 2 seq ++ leBytes 2 0
      ++ stampBytes stamp
    let s := (busWrite m (a + 8) d s).2
    (true, s.setReg page 0x05C (BitVec.ofNat 32 ((head + 1) % n)))

/-! ## Duplicate discard (R84, R108) -/

/-- Source MAC address of a frame. -/
def srcMacOf (bs : List Byte) : Nat := beAt bs 6 6

/-- What ING makes of a datagram (R110, R114): RTP or RTCP of the flows it bears, or nothing. -/
inductive Flow where
  | none | rtp (cs : List Nat) | rtcp (cs : List Nat)
  deriving DecidableEq, Repr

/-- The flows of a datagram; RTCP on a shared port is told by its packet type (R102, R110). (DEDUCED: log entry 38) -/
def flowsOf (vlan : Option Nat) (d : Udp) (s : State) : Flow :=
  let rtcp := if isRtcp d.payload then flowOf true vlan d s else []
  if !rtcp.isEmpty then .rtcp rtcp
  else
    match flowOf false vlan d s with
    | [] => .none
    | cs => .rtp cs

/-- The context that would consume a frame, for the count of a duplicate. (DEDUCED: log entry 39) -/
def consumer (f : EthFrame) (bs : List Byte) (s : State) : Option Nat :=
  match udpOf bs with
  | none => none
  | some d =>
    match flowsOf (vlanOf bs) d s with
    | .none => none
    | .rtp cs => (rtpOf f d.payload).bind fun p => cs.find? (belongs p s)
    | .rtcp cs => cs.find? fun c => usesReports c s && octet d.payload 1 = 200
        && ctxSsrc c s = some (beAt d.payload 4 4)

/-- A second copy has been discarded: it counts for the context that its frame would reach, else on the ING page; a
context that takes no input refuses it (R108, R488). (DEDUCED: log entry 39) -/
def countDuplicate (port : Fin 2) (f : EthFrame) (s : State) : State :=
  match consumer f (stripRct f.bytes) s with
  | none => s.bump pIng 0x044
  | some c => if srcClosed s then srcRefused (ethMaster port.val) s else count c stDup s

/-- Duplicate discard: whether the frame passes. A frame whose LanId names the other LAN passes (R108).
(DEDUCED: log entry 39) -/
def prpPass (port : Fin 2) (f : EthFrame) (s : State) : Bool × State :=
  match rctOf f.bytes with
  | none => (true, s)
  | some r =>
    if r.lanB ≠ decide (port.val = 1) then (true, s.bump pIng 0x048)
    else if (ptpOf (stripRct f.bytes)).isSome || !s.rb pIng 0x040 0 then (true, s)
    else
      let live := s.net.prp.filter (prpLives s)
      let s := { s with net := { s.net with prp := live } }
      if live.any fun e => e.mac = srcMacOf f.bytes && e.seq = r.seq then (false, countDuplicate port f s)
      else if 4096 ≤ live.length then (true, s)
      else
        (true, { s with net := { s.net with
          prp := s.net.prp ++ [{ mac := srcMacOf f.bytes, seq := r.seq, clk := s.clk }] } })

/-! ## Reception (R85, R106, R108, R291, R488) -/

/-- A frame bears the destination, EtherType and VLAN of the NET path (R291). -/
def kibBound (bs : List Byte) (s : State) : Bool :=
  let mac := s.rf 134 0x058 15 0 * 2 ^ 32 + (s.reg 134 0x054).toNat
  let cfg := s.reg 134 0x05C
  s.enabled 134 && beAt bs 0 6 = mac && etypeOf bs = fld cfg 31 16
    && vlanOf bs = (if bit cfg 12 then some (fld cfg 11 0) else none)

/-- The flags and the sequence number of a receive descriptor (R107): LAN_B is the LanId of a trailer.
(DESIGN CHOICE: log entry 106) -/
def rxFlags (port : Fin 2) (r : Option Rct) (srUsed : Bool) : Nat × Nat :=
  match r with
  | some r =>
    (0x4000 + b2n r.lanB * 0x2000 + b2n (r.lanB ≠ decide (port.val = 1)) * 0x1000 + b2n srUsed * 0x800, r.seq)
  | none => (b2n srUsed * 0x800, 0)

/-- A frame goes to the receive ring of its port, without its trailer. (DEDUCED: log entry 42) -/
def toRing (port : Fin 2) (bytes : List Byte) (rx : Stamp) (srUsed : Bool) (s : State) : State :=
  let (flags, seq) := rxFlags port (rctOf bytes) srUsed
  (ringPut (ethPort port.val) (stripRct bytes) flags seq rx s).2

/-- An RTP packet of some flows: to the lowest context it belongs to (R110). (DESIGN CHOICE: log entry 106) -/
def rtpArrive (cs : List Nat) (p : Option RtpPacket) (s : State) : State :=
  match p.bind fun q => (cs.find? (belongs q s)).map fun c => (c, q) with
  | some (c, q) => rtpPacket c q s
  | none => count (cs.headD 0) stUnsup s

/-- A frame that duplicate discard has passed reaches its consumer. (DEDUCED: log entries 38, 42) -/
def consumeFrame (port : Fin 2) (f : EthFrame) (rx : Stamp) (s : State) : State :=
  let bs := stripRct f.bytes
  let ring := fun used s => toRing port f.bytes rx used s
  if kibBound bs s then kibMessage 1 (bs.drop (ethHeader bs)) s
  else
    match udpOf bs with
    | none => ring false s
    | some d =>
      match flowsOf (vlanOf bs) d s with
      | .none => ring false s
      | .rtp cs => if srcClosed s then srcRefused .ing s else rtpArrive cs (rtpOf f d.payload) s
      | .rtcp cs =>
        if srcClosed s && octet d.payload 1 = 200 then srcRefused .ing s
        else if srcClosed s then ring false s
        else
          match rtcpArrive cs d.payload f.secured rx s with
          | (.discarded, s) => s
          | (.ring used, s) => ring used s

/-- The receive timestamp of a frame (R85). (DESIGN CHOICE: log entry 32) -/
def rxStamp (port : Fin 2) (s : State) : Stamp × State :=
  let (p, s) := takeStamp s
  ({ p with t := p.t - s.rf pPtp (0x08C + 8 * port.val) 19 0 * 4096 }, s)

/-- ETH_FRAME_RECEIVE (R85, R106, R108). A Sync opens its window in the clock of its own receive timestamp (R72, R78). -/
def execEthFrameReceive (port : Fin 2) (f : EthFrame) (s : State) : Host.Outcome State Fault Refusal :=
  .next (whenClocked s (if (workRefusal (pEth port.val) s).isSome || !linkUp port.val s then s
    else
      let s := match syncOfFrame (stripRct f.bytes) with
        | some (domain, gm) => syncArrive domain gm s
        | none => s
      let (rx, s) := rxStamp port s
      if (workRefusal pIng s).isSome then
        toRing port f.bytes rx false (refuseWork pIng (ethMaster port.val) s)
      else if 9014 < f.bytes.length then s.bump pIng 0x050
      else
        let (pass, s) := prpPass port f s
        if pass then consumeFrame port f rx s else s))

/-- MGE_FRAME_RECEIVE (R465). -/
def execMgeFrameReceive (bytes : List Byte) (s : State) : Host.Outcome State Fault Refusal :=
  .next (whenClocked s (if !s.enabled pMge || !s.rb pMge 0x040 4 then s
    else if 9014 < bytes.length then s.bump pMge 0x094
    else
      let (put, s) := ringPut .mge bytes 0 0 {} s
      if put then raiseBit pMge 0 s else s))

/-! ## Transmission (R84, R85, R107, R465) -/

/-- EtherType, and whether a frame to be sent is a PTP message, with its messageType. -/
def txPtp (bytes : List Byte) : Option Nat :=
  let o := ethHeader bytes
  let etype := beNat ((bytes.drop (o - 2)).take 2)
  let at_ := fun i => (bytes.getD i 0).toNat
  if etype = 0x88F7 then some (at_ o % 16)
  else
    let ip := if etype = 0x0800 then some (o + at_ o % 16 * 4) else if etype = 0x86DD then some (o + 40) else none
    match ip with
    | none => none
    | some u =>
      let udp : Bool := if etype = 0x0800 then at_ (o + 9) = 17 else at_ (o + 6) = 17
      let port := beNat ((bytes.drop (u + 2)).take 2)
      if udp && (port = 319 || port = 320) then some (at_ (u + 8) % 16) else none

/-- A frame has left a port with a timestamp request (R85, R86). -/
def txStamp (p : Nat) (ptp : Option Nat) (id : Nat) (s : State) : State :=
  let (st, s) := takeStamp s
  tsqPush { port := p, msgType := ptp.getD 15, frameId := id,
            stamp := { st with t := st.t + s.rf pPtp (0x088 + 8 * p) 19 0 * 4096 } } s

/-- Send one copy without a trailer; whether it left. (DEDUCED: log entry 42) -/
def txOne (port : EthPort) (bytes : List Byte) (ts : Bool) (ptp : Option Nat) (id : Nat) (s : State) :
    Bool × State :=
  match port with
  | .mge => if s.rb pMge 0x040 4 then (true, s.emit (.frame .mge bytes)) else (false, s)
  | _ =>
    let p := if port = .etb then 1 else 0
    let (ok, s) := sendOn (portMaster port) p bytes s
    (ok, if ok && ts then txStamp p ptp id s else s)

/-- Send the frame of a request: whether every copy left. A PTP message leaves on each port, without a trailer, whatever the
PRP flag (R84, R107). (DEDUCED: log entry 42) -/
def txFrame (port : EthPort) (bytes : List Byte) (ts prp : Bool) (id : Nat) (s : State) : Bool × State :=
  let ptp := txPtp bytes
  if port = .mge then (if ts || prp then (false, s) else txOne .mge bytes false none id s)
  else if ptp.isSome then
    let (a, s) := txOne .eta bytes ts ptp id s
    let (b, s) := txOne .etb bytes ts ptp id s
    (a && b, s)
  else if !prp then txOne port bytes ts ptp id s
  else
    let up := fun p (s : State) => (workRefusal (pEth p) s).isNone && linkUp p s
    let was := s
    let (ok, s) := sendPrp (portMaster port) bytes s
    let s := if ts && up 0 was then txStamp 0 none id s else s
    (ok, if ts && up 1 was then txStamp 1 none id s else s)

/-- ETH_TX_REQUEST: a port takes the next request of its ring (R107). Whether a frame of a length outside 60 to
9,014 bytes leaves is open. -/
def execEthTxRequest (port : EthPort) (s : State) : Host.Outcome State Fault Refusal :=
  let page := portPage port
  let m := portMaster port
  let size := s.rf page 0x078 3 0
  let n := 2 ^ size
  let head := (s.reg page 0x07C).toNat
  .next (whenClocked s (if !s.enabled page || size = 0 || head % n = (s.reg page 0x080).toNat % n then s
    else
      let a := s.pair page 0x070 + 32 * head
      let (_, d, s) := busRead m a 16 s
      let len := leNat ((d.drop 8).take 2)
      let flags := leNat ((d.drop 10).take 2)
      let (_, bytes, s) := busRead m (leNat (d.take 8)) len s
      let (odd, s) := if len < 60 || 9014 < len then s.takeBool else (false, s)
      let (ok, s) :=
        if odd then (false, s)
        else txFrame port bytes (flags.testBit 15) (flags.testBit 14) (leNat ((d.drop 12).take 2)) s
      let s := (busWrite m (a + 14) (leBytes 2 (0x8000 + b2n (!ok) * 0x4000)) s).2
      let s := s.setReg page 0x07C (BitVec.ofNat 32 ((head + 1) % n))
      if port = .mge then raiseBit pMge 1 s else s))

end Sys2Proof.Machine
end

