-- ==== Sys2Proof/Machine/ScanoutWork.lean ====
section
/-! DEFINITION. An output at its instants: latch points and the start of a frame (R220 to R239). -/

namespace Sys2Proof.Machine

/-! ## Line times and latch points (R222, R223, R230, R235 to R237) -/

/-- The phase at which line `line` of a frame begins. -/
def linePhase (f : Frame) (line : Nat) : Nat := f.start + lineTime40 f.inp.p32 f.inp.vT line

/-- RELEASE_LATCH_POINT: at F − VB the group is RUNNING, the mirror channels whose rate or size no longer holds stop, and
the blanking to its first frame begins (R222, R230, R251). (DEDUCED: log entry 52) -/
def execReleaseLatchPoint (n : Fin 16) (s : State) : Host.Outcome State Fault Refusal :=
  let l := leaderOf n.val s
  .next (whenPixel s (if outState l s = outReleasing && (smAt l s.out).relRun ≤ s.tm.run then
      let g := followers l s
      let s := setGroupState l outRunning s
      let s := g.foldl (fun s m => encOutRunning m (encRelease m (latchFrame m (raiseBit (pCmp m) 1 (raiseBit (pOut m) 1 s))))) s
      slipLine l (smAt l s.out).relRun s
    else s))

/-- The end of the last active line of OUT*n*; the CMP page raises LATCHED at each (R189, R223, R235 to R237). -/
def latchPoint (n : Nat) (f : Frame) (s : State) : State :=
  let s := evaluateAll n (petalRows f.inp) s
  let f := ((smAt n s.out).scan).getD f
  let s := if f.video then s.emit (.video n f.inp.no (outLines f)) else s
  let p := pOut n
  let s := raiseBit (pCmp n) 1 s
  let uf := f.isNew && f.late.isSome
  let wd := s.rf p 0x0A8 7 0
  if uf && 0 < wd && wd ≤ s.rf p 0x044 31 24 then withdraw 3 n s
  else
    let s := if uf then s else s.setFld p 0x044 31 24 0
    let l := leaderOf n s
    let s := setOut n (fun o => { o with
      scan := none, prev := some f, slipRun := linePhase f (f.inp.vT - 1) }) s
    if s.rb (pOut l) 0x040 1 || outState l s = outHeld then
      let s := noVerdicts n s
      let s := setOut n (fun o => { o with
        coming := none, chosen := none, rechoose := false
        prev := o.prev.map fun f => { f with inp := { f.inp with vrs := [], crcs := [] } } }) s
      let s := raiseBit p 2 (setOutState n outHeld s)
      if l = n then
        if (followers n s).all fun m => outState m s ≠ outRunning then s.setFld p 0x040 1 1 0 else s
      else if (followers l s).all fun m => outState m s ≠ outRunning then s.setFld (pOut l) 0x040 1 1 0
      else s
    else latchFrame n s

/-- LATCH_POINT: line V_ACTIVE of the frame in scan begins (R186, R235). -/
def execLatchPoint (n : Fin 16) (s : State) : Host.Outcome State Fault Refusal :=
  .next (whenPixel s (match (smAt n.val s.out).scan with
    | none => s
    | some f =>
      if outState n.val s = outRunning && linePhase f f.inp.vA ≤ s.tm.run then latchPoint n.val f s else s))

/-- FRAME_START: the chosen instant has come at phase `at_`. The pending frame is compared, the frame counter
advances, and GRD*n* judges the frame whose line 0 begins. A_k is that instant in the counter terms of the frame's
latch point, whatever the counter has done since (R197, R211, R228, R232, R233, R239). (DEDUCED: log entry 52) -/
def startFrame (n : Nat) (f : Frame) (at_ : Nat) (s : State) : State :=
  let s := compareFrame n s
  if s.dev = devWithdrawn then s
  else
    let no := f.inp.no
    let a := (-Int.fdiv (-(Int.ofNat at_ + f.inp.terms)) (2 ^ 24)).toNat
    let video := s.rb (pOut n) 0x09C 0 && s.dev = devRun
    let s := setOut n (fun o => { o with
      nextNo := if no + 1 = 0xFFFFFFFF then 0 else no + 1, coming := none, chosen := none }) s
    let s := (s.setReg (pOut n) 0x048 (BitVec.ofNat 32 no)).setReg (pCmp n) 0x04C (BitVec.ofNat 32 no)
    judgeFrame n { f with a, start := at_, video } (raiseBit (pOut n) 0 s)

def execFrameStart (n : Fin 16) (s : State) : Host.Outcome State Fault Refusal :=
  let o := smAt n.val s.out
  .next (whenPixel s (match o.coming, o.chosen with
    | some f, some at_ =>
      if outState n.val s = outRunning && at_ ≤ s.tm.run then startFrame n.val f at_ s else s
    | _, _ => s))

end Sys2Proof.Machine
end

