-- ==== Sys2Proof/Machine/SelfTestWork.lean ====
section
/-! DEFINITION. The rotating test of the engines and the check of the sequencer firmware (R415, R423). -/

namespace Sys2Proof.Machine

/-! ## The rotating test (R133, R415) -/

/-- A handover is under way, or the run and reload that follow it. -/
def rotationBusy (s : State) : Bool :=
  !s.bst.runs.isEmpty || !s.bst.waiting.isEmpty || !s.bst.fwDue.isEmpty || s.eng.any fun e => e.2.draining

/-- BST_ROTATION_INTERVAL: steps 1 and 2 of a handover (R133, R415). -/
def execBstRotationInterval (s : State) : Host.Outcome State Fault Refusal :=
  .next (whenServed s (if s.dev ≠ devRun || s.clk < s.bst.rotAt || rotationBusy s then s
    else
      let s := setBst (fun b => { b with rotAt := b.rotAt + rotInterval s }) s
      if !s.rb pBst 0x040 0 then s
      else
        match heldEngine s with
        | none => s
        | some j =>
          match nextEngine j s with
          | none => s
          | some e => handover j e s))

/-- SEQ_FIRMWARE_CHECK: the firmware is loaded into engine *n* from system SRAM and checked; in boot every engine
but CDC0 then leaves the hold (R411, R415, R423, R445). -/
def execSeqFirmwareCheck (n : Fin 16) (s : State) : Host.Outcome State Fault Refusal :=
  .next (whenServed s (match s.key.seqHash with
    | none => s
    | some hash =>
      if !s.bst.fwDue.contains n.val then s
      else
        let (_, bytes, s) := busRead .bst s.key.seqAt s.key.seqLen s
        let s := setBst (fun b => { b with fwDue := b.fwDue.erase n.val }) s
        if sha384 bytes = hash then
          if s.dev = devBoot && n.val ≠ 0 then setHold false [pCdc n.val] s else s
        else if s.dev = devBoot then withdraw 9 2 (s.setFld pKey 0x05C 3 0 7)
        else withdraw 7 (7 + n.val) s))

end Sys2Proof.Machine
end

