-- ==== Sys2Proof/Machine/PowerWork.lean ====
section
/-! DEFINITION. The boot image: its header, its checks, and the start of the guard processors (R422, R442 to R445). -/

namespace Sys2Proof.Machine

/-! ## Boot (R422, R442 to R446) -/

/-- A field of the boot header, little-endian. -/
def hdrNat (h : List Byte) (off n : Nat) : Nat := leNat ((h.drop off).take n)

def hdrBytes (h : List Byte) (off n : Nat) : List Byte := (h.drop off).take n

/-- The fused security version. -/
def fusedSv (s : State) : Nat := max Config.fuseSv.toNat s.fuseSv

/-- The checks of a header, in order: READ_ERROR where it could not be read, the first that fails, else PASS (R422).
(DEDUCED: log entry 81) -/
def headerVerdict (h : List Byte) (s : State) : Nat :=
  let k := hdrNat h 6 1
  let pub := hdrBytes h 0x90 97
  if h.length ≠ 512 then 8
  else if hdrNat h 0 4 ≠ 0x4D49575A || hdrNat h 4 2 ≠ 1 then 2
  else if 3 < k || sha384 pub ≠ Config.fusedHash k || Config.fusedRevoked k then 3
  else if hdrNat h 8 4 < fusedSv s then 4
  else if !ecdsaP384 pub (sha384 (h.take 0x100)) (hdrBytes h 0x100 96) then 5
  else 1

/-- IMAGE_LEN of a header. -/
def imageLen (h : List Byte) : Nat := hdrNat h 0xC 4

/-- The verdict on a header and its image: the first check that fails, else PASS. The image is read once the header has
passed, and `readOk` tells whether it could be (R422, R445). (DEDUCED: log entry 81) -/
def bootVerdict (h image : List Byte) (readOk : Bool) (s : State) : Nat :=
  if headerVerdict h s ≠ 1 then headerVerdict h s
  else if !readOk || image.length ≠ imageLen h then 8
  else if sha384 image ≠ hdrBytes h 0x30 48 then 6
  else 1

/-- The copy that the boot ROM tries next, once the GPs have left reset (R411, R444). -/
def copyDue (s : State) : Option Nat :=
  let v := s.rf pKey 0x05C 3 0
  if s.dev ≠ devBoot || s.bst.group < 2 || v = 1 || v = 7 then none
  else if v = 0 then some 0
  else some 1

/-- An accepted copy: its facts are kept, the image lies at LOAD_ADDR, and the GPs start (R423, R445).
(DEDUCED: log entry 81) -/
def acceptImage (h image : List Byte) (s : State) : State :=
  let s := (s.setFld pKey 0x05C 5 4 (hdrNat h 6 1)).setFld pKey 0x05C 23 16 (hdrNat h 8 4)
  let load := hdrNat h 0x10 8
  let entry := hdrNat h 0x18 8
  let s := { s with key := { s.key with
    seqHash := some (hdrBytes h 0x60 48), entryGp := entry, entryApc := hdrNat h 0x20 8
    seqAt := load + hdrNat h 0x28 4, seqLen := hdrNat h 0x2C 4 } }
  let s := (busWrite (.gp 0) load image s).2
  (s.emit (.run (.gp 0) entry)).emit (.run (.gp 1) entry)

/-- A read of the boot flash as the strap selects it: 0x0C Fast Read with 8 dummy cycles, or 0xEE 0x11 with 20 (R442). -/
def flashRead (addr len : Nat) (s : State) : State :=
  s.emit (if s.pwr.bootXspi then .flashRead true 0xEE11 20 addr len else .flashRead false 0x0C 8 addr len)

/-- The offset of a copy in the boot flash (R443). -/
def copyAt (copy : Nat) : Nat := 0x1000000 * copy

/-- The ROM reads a copy: its header, and behind an accepted header the image (R422, R443). (DEDUCED: log entry 81) -/
def readCopy (copy : Nat) (h : List Byte) (s : State) : State :=
  let t := flashRead (copyAt copy) 0x200 s
  if headerVerdict h s = 1 then flashRead (copyAt copy + 0x200) (imageLen h) t else t

/-- BOOT_IMAGE_VERIFY: the ROM has read a copy's header, 512 bytes where it could be read, and its image, `readOk` telling
whether that could be read (R422, R442, R444, R445). (DEDUCED: log entry 81) -/
def execBootImageVerify (copy : Fin 2) (header image : List Byte) (readOk : Bool) (s : State) :
    Host.Outcome State Fault Refusal :=
  .next (whenClocked s (if copyDue s ≠ some copy.val then s
    else
      let v := bootVerdict header image readOk s
      let s := readCopy copy.val header s
      let s := s.setFld pKey 0x05C 3 0 v
      if v = 1 then acceptImage header image s
      else if copy.val = 1 then withdraw 9 1 s
      else s))

end Sys2Proof.Machine
end

