-- ==== Sys2Proof/Machine/TouchWork.lean ====
section
/-! DEFINITION. Touch at the end of a scan: baselines, keys, the surface, the gesture and reports, the entry to WATCH,
and the diagnostic run (R395 to R409). -/

namespace Sys2Proof.Machine

/-! ## Pins and keys (R392, R395) -/

def keyBase (k : Nat) (s : State) : Nat := s.rf pTch (kOff k 0xC) 29 16

/-! ## Reports (R403) -/

/-- Write a report: `tail` are its bytes 0x08 to 0x0F; none once the request to enter WATCH has been acknowledged (R403, R404).
(DEDUCED: log entries 72, 73) -/
def tchReport (type : Nat) (tail : List Byte) (s : State) : State :=
  let n := 2 ^ s.rf pTch 0x058 3 0
  let head := (s.reg pTch 0x05C).toNat
  let lost := fun (s : State) => raiseBit pTch 1 (s.bump pTch 0x064)
  if tchQuiet s then s
  else if (head + 1) % n = (s.reg pTch 0x060).toNat % n then lost s
  else
    let a := s.pair pTch 0x050 + 16 * head
    let no := (s.reg pTch 0x04C).toNat + 0xFFFF
    let bytes := leBytes 1 type ++ leBytes 1 (b2n s.tch.phase * 128) ++ leBytes 2 no ++ leBytes 4 s.timer
      ++ takeBytes 8 tail
    let (ok, s) := busWrite .tch a bytes s
    if ok then
      let next := (head + 1) % n
      let s := setTch (fun t => { t with phase := if next = 0 then !t.phase else t.phase }) s
      raiseBit pTch 0 (s.setReg pTch 0x05C (BitVec.ofNat 32 next))
    else lost (s.recordErr pTch 0x43 (masterId .tch) a)

/-- A key report: key, state, STATUS; its delta is that of KEY_STAT. -/
def keyReport (k st status : Nat) (s : State) : State :=
  tchReport 1 (leBytes 1 k ++ leBytes 1 st ++ leBytes 2 status ++ leBytes 2 (s.rf pTch (kOff k 0xC) 15 0)) s

/-- A contact report: 1 DOWN, 2 MOVE, 3 UP, 4 STUCK. -/
def contactReport (c : TchContact) (event : Nat) (s : State) : State :=
  tchReport 2 (leBytes 1 c.id ++ leBytes 1 event ++ leBytes 2 c.x ++ leBytes 2 c.y ++ leBytes 2 c.strength) s

/-- A fault report: pin, kind, other pin, raw count. -/
def faultReport (p kind other raw : Nat) (s : State) : State :=
  tchReport 3 (leBytes 1 p ++ leBytes 1 kind ++ leBytes 2 other ++ leBytes 2 raw) s

/-! ## Keys (R396 to R400) -/

def tchClamp (lo hi v : Int) : Int := if v < lo then lo else if hi < v then hi else v

/-- A key report that a scan owes: state and STATUS. -/
abbrev KeyNews := Nat × Nat

/-- KEY_STAT with a baseline and a delta. -/
def putKey (k base : Nat) (delta : Int) (s : State) : State :=
  (s.setFld pTch (kOff k 0xC) 29 16 base).setFld pTch (kOff k 0xC) 15 0 (delta % 65536).toNat

/-- A measurement of a key in INIT (R396). -/
def keyInitScan (k raw : Nat) (s : State) : State :=
  let t := smAt k s.tch.keys
  if t.n < 3 then setKey k (fun t => { t with n := t.n + 1, sum := t.sum + raw }) s
  else setKey k (fun _ => {}) (setKeyState k 1 (putKey k ((t.sum + raw) / 4) 0 s))

/-- The steps of a key in one scan (R399): whether the present scan is one of baseline tracking.
(DEDUCED: log entry 70) -/
def keyScan (k raw : Nat) (track : Bool) (s : State) : List KeyNews × State :=
  if keyFaulty k s then ([], setKeyState k 3 s)
  else if keyState k s = 0 then ([], keyInitScan k raw s)
  else
    let c1 := s.latchedReg pTch (kOff k 4)
    let c2 := s.latchedReg pTch (kOff k 8)
    let th : Int := Int.ofNat (fld c1 13 0)
    let hys : Int := Int.ofNat (fld c1 29 16)
    let base := keyBase k s
    let diff := Int.ofNat raw - Int.ofNat base
    let delta := if keyMutual k s then -diff else diff
    let anti : Bool := delta ≤ -Int.ofNat (fld c2 13 0)
    let s := if anti then s.bump pTch 0x0D0 else s
    let base := if anti then raw else base
    let delta := if anti then 0 else delta
    let t := smAt k s.tch.keys
    let on := if th ≤ delta then t.on + 1 else 0
    let off := if delta < th - hys then t.off + 1 else 0
    let cool := if th ≤ delta then 0 else min (t.cool + 1) 16
    let dbOn := fld (keyCfg k s) 3 0
    let down : Bool := keyState k s = 1 && dbOn < on
    let up : Bool := keyState k s = 2 && fld (keyCfg k s) 7 4 < off
    let since := if down then s.tch.us else t.since
    let touched : Bool := down || (keyState k s = 2 && !up)
    let stuck : Bool := touched && fld c2 31 24 ≠ 0 && fld c2 31 24 * 1000000 < s.tch.us - since
    let base := if stuck then raw else base
    let touched := touched && !stuck
    let moves : Bool := track && !touched && dbOn < cool
    let step := Int.ofNat (s.latchedFld pTch 0x068 3 0)
    let base := if moves then (Int.ofNat base + tchClamp (-step) step (Int.ofNat raw - Int.ofNat base)).toNat else base
    let s := setKey k (fun t => { t with on, off, cool, since }) (putKey k base delta s)
    let s := setKeyState k (if touched then 2 else 1) s
    let s := if stuck then raiseBit pTch 2 (s.bump pTch 0x0D4) else s
    let news := (if down then [(2, 0)] else []) ++ (if up then [(1, 0)] else []) ++ (if stuck then [(1, 1)] else [])
    (news, s)

/-! ## The surface (R401, R402) -/

/-- The delta of each node after anti-touch, and the nodes after INIT and anti-touch (R396, R398); with the
count of re-baselines. -/
def nodeScan (anti : Int) (n : TchNode) (raw : Nat) : TchNode × Int × Nat :=
  if n.n < 3 then ({ n with n := n.n + 1, sum := n.sum + raw }, 0, 0)
  else if n.n = 3 then ({ n := 4, sum := 0, base := (n.sum + raw) / 4 }, 0, 0)
  else
    let d := Int.ofNat n.base - Int.ofNat raw
    if d ≤ -anti then ({ n with base := raw }, 0, 1) else (n, d, 0)

/-- Rows and columns that take part in the search for peaks (R406). (DEDUCED: log entry 71) -/
def liveRow (r : Nat) (s : State) : Bool :=
  match (pinsOf mStx s)[r]? with
  | some p => !pinFault p s
  | none => false

def liveCol (c : Nat) (s : State) : Bool :=
  match (pinsOf mSrx s)[c]? with
  | some p => !pinFault p s
  | none => false

/-- The delta at a row and column, 0 outside the surface. -/
def dAt (d : List (List Int)) (r c : Int) : Int :=
  if r < 0 || c < 0 then 0 else (d.getD r.toNat []).getD c.toNat 0

/-- Peaks in raster order: row, column, delta (R401). -/
def peaks (th : Int) (d : List (List Int)) : List (Nat × Nat × Int) :=
  d.zipIdx.flatMap fun (row, r) =>
    row.zipIdx.filterMap fun (v, c) =>
      let ri := Int.ofNat r
      let ci := Int.ofNat c
      if th ≤ v && dAt d ri (ci - 1) < v && dAt d (ri - 1) ci < v && dAt d ri (ci + 1) ≤ v
          && dAt d (ri + 1) ci ≤ v then some (r, c, v)
      else none

/-- Insert a peak behind those of greater or equal delta. -/
def rankIn (p : Nat × Nat × Int) : List (Nat × Nat × Int) → List (Nat × Nat × Int)
  | [] => [p]
  | q :: qs => if p.2.2 ≤ q.2.2 then q :: rankIn p qs else p :: q :: qs

def ranked (ps : List (Nat × Nat × Int)) : List (Nat × Nat × Int) := ps.foldl (fun l p => rankIn p l) []

/-- The nearest whole number of `a / b`. (DEDUCED: log entry 71) -/
def tchRound (a b : Nat) : Nat := (2 * a + b) / (2 * b)

/-- Position and strength of a peak; the position is open when every delta around it is 0 (R401).
(DEDUCED: log entry 71) -/
def contactAt (d : List (List Int)) (p : Nat × Nat × Int) (s : State) : TchContact × State :=
  let cells := (List.range 3).flatMap fun i => (List.range 3).filterMap fun j =>
    let r := Int.ofNat p.1 + Int.ofNat i - 1
    let c := Int.ofNat p.2.1 + Int.ofNat j - 1
    if r < 0 || c < 0 then none else some (r.toNat, c.toNat, (dAt d r c).toNat)
  let sum := cells.foldl (fun a x => a + x.2.2) 0
  let sx := cells.foldl (fun a x => a + x.2.2 * x.2.1) 0
  let sy := cells.foldl (fun a x => a + x.2.2 * x.1) 0
  if sum = 0 then
    let (wx, s) := s.takeFree
    let (wy, s) := s.takeFree
    ({ x := fld wx 15 0, y := fld wy 15 0 }, s)
  else ({ x := tchRound (256 * sx) sum, y := tchRound (256 * sy) sum, strength := min sum 65535 }, s)

def contactsAt (d : List (List Int)) : List (Nat × Nat × Int) → State → List TchContact × State
  | [], s => ([], s)
  | p :: ps, s =>
    let (c, s) := contactAt d p s
    let (cs, s) := contactsAt d ps s
    (c :: cs, s)

def absDiff (a b : Nat) : Nat := (a - b) + (b - a)

def dist2 (a b : TchContact) : Nat := absDiff a.x b.x ^ 2 + absDiff a.y b.y ^ 2

/-- The nearest unassigned contact within reach: its index (R402). (DEDUCED: log entry 71) -/
def nearestContact (reach : Nat) (c : TchContact) (present : List TchContact) : Option Nat :=
  (present.zipIdx.foldl (fun best x =>
    if x.1.id ≠ 0 || reach ^ 2 < dist2 c x.1 then best
    else
      match best with
      | some (_, d) => if dist2 c x.1 < d then some (x.2, dist2 c x.1) else best
      | none => some (x.2, dist2 c x.1)) (none : Option (Nat × Nat))).map (·.1)

/-- Give the contacts of the previous scan, in ascending order, their successors (R402). -/
def matchContacts (reach : Nat) (before present : List TchContact) : List TchContact :=
  before.foldl (fun now c =>
    match nearestContact reach c now with
    | none => now
    | some i => now.modify i fun x =>
      { x with id := c.id, rx := c.rx, ry := c.ry, dx := c.dx, dy := c.dy, since := c.since }) present

/-- The lowest identifier that is not used. -/
def freeId (used : List Nat) : Nat := ((List.range 32).find? fun i => i ≠ 0 && !used.contains i).getD 31

/-- Identifiers for the contacts left unmatched (R402). -/
def nameNew (us : Nat) : List Nat → List TchContact → List TchContact
  | _, [] => []
  | used, c :: cs =>
    if c.id ≠ 0 then c :: nameNew us used cs
    else
      let id := freeId used
      { c with id, rx := c.x, ry := c.y, dx := c.x, dy := c.y, since := us } :: nameNew us (id :: used) cs

def insertContact (c : TchContact) : List TchContact → List TchContact
  | [] => [c]
  | d :: ds => if c.id < d.id then c :: d :: ds else d :: insertContact c ds

def byId (cs : List TchContact) : List TchContact := cs.foldl (fun l c => insertContact c l) []

/-- What the surface owes after a scan. -/
structure SurfNews where
  up : List TchContact := []
  stuck : List TchContact := []
  moved : List TchContact := []
  down : List TchContact := []

/-- SURF_TH (R401). -/
def surfTh (s : State) : Int := Int.ofNat (s.latchedFld pTch 0x070 13 0)

/-- The contacts of a scan from its deltas (R401, R402); a row or column with a fault has no peaks (R406).
(DEDUCED: log entry 71) -/
def surfaceScan (d : List (List Int)) (s : State) : SurfNews × State :=
  let all := ranked ((peaks (surfTh s) d).filter fun p => liveRow p.1 s && liveCol p.2.1 s)
  let s := s.bumpAt pTch 0x0D8 0 (all.length - 10)
  let (found, s) := contactsAt d (all.take 10) s
  let before := s.tch.contacts
  let us := s.tch.us
  let now := matchContacts (s.latchedFld pTch 0x074 23 16 * 64) before found
  let ids := now.map (·.id)
  let up := before.filter fun c => !ids.contains c.id
  let maxOn := s.latchedFld pTch 0x074 31 24
  let isStuck := fun (c : TchContact) => c.id ≠ 0 && maxOn ≠ 0 && maxOn * 1000000 < us - c.since
  let stuck := byId (now.filter isStuck)
  let down := (nameNew us (before.map (·.id)) now).filter fun c => c.id ≠ 0 && !(before.any fun b => b.id = c.id)
  let kept := byId ((now.filter fun c => c.id ≠ 0 && !isStuck c))
  let least := s.latchedFld pTch 0x070 31 16
  let moves := fun (c : TchContact) => least ≤ absDiff c.x c.rx || least ≤ absDiff c.y c.ry
  let moved := kept.filter moves
  let kept := kept.map fun c => if moves c then { c with rx := c.x, ry := c.y } else c
  let s := setTch (fun t => { t with contacts := byId (kept ++ down) }) s
  let s := stuck.foldl (fun s _ => raiseBit pTch 2 (s.bump pTch 0x0D4)) s
  ({ up, stuck, moved, down }, s.setFld pTch 0x048 7 4 found.length)

/-! ## A scan (R393 to R404) -/

/-- The full scale of a self or a mutual measurement, in attofarads (R393). -/
def fullScale (mutl : Bool) (s : State) : Nat :=
  if mutl then 2500000 * 2 ^ s.rf pTch 0x044 13 12 else 25000000 * 2 ^ s.rf pTch 0x044 15 14

/-- The raw count of a capacitance (R393). -/
def rawCount (mutl : Bool) (c : Nat) (s : State) : Nat := min (16383 * c / fullScale mutl s) 16383

/-- The keys of a set, scanned in ascending order from their capacitances: the reports owed. -/
def keysScan (raws : List (Nat × Nat)) (track : Bool) : List Nat → State → List (Nat × KeyNews) × State
  | [], s => ([], s)
  | k :: ks, s =>
    let (n1, s) := keyScan k (rawCount (keyMutual k s) ((raws.lookup k).getD 0) s) track s
    let (n2, s) := keysScan raws track ks s
    (n1.map (fun n => (k, n)) ++ n2, s)

/-- The surface of a scan: nodes, contacts, tracking (R396 to R402). (DEDUCED: log entry 71) -/
def surfScan (raw : List (List Nat)) (track : Bool) (s : State) : SurfNews × State :=
  let nr := (pinsOf mStx s).length
  let nc := (pinsOf mSrx s).length
  let anti := Int.ofNat (s.latchedFld pTch 0x074 13 0)
  let rawAt := fun r c => rawCount true ((raw.getD r []).getD c 0) s
  let old := s.tch.nodes
  let node := fun r c => (old.getD r []).getD c {}
  let res := (List.range nr).map fun r => (List.range nc).map fun c => nodeScan anti (node r c) (rawAt r c)
  let d := res.zipIdx.map fun (row, r) => row.zipIdx.map fun (x, c) =>
    if liveRow r s && liveCol c s then x.2.1 else 0
  let s := s.bumpAt pTch 0x0D0 0 (res.foldl (fun a row => row.foldl (fun a x => a + x.2.2) a) 0)
  let (news, s) := surfaceScan d s
  let frozen := !s.tch.contacts.isEmpty
  let touched := fun (v : Int) => decide (surfTh s ≤ v)
  let step := Int.ofNat (s.latchedFld pTch 0x068 3 0)
  let nodes := res.zipIdx.map fun (row, r) => row.zipIdx.map fun (x, c) =>
    let n := x.1
    if (node r c).n < 4 then n
    else if !news.stuck.isEmpty then { n with base := rawAt r c }
    else if track && !frozen && !touched x.2.1 then
      { n with base := (Int.ofNat n.base + tchClamp (-step) step (Int.ofNat (rawAt r c) - Int.ofNat n.base)).toNat }
    else n
  (news, setTch (fun t => { t with nodes }) s)

/-- Consecutive touches, latest first, each within a time of the one before it. -/
def closeSteps (most : Nat) : List (Nat × Nat) → Bool
  | a :: b :: rest => decide (a.2 - b.2 ≤ most) && closeSteps most (b :: rest)
  | _ => true

/-- The touches end in the sequence of the gesture (R405). (DEDUCED: log entry 73) -/
def sequenceDone (cfg keys : Word) (most : Nat) (touches : List (Nat × Nat)) : Bool :=
  let ks := gestureKeys cfg keys
  let last := touches.take ks.length
  decide ((last.map (·.1)).reverse = ks) && closeSteps most last

/-- A contact's path is the swipe (R405). (DEDUCED: log entry 73) -/
def swiped (w : Word) (c : TchContact) : Bool :=
  let ix := Int.ofNat c.x - Int.ofNat c.dx
  let iy := Int.ofNat c.y - Int.ofNat c.dy
  let (along, across) : Int × Int :=
    match fld w 1 0 with
    | 0 => (ix, iy)
    | 1 => (-ix, iy)
    | 2 => (iy, ix)
    | _ => (-iy, ix)
  let dist := Int.ofNat (fld w 31 16)
  decide (dist ≤ along) && decide (Int.ofNat across.natAbs * 2 < dist)

/-- Whether a scan in WATCH completes the gesture (R405). (DEDUCED: log entry 73) -/
def gestureSeen (keyNews : List (Nat × KeyNews)) (up : List TchContact) (s : State) : Bool × State :=
  let cfg := s.latchedReg pTch 0x0E0
  let keys := s.latchedReg pTch 0x0E4
  let stepUs := s.latchedFld pTch 0x0E8 15 0 * 1000
  match fld cfg 1 0 with
  | 1 =>
    let k := fld keys 5 0
    (keyState k s = 2 && s.latchedFld pTch 0x0E8 31 16 * 1000 ≤ s.tch.us - (smAt k s.tch.keys).since, s)
  | 2 =>
    let new := (keyNews.filter fun n => n.2.1 = 2).map (·.1)
    let r := new.foldl (fun (acc : Bool × List (Nat × Nat)) k =>
      let ts := ((k, s.tch.us) :: acc.2).take 4
      (acc.1 || sequenceDone cfg keys stepUs ts, ts)) (false, s.tch.touches)
    (r.1, setTch (fun t => { t with touches := r.2 }) s)
  | 3 => (up.any (fun c => decide (s.tch.us - c.since ≤ stepUs) && swiped (s.latchedReg pTch 0x0EC) c), s)
  | _ => (false, s)

/-- The wake request (R405). -/
def wakeRequest (s : State) : State :=
  let s := (s.setFld pTch 0x0F0 31 31 1).setFld pTch 0x0F0 1 0 (s.latchedFld pTch 0x0E0 1 0)
  raiseBit pTch 6 (setTch (fun t => { t with wake := true }) s)

/-- The reports of a scan, in the order of R403. -/
def scanReports (keyNews : List (Nat × KeyNews)) (n : SurfNews) (s : State) : State :=
  let s := keyNews.foldl (fun s e => keyReport e.1 e.2.1 e.2.2 s) s
  let ended := byId (n.up ++ n.stuck)
  let s := ended.foldl (fun s c =>
    contactReport c (if n.stuck.any fun k => k.id = c.id then 4 else 3) s) s
  let s := n.moved.foldl (fun s c => contactReport c 2 s) s
  n.down.foldl (fun s c => contactReport c 1 s) s

/-- RESYNC reports join those of their key (R405). (DEDUCED: log entry 73) -/
def withResync (keys : List Nat) (news : List (Nat × KeyNews)) (s : State) : List (Nat × KeyNews) :=
  keys.flatMap fun k =>
    (news.filter fun n => n.1 = k) ++ (if keyState k s = 2 then [(k, (2, 4))] else [])

/-- TOUCH_SCAN_END (R393 to R405). (DEDUCED: log entry 70) -/
def execTouchScanEnd (r : TouchRaw) (s : State) : Host.Outcome State Fault Refusal :=
  .next (whenAwake s (if !s.tch.running then s
    else
      let watch := s.tch.watch
      let keys := if watch then watchKeys s else keysOn s
      let n := if watch then watchConversions s else conversions s
      let s := s.setReg pTch 0x04C (s.reg pTch 0x04C + 1)
      let s := s.setFld pTch 0x048 31 16 (roundUp (convNs n s) 1000)
      let s := setTch (fun t => { t with running := false, diagAt := s.clk }) s
      let every := s.latchedFld pTch 0x068 15 8
      let track : Bool := (s.reg pTch 0x04C).toNat % every = 0
      let (keyNews, s) := keysScan r.keys track keys s
      let (surf, s) :=
        if watch && s.latchedFld pTch 0x0E0 1 0 ≠ 3 then (({} : SurfNews), s) else surfScan r.surface track s
      if watch then
        let (seen, s) := gestureSeen keyNews surf.up s
        if seen && tchWatch s then wakeRequest s else s
      else
        let again := s.tch.resync && s.dev = devRun
        let keyNews := if again then withResync keys keyNews s else keyNews
        scanReports keyNews surf (setTch (fun t => { t with resync := t.resync && !again }) s)))

/-! ## Entry to WATCH (R404) -/

/-- TOUCH_WATCH_REQUEST: with no scan or diagnostic in progress the reports are written and the request is
acknowledged (R404, R407). -/
def execTouchWatchRequest (s : State) : Host.Outcome State Fault Refusal :=
  .next (whenAwake s (if !s.rb 1 0x054 0 || s.pwr.watchAck || s.tch.running || s.rb pTch 0x040 2 then s
    else
      let s := (keysOn s).foldl (fun s k => if keyState k s = 2 then keyReport k 1 3 s else s) s
      let s := s.tch.contacts.foldl (fun s c => contactReport c 4 s) s
      let s := setTch (fun t => { t with contacts := [], touches := [], wake := false }) s
      { (s.setFld pTch 0x0F0 31 31 0) with pwr := { s.pwr with watchAck := true } }))

/-! ## The diagnostic run (R406) -/

/-- Record whether a pin is faulty. -/
def setPinFault (p : Nat) (on : Bool) (s : State) : State :=
  s.setFld pTch (0x0C4 + 4 * (p / 32)) (p % 32) (p % 32) (b2n on)

/-- A key after a run: FAULT, or INIT when its pins are clear again. (DEDUCED: log entry 73) -/
def keyAfterDiag (k : Nat) (s : State) : State :=
  if keyFaulty k s then
    let touched := keyState k s = 2
    let s := setKeyState k 3 s
    if touched then keyReport k 1 2 s else s
  else if keyState k s = 3 then keyInit k s
  else s

/-- OPEN_MIN: while SCAN_EN = 1 the value taken at the last start of a scan, else the register's (R395, R407).
(DEDUCED: log entry 70) -/
def openMin (s : State) : Nat :=
  if s.rb pTch 0x040 0 then s.latchedFld pTch 0x0C0 13 0 else s.rf pTch 0x0C0 13 0

/-- TOUCH_DIAG_DONE (R406). -/
def execTouchDiagDone (r : TouchDiagRaw) (s : State) : Host.Outcome State Fault Refusal :=
  .next (whenAwake s (if !s.rb pTch 0x040 2 || s.tch.running then s
    else
      let tested := (List.range 96).filter fun p => pinMode p s ≠ 0
      let least := openMin s
      let opens := tested.filterMap fun p =>
        match r.open_.lookup p with
        | some c => if rawCount false c s < least then some (p, rawCount false c s) else none
        | none => none
      let low := tested.filter fun p => r.readLow.contains p
      let high := tested.filter fun p => r.readHigh.contains p
      let rest := tested.filter fun p => !low.contains p && !high.contains p
      let pairs := rest.flatMap fun p =>
        (rest.filter fun q => p < q && r.pairs.contains (p, q)).map fun q => (p, q)
      let bad := opens.map (·.1) ++ low ++ high ++ pairs.flatMap fun x => [x.1, x.2]
      let s := tested.foldl (fun s p => setPinFault p (bad.contains p) s) s
      let s := opens.foldl (fun s x => faultReport x.1 1 0xFF x.2 s) s
      let s := low.foldl (fun s p => faultReport p 2 0xFF 0 s) s
      let s := high.foldl (fun s p => faultReport p 3 0xFF 0 s) s
      let s := pairs.foldl (fun s x => faultReport x.1 4 x.2 0 s) s
      let s := (keysOn s).foldl (fun s k => keyAfterDiag k s) s
      let s := raiseBit pTch 3 (s.setFld pTch 0x040 2 2 0)
      if (List.range 3).any (fun i => s.reg pTch (0x0C4 + 4 * i) ≠ 0) then raiseBit pTch 4 s else s))

end Sys2Proof.Machine
end

