-- ==== Sys2Proof/Machine/Dispatch.lean ====
section
/-! DEFINITION. The effect of every command on everything but the queue: one arm per command. -/

namespace Sys2Proof.Machine

def exec (i : Instr) (s : State) : Host.Outcome State Fault Refusal :=
  match i with
  | .registerWrite m priv addr size v => Sys2Proof.Machine.execRegisterWrite m priv addr size v s
  | .pairHighWrite m priv addr v => Sys2Proof.Machine.execPairHighWrite m priv addr v s
  | .pairLowRead m addr => Sys2Proof.Machine.execPairLowRead m addr s
  | .rcRead m addr => Sys2Proof.Machine.execRcRead m addr s
  | .softReset m page => Sys2Proof.Machine.execSoftReset m page s
  | .softResetDone page => Sys2Proof.Machine.execSoftResetDone page s
  | .blockEnable m page => Sys2Proof.Machine.execBlockEnable m page s
  | .blockDisable m page => Sys2Proof.Machine.execBlockDisable m page s
  | .errClear m page => Sys2Proof.Machine.execErrClear m page s
  | .fabricAccess m priv addr a => Sys2Proof.Machine.execFabricAccess m priv addr a s
  | .powerOn => Sys2Proof.Machine.execPowerOn s
  | .supplyReset rail mv ns => Sys2Proof.Machine.execSupplyReset rail mv ns s
  | .brownoutWarning rail mv ns => Sys2Proof.Machine.execBrownoutWarning rail mv ns s
  | .brownoutEnd coreMv ioMv ns => Sys2Proof.Machine.execBrownoutEnd coreMv ioMv ns s
  | .resetPin lowNs => Sys2Proof.Machine.execResetPin lowNs s
  | .softwareReset m key => Sys2Proof.Machine.execSoftwareReset m key s
  | .debugReset => Sys2Proof.Machine.execDebugReset s
  | .deviceResetRelease bootXspi => Sys2Proof.Machine.execDeviceResetRelease bootXspi s
  | .bootImageVerify copy header image readOk => Sys2Proof.Machine.execBootImageVerify copy header image readOk s
  | .apcRun m mask => Sys2Proof.Machine.execApcRun m mask s
  | .bootDone m => Sys2Proof.Machine.execBootDone m s
  | .sysWithdraw m priv key => Sys2Proof.Machine.execSysWithdraw m priv key s
  | .watchEntry m => Sys2Proof.Machine.execWatchEntry m s
  | .watchWake src => Sys2Proof.Machine.execWatchWake src s
  | .testEntry m enter readBackZero => Sys2Proof.Machine.execTestEntry m enter readBackZero s
  | .vbatMeasure mv => Sys2Proof.Machine.execVbatMeasure mv s
  | .ptpSet m ns => Sys2Proof.Machine.execPtpSet m ns s
  | .ptpStep m hi => Sys2Proof.Machine.execPtpStep m hi s
  | .ptpSlew m amount => Sys2Proof.Machine.execPtpSlew m amount s
  | .slewDone => Sys2Proof.Machine.execSlewDone s
  | .ptpRateAdj m v => Sys2Proof.Machine.execPtpRateAdj m v s
  | .ptpTimeSnapshot m => Sys2Proof.Machine.execPtpTimeSnapshot m s
  | .syncWindowExpire => Sys2Proof.Machine.execSyncWindowExpire s
  | .vbatTimeCopy => Sys2Proof.Machine.execVbatTimeCopy s
  | .vbatTrimUpdate ticks => Sys2Proof.Machine.execVbatTrimUpdate ticks s
  | .tsqPop m => Sys2Proof.Machine.execTsqPop m s
  | .tsqLostRead m => Sys2Proof.Machine.execTsqLostRead m s
  | .ttuArm m u ctrl => Sys2Proof.Machine.execTtuArm m u ctrl s
  | .ttuDisarm m u ctrl => Sys2Proof.Machine.execTtuDisarm m u ctrl s
  | .ttuPulseStart u => Sys2Proof.Machine.execTtuPulseStart u s
  | .ttuPulseEnd u => Sys2Proof.Machine.execTtuPulseEnd u s
  | .capinEdge i1 rising heldQns => Sys2Proof.Machine.execCapinEdge i1 rising heldQns s
  | .capPop m i1 => Sys2Proof.Machine.execCapPop m i1 s
  | .ethFrameReceive port f => Sys2Proof.Machine.execEthFrameReceive port f s
  | .prpEntryForget => Sys2Proof.Machine.execPrpEntryForget s
  | .jbGapRelease c => Sys2Proof.Machine.execJbGapRelease c s
  | .srExpire c => Sys2Proof.Machine.execSrExpire c s
  | .ethTxRequest port => Sys2Proof.Machine.execEthTxRequest port s
  | .ethRingOff m port tx => Sys2Proof.Machine.execEthRingOff m port tx s
  | .srcCtxEnable m ctrl => Sys2Proof.Machine.execSrcCtxEnable m ctrl s
  | .srcCtxDisable m ctrl => Sys2Proof.Machine.execSrcCtxDisable m ctrl s
  | .srcPageDisable m => Sys2Proof.Machine.execSrcPageDisable m s
  | .srcStatClear m => Sys2Proof.Machine.execSrcStatClear m s
  | .srcTimeoutCheck => Sys2Proof.Machine.execSrcTimeoutCheck s
  | .dpiFrameStart p f => Sys2Proof.Machine.execDpiFrameStart p f s
  | .dpiFrameEnd p lines => Sys2Proof.Machine.execDpiFrameEnd p lines s
  | .dpiLockLoss p => Sys2Proof.Machine.execDpiLockLoss p s
  | .dpiLinkEnable m p => Sys2Proof.Machine.execDpiLinkEnable m p s
  | .dpiIrqHpd m p => Sys2Proof.Machine.execDpiIrqHpd m p s
  | .dpiAuxRequest p r => Sys2Proof.Machine.execDpiAuxRequest p r s
  | .dspCtxEnable m n ctrl => Sys2Proof.Machine.execDspCtxEnable m n ctrl s
  | .dspCtxDisable m n ctrl => Sys2Proof.Machine.execDspCtxDisable m n ctrl s
  | .dspCtxFlush m n ctrl => Sys2Proof.Machine.execDspCtxFlush m n ctrl s
  | .decodeStart n f => Sys2Proof.Machine.execDecodeStart n f s
  | .decodeComplete n r => Sys2Proof.Machine.execDecodeComplete n r s
  | .decodeOverrun n => Sys2Proof.Machine.execDecodeOverrun n s
  | .contextMove c => Sys2Proof.Machine.execContextMove c s
  | .bstRotationInterval => Sys2Proof.Machine.execBstRotationInterval s
  | .engineDrained => Sys2Proof.Machine.execEngineDrained s
  | .cdcEngineDisable m n => Sys2Proof.Machine.execCdcEngineDisable m n s
  | .bufHoldSet m n => Sys2Proof.Machine.execBufHoldSet m n s
  | .bufHoldClear m n => Sys2Proof.Machine.execBufHoldClear m n s
  | .latchPoint n => Sys2Proof.Machine.execLatchPoint n s
  | .tfDataWrite m n v => Sys2Proof.Machine.execTfDataWrite m n v s
  | .coefDataWrite m n v => Sys2Proof.Machine.execCoefDataWrite m n v s
  | .cmpRowDelivered n => Sys2Proof.Machine.execCmpRowDelivered n s
  | .cmpFrameComplete n => Sys2Proof.Machine.execCmpFrameComplete n s
  | .cmpDisable m n => Sys2Proof.Machine.execCmpDisable m n s
  | .frameStart n => Sys2Proof.Machine.execFrameStart n s
  | .petalRowEvaluate n => Sys2Proof.Machine.execPetalRowEvaluate n s
  | .rowLate n r => Sys2Proof.Machine.execRowLate n r s
  | .pmapHeaderWrite n => Sys2Proof.Machine.execPmapHeaderWrite n s
  | .refRenderComplete n v => Sys2Proof.Machine.execRefRenderComplete n v s
  | .grdCntRead m n => Sys2Proof.Machine.execGrdCntRead m n s
  | .outEnable m n => Sys2Proof.Machine.execOutEnable m n s
  | .outDisable m n => Sys2Proof.Machine.execOutDisable m n s
  | .outRelease m n => Sys2Proof.Machine.execOutRelease m n s
  | .releaseLatchPoint n => Sys2Proof.Machine.execReleaseLatchPoint n s
  | .outHold m n => Sys2Proof.Machine.execOutHold m n s
  | .slipLine n => Sys2Proof.Machine.execSlipLine n s
  | .synthLockLoss n => Sys2Proof.Machine.execSynthLockLoss n s
  | .linkTrain n c => Sys2Proof.Machine.execLinkTrain n c s
  | .linkTrainDone n => Sys2Proof.Machine.execLinkTrainDone n s
  | .hpdIrq n => Sys2Proof.Machine.execHpdIrq n s
  | .hpdUnplug n => Sys2Proof.Machine.execHpdUnplug n s
  | .hpdPlug n => Sys2Proof.Machine.execHpdPlug n s
  | .auxI2cWrite m n len addr => Sys2Proof.Machine.execAuxI2cWrite m n len addr s
  | .auxI2cRead m n len addr => Sys2Proof.Machine.execAuxI2cRead m n len addr s
  | .auxI2cWriteMot m n len addr => Sys2Proof.Machine.execAuxI2cWriteMot m n len addr s
  | .auxI2cReadMot m n len addr => Sys2Proof.Machine.execAuxI2cReadMot m n len addr s
  | .auxNativeWrite m n len addr => Sys2Proof.Machine.execAuxNativeWrite m n len addr s
  | .auxNativeRead m n len addr => Sys2Proof.Machine.execAuxNativeRead m n len addr s
  | .auxReply n r => Sys2Proof.Machine.execAuxReply n r s
  | .auxReplyTimeout n => Sys2Proof.Machine.execAuxReplyTimeout n s
  | .auxDeferRetry n => Sys2Proof.Machine.execAuxDeferRetry n s
  | .encChEnable m c ctrl => Sys2Proof.Machine.execEncChEnable m c ctrl s
  | .encChDisable m c ctrl => Sys2Proof.Machine.execEncChDisable m c ctrl s
  | .encForceIdr m c => Sys2Proof.Machine.execEncForceIdr m c s
  | .encFrameCopy c => Sys2Proof.Machine.execEncFrameCopy c s
  | .encPictureComplete c r => Sys2Proof.Machine.execEncPictureComplete c r s
  | .encPacketSend c => Sys2Proof.Machine.execEncPacketSend c s
  | .encSenderReport c => Sys2Proof.Machine.execEncSenderReport c s
  | .ngLinkEnable m p => Sys2Proof.Machine.execNgLinkEnable m p s
  | .ngRetrain m p => Sys2Proof.Machine.execNgRetrain m p s
  | .ngTrainPhaseDone p => Sys2Proof.Machine.execNgTrainPhaseDone p s
  | .ngTrainTimeout p => Sys2Proof.Machine.execNgTrainTimeout p s
  | .ngTrainRetry p => Sys2Proof.Machine.execNgTrainRetry p s
  | .trainFlitReceive p f => Sys2Proof.Machine.execTrainFlitReceive p f s
  | .idleFlitReceive p f => Sys2Proof.Machine.execIdleFlitReceive p f s
  | .linkAckReceive p f => Sys2Proof.Machine.execLinkAckReceive p f s
  | .linkNakReceive p f => Sys2Proof.Machine.execLinkNakReceive p f s
  | .picStartReceive p f => Sys2Proof.Machine.execPicStartReceive p f s
  | .picDataReceive p f => Sys2Proof.Machine.execPicDataReceive p f s
  | .picEndReceive p f => Sys2Proof.Machine.execPicEndReceive p f s
  | .ngReplayTimeout p => Sys2Proof.Machine.execNgReplayTimeout p s
  | .ngGiveUp p => Sys2Proof.Machine.execNgGiveUp p s
  | .ngBlockLockLoss p => Sys2Proof.Machine.execNgBlockLockLoss p s
  | .ngAckSend p => Sys2Proof.Machine.execNgAckSend p s
  | .ngPicSendStart p duty => Sys2Proof.Machine.execNgPicSendStart p duty s
  | .ngPicSendEnd p => Sys2Proof.Machine.execNgPicSendEnd p s
  | .ngPicTimeout c => Sys2Proof.Machine.execNgPicTimeout c s
  | .picHistoryForget orig stream => Sys2Proof.Machine.execPicHistoryForget orig stream s
  | .gateRelease c => Sys2Proof.Machine.execGateRelease c s
  | .kibHeartbeatSend => Sys2Proof.Machine.execKibHeartbeatSend s
  | .kibClaimNoticeSend => Sys2Proof.Machine.execKibClaimNoticeSend s
  | .heartbeatReceive a => Sys2Proof.Machine.execHeartbeatReceive a s
  | .claimNoticeReceive a => Sys2Proof.Machine.execClaimNoticeReceive a s
  | .kibPathTimeout peer path => Sys2Proof.Machine.execKibPathTimeout peer path s
  | .dutyTake m => Sys2Proof.Machine.execDutyTake m s
  | .dutyYield m => Sys2Proof.Machine.execDutyYield m s
  | .dutyForce m => Sys2Proof.Machine.execDutyForce m s
  | .dutyUnforce m => Sys2Proof.Machine.execDutyUnforce m s
  | .dutyRoleWrite m v => Sys2Proof.Machine.execDutyRoleWrite m v s
  | .kibResyncDone => Sys2Proof.Machine.execKibResyncDone s
  | .dmcInit m n => Sys2Proof.Machine.execDmcInit m n s
  | .dmcInitDone n fails => Sys2Proof.Machine.execDmcInitDone n fails s
  | .dmcZqCal n rank => Sys2Proof.Machine.execDmcZqCal n rank s
  | .dmcDqsOsc n rank => Sys2Proof.Machine.execDmcDqsOsc n rank s
  | .dramRead m priv line e => Sys2Proof.Machine.execDramRead m priv line e s
  | .dramWrite m priv line data => Sys2Proof.Machine.execDramWrite m priv line data s
  | .dramPartialWrite m priv addr data e => Sys2Proof.Machine.execDramPartialWrite m priv addr data e s
  | .dramReadRetry m line retries => Sys2Proof.Machine.execDramReadRetry m line retries s
  | .poisonQueuePop m n => Sys2Proof.Machine.execPoisonQueuePop m n s
  | .scrubRead n e => Sys2Proof.Machine.execScrubRead n e s
  | .ceWindowEnd n => Sys2Proof.Machine.execCeWindowEnd n s
  | .caParityAlert n rank => Sys2Proof.Machine.execCaParityAlert n rank s
  | .refreshDue n rank pending => Sys2Proof.Machine.execRefreshDue n rank pending s
  | .refreshMakeup n rank => Sys2Proof.Machine.execRefreshMakeup n rank s
  | .mr4Poll n hot => Sys2Proof.Machine.execMr4Poll n hot s
  | .selfRefreshEntry n => Sys2Proof.Machine.execSelfRefreshEntry n s
  | .selfRefreshExit n ok => Sys2Proof.Machine.execSelfRefreshExit n ok s
  | .migStart m n ctrl => Sys2Proof.Machine.execMigStart m n ctrl s
  | .migUnitCopy n e0 e1 => Sys2Proof.Machine.execMigUnitCopy n e0 e1 s
  | .timerCompare p => Sys2Proof.Machine.execTimerCompare p s
  | .interruptOffer c enabled => Sys2Proof.Machine.execInterruptOffer c enabled s
  | .interruptAccept p => Sys2Proof.Machine.execInterruptAccept p s
  | .interruptDecline p => Sys2Proof.Machine.execInterruptDecline p s
  | .icaEoi m => Sys2Proof.Machine.execIcaEoi m s
  | .swiSet m c src => Sys2Proof.Machine.execSwiSet m c src s
  | .cntClear m c src => Sys2Proof.Machine.execCntClear m c src s
  | .icaPmrWrite m k v => Sys2Proof.Machine.execIcaPmrWrite m k v s
  | .icsThreshWrite m g v => Sys2Proof.Machine.execIcsThreshWrite m g v s
  | .lockstepMismatch g => Sys2Proof.Machine.execLockstepMismatch g s
  | .regionEnable m g r ctrl => Sys2Proof.Machine.execRegionEnable m g r ctrl s
  | .gateLock m g => Sys2Proof.Machine.execGateLock m g s
  | .gateFaultClear m g => Sys2Proof.Machine.execGateFaultClear m g s
  | .gateDrainRead m g => Sys2Proof.Machine.execGateDrainRead m g s
  | .gateDrainAnswer g => Sys2Proof.Machine.execGateDrainAnswer g s
  | .dmaDescFetch e c => Sys2Proof.Machine.execDmaDescFetch e c s
  | .dmaCopy e c => Sys2Proof.Machine.execDmaCopy e c s
  | .dmaFill e c => Sys2Proof.Machine.execDmaFill e c s
  | .dmaCrc e c => Sys2Proof.Machine.execDmaCrc e c s
  | .dmaCopyCrc e c => Sys2Proof.Machine.execDmaCopyCrc e c s
  | .dmaDescComplete e c i1 => Sys2Proof.Machine.execDmaDescComplete e c i1 s
  | .dmaCqWrite e => Sys2Proof.Machine.execDmaCqWrite e s
  | .dmaResume m e c => Sys2Proof.Machine.execDmaResume m e c s
  | .dmaChDisable m e c => Sys2Proof.Machine.execDmaChDisable m e c s
  | .dmaRingConfig m e c v => Sys2Proof.Machine.execDmaRingConfig m e c v s
  | .crcStart m u => Sys2Proof.Machine.execCrcStart m u s
  | .crcFinish m u => Sys2Proof.Machine.execCrcFinish m u s
  | .crcData m u v => Sys2Proof.Machine.execCrcData m u v s
  | .crcData8 m u v => Sys2Proof.Machine.execCrcData8 m u v s
  | .crcCfgWrite m u v => Sys2Proof.Machine.execCrcCfgWrite m u v s
  | .touchScanEnable m => Sys2Proof.Machine.execTouchScanEnable m s
  | .touchScanDisable m => Sys2Proof.Machine.execTouchScanDisable m s
  | .touchScanStart => Sys2Proof.Machine.execTouchScanStart s
  | .touchScanEnd r => Sys2Proof.Machine.execTouchScanEnd r s
  | .touchDiag m => Sys2Proof.Machine.execTouchDiag m s
  | .touchDiagDone r => Sys2Proof.Machine.execTouchDiagDone r s
  | .touchWatchRequest => Sys2Proof.Machine.execTouchWatchRequest s
  | .bstRun m readBackZero => Sys2Proof.Machine.execBstRun m readBackZero s
  | .bstRunEnd part execCount sig => Sys2Proof.Machine.execBstRunEnd part execCount sig s
  | .bstAbort m => Sys2Proof.Machine.execBstAbort m s
  | .bstRunTimeout part => Sys2Proof.Machine.execBstRunTimeout part s
  | .seqFirmwareCheck n => Sys2Proof.Machine.execSeqFirmwareCheck n s
  | .keyZeroise m readBackZero => Sys2Proof.Machine.execKeyZeroise m readBackZero s
  | .loadPlain m len256 => Sys2Proof.Machine.execLoadPlain m len256 s
  | .loadWrapped m wrap len256 => Sys2Proof.Machine.execLoadWrapped m wrap len256 s
  | .slotClear m => Sys2Proof.Machine.execSlotClear m s
  | .vstoreLoad m => Sys2Proof.Machine.execVstoreLoad m s
  | .vstoreClear m => Sys2Proof.Machine.execVstoreClear m s
  | .rngRead m => Sys2Proof.Machine.execRngRead m s
  | .sessionKeyDerived u => Sys2Proof.Machine.execSessionKeyDerived u s
  | .fuseSvWrite m sv => Sys2Proof.Machine.execFuseSvWrite m sv s
  | .mramStore => Sys2Proof.Machine.execMramStore s
  | .mramRead m priv word bitErrors => Sys2Proof.Machine.execMramRead m priv word bitErrors s
  | .pciLinkEnable m => Sys2Proof.Machine.execPciLinkEnable m s
  | .perstAssert => Sys2Proof.Machine.execPerstAssert s
  | .hostBarAccess bar offset a => Sys2Proof.Machine.execHostBarAccess bar offset a s
  | .pciCmdFetch q r => Sys2Proof.Machine.execPciCmdFetch q r s
  | .hostDoorbell q completion v => Sys2Proof.Machine.execHostDoorbell q completion v s
  | .pciCplPost m v => Sys2Proof.Machine.execPciCplPost m v s
  | .msixMessageDue q => Sys2Proof.Machine.execMsixMessageDue q s
  | .hostD3hot pmeEn pmeClear => Sys2Proof.Machine.execHostD3hot pmeEn pmeClear s
  | .hostD0 busMaster pmeEn pmeClear => Sys2Proof.Machine.execHostD0 busMaster pmeEn pmeClear s
  | .aspmL1Entry => Sys2Proof.Machine.execAspmL1Entry s
  | .functionLevelReset => Sys2Proof.Machine.execFunctionLevelReset s
  | .mgeFrameReceive bytes => Sys2Proof.Machine.execMgeFrameReceive bytes s
  | .mdioRead m phy reg => Sys2Proof.Machine.execMdioRead m phy reg s
  | .mdioWrite m phy reg data => Sys2Proof.Machine.execMdioWrite m phy reg data s
  | .mdioDone data => Sys2Proof.Machine.execMdioDone data s
  | .i2cGo m i1 cmd => Sys2Proof.Machine.execI2cGo m i1 cmd s
  | .i2cDone i1 result data => Sys2Proof.Machine.execI2cDone i1 result data s
  | .uartTx m u v => Sys2Proof.Machine.execUartTx m u v s
  | .uartRxByte u b => Sys2Proof.Machine.execUartRxByte u b s
  | .uartRxPop m u => Sys2Proof.Machine.execUartRxPop m u s
  | .gpioEdge p rising => Sys2Proof.Machine.execGpioEdge p rising s
  | .dbgChallengeRead => Sys2Proof.Machine.execDbgChallengeRead s
  | .dbgResponse level pubkey sig => Sys2Proof.Machine.execDbgResponse level pubkey sig s
  | .ethLinkUp p => Sys2Proof.Machine.execEthLinkUp p s
  | .ethLinkDown p => Sys2Proof.Machine.execEthLinkDown p s
  | .mgeLinkChange up => Sys2Proof.Machine.execMgeLinkChange up s
  | .pcieLinkUp width speed => Sys2Proof.Machine.execPcieLinkUp width speed s
  | .pcieLinkDown => Sys2Proof.Machine.execPcieLinkDown s
  | .perstRelease => Sys2Proof.Machine.execPerstRelease s
  | .msixVectorUnmask v => Sys2Proof.Machine.execMsixVectorUnmask v s
  | .dpiLockGained p f => Sys2Proof.Machine.execDpiLockGained p f s
  | .ngCrcError p f => Sys2Proof.Machine.execNgCrcError p f s
  | .mramStoreComplete => Sys2Proof.Machine.execMramStoreComplete s
  | .bstRerun => Sys2Proof.Machine.execBstRerun s
  | .pllLockLoss d => Sys2Proof.Machine.execPllLockLoss d s
  | .vbatSupplyLoss aonMv => Sys2Proof.Machine.execVbatSupplyLoss aonMv s
  | .rngHealthFail => Sys2Proof.Machine.execRngHealthFail s
  | .uartTxEmpty u => Sys2Proof.Machine.execUartTxEmpty u s

end Sys2Proof.Machine
end

