-- ==== Sys2Proof/Machine/Tick.lean ====
section
/-! DEFINITION. A tick: one TIM clock of 2 ns, with what the clocks alone bring about (R21, R69, R100, R274, R411,
R419, R424, R467). -/

namespace Sys2Proof.Machine

/-- One tick. In reset only the VBAT domain and the supply monitors run, in WATCH the TCH domain too, and in TEST the
self-test (R30, R429, R440); else every domain does. (DESIGN CHOICE, DEDUCED: log entries 2, 76) -/
def tick (s : State) : State :=
  let s := if s.pins.noXtal32 then s else { s with vbt := vbtAdvance s.vbt }
  if s.pwr.inReset then { s with clk := s.clk + 1 }
  else if s.dev = devWatch then { s with clk := s.clk + 1, pwr := { s.pwr with asleep := s.pwr.asleep + 1 } }
  else if s.dev = devTest then keyTick { s with clk := s.clk + 1 }
  else uartTick (keyTick (ngIdleAll (bstTick (timClock (regTick s)))))

end Sys2Proof.Machine
end

