-- ==== Sys2Proof/Machine/Step.lean ====
section
/-! DEFINITION. One step: the command at the front of the queue, or a tick of the device's clocks. -/

namespace Sys2Proof.Machine

/-- One step. A waiting command is taken from the front of the queue and has its effect on the state with the
queue's rest; with an empty queue one tick passes (R21, R431). (DESIGN CHOICE: log entries 1, 2, 14) -/
def step (s : State) : Host.Outcome State Fault Refusal :=
  match s.pending with
  | [] => .next (tick s)
  | c :: rest => exec c { s with pending := rest }

/-- The command that a word spells at the front of the queue; the table gives its rows no bits, so no word
spells one. (DESIGN CHOICE: log entry 1) -/
def State.withFetchWord (s : State) (nbits w : Nat) : State :=
  match decodeTableWord nbits w with
  | some c => { s with pending := c :: s.pending }
  | none => s

end Sys2Proof.Machine
end

