-- ==== Sys2Proof/WellFormed.lean ====
section
/-! DEFINITION. Which commands the manual has: the shapes that the operands of a command must have. Every other
condition on operands has an effect of its own in the manual (an error response, a discarded write). -/

namespace Sys2Proof

/-- The master has caches that hold dirty lines (R337, R341). -/
def Master.caches : Master → Bool
  | .apc _ => true
  | _ => false

/-- An access has some bytes, an atomic 4 or 8 (R11, R338); an APC writes back whole lines of 64 bytes that some store
has dirtied (R337, R339). (DESIGN CHOICE: log entry 3) -/
def Access.formed (m : Master) (a : Nat) : Access → Bool
  | .read n | .fetch n => 0 < n
  | .write bs => !bs.isEmpty
  | .atomic _ d => d.length = 4 || d.length = 8
  | .writeBack d stores => m.caches && d.length = 64 && a % 64 = 0 && !stores.isEmpty

/-- The host reads and writes through its BARs, and does nothing else there (R455). -/
def Access.hostFormed : Access → Bool
  | .read n => 0 < n
  | .write bs => !bs.isEmpty
  | .fetch _ | .atomic _ _ | .writeBack _ _ => false

/-- A command in host memory is 64 bytes (R456). -/
def HostRead.formed : HostRead → Bool
  | .data d => d.length = 64
  | .error => true

/-- Bytes that lie within one 64-byte line and leave a part of it alone (R318). -/
def partLine (addr : Nat) (data : List Byte) : Bool :=
  0 < data.length && data.length < 64 && addr % 64 + data.length ≤ 64

/-- The TYPE codes that R268 defines. -/
def flitTypes : List Nat := [0x00, 0x01, 0x02, 0x03, 0x10, 0x11, 0x12, 0x20]

/-- A flit that arrives under the name of one type has that type, or a type that R268 leaves reserved. -/
def Flit.named (f : Flit) (type : Nat) : Bool := f.type = type || !flitTypes.contains f.type

/-- The operands have the shape of the command. (DESIGN CHOICE: log entry 3) -/
def Instr.wellFormed : Instr → Bool
  | .registerWrite _ _ _ size _ => size = 1 || size = 2 || size = 4 || size = 8
  | .fabricAccess m _ addr a => a.formed m addr.toNat
  | .dramWrite _ _ _ data => data.length = 64
  | .dramPartialWrite _ _ addr data _ => partLine addr.toNat data
  | .hostBarAccess _ _ a => a.hostFormed
  | .pciCmdFetch _ r => r.formed
  | .trainFlitReceive _ f => f.named 3
  | .idleFlitReceive _ f => f.named 0
  | .linkAckReceive _ f => f.named 1
  | .linkNakReceive _ f => f.named 2
  | .picStartReceive _ f => f.named 0x10
  | .picDataReceive _ f => f.named 0x11
  | .picEndReceive _ f => f.named 0x12
  | .pairHighWrite .. | .pairLowRead .. | .rcRead .. | .softReset .. | .softResetDone ..
  | .blockEnable .. | .blockDisable .. | .errClear .. | .powerOn .. | .supplyReset ..
  | .brownoutWarning .. | .brownoutEnd .. | .resetPin .. | .softwareReset .. | .debugReset ..
  | .deviceResetRelease .. | .bootImageVerify .. | .apcRun .. | .bootDone .. | .sysWithdraw ..
  | .watchEntry .. | .watchWake .. | .testEntry .. | .vbatMeasure .. | .ptpSet .. | .ptpStep ..
  | .ptpSlew .. | .slewDone .. | .ptpRateAdj .. | .ptpTimeSnapshot .. | .syncWindowExpire ..
  | .vbatTimeCopy .. | .vbatTrimUpdate .. | .tsqPop .. | .tsqLostRead .. | .ttuArm .. | .ttuDisarm ..
  | .ttuPulseStart .. | .ttuPulseEnd .. | .capinEdge .. | .capPop .. | .ethFrameReceive ..
  | .prpEntryForget .. | .jbGapRelease .. | .srExpire .. | .ethTxRequest .. | .ethRingOff ..
  | .srcCtxEnable .. | .srcCtxDisable .. | .srcPageDisable .. | .srcStatClear .. | .srcTimeoutCheck ..
  | .dpiFrameStart .. | .dpiFrameEnd .. | .dpiLockLoss .. | .dpiLinkEnable .. | .dpiIrqHpd ..
  | .dpiAuxRequest .. | .dspCtxEnable .. | .dspCtxDisable .. | .dspCtxFlush .. | .decodeStart ..
  | .decodeComplete .. | .decodeOverrun .. | .contextMove .. | .bstRotationInterval ..
  | .engineDrained .. | .cdcEngineDisable .. | .bufHoldSet .. | .bufHoldClear .. | .latchPoint ..
  | .tfDataWrite .. | .coefDataWrite .. | .cmpRowDelivered .. | .cmpFrameComplete .. | .cmpDisable ..
  | .frameStart .. | .petalRowEvaluate .. | .rowLate .. | .pmapHeaderWrite .. | .refRenderComplete ..
  | .grdCntRead .. | .outEnable .. | .outDisable .. | .outRelease .. | .releaseLatchPoint ..
  | .outHold .. | .slipLine .. | .synthLockLoss .. | .linkTrain .. | .linkTrainDone .. | .hpdIrq ..
  | .hpdUnplug .. | .hpdPlug .. | .auxI2cWrite .. | .auxI2cRead .. | .auxI2cWriteMot ..
  | .auxI2cReadMot .. | .auxNativeWrite .. | .auxNativeRead .. | .auxReply .. | .auxReplyTimeout ..
  | .auxDeferRetry .. | .encChEnable .. | .encChDisable .. | .encForceIdr .. | .encFrameCopy ..
  | .encPictureComplete .. | .encPacketSend .. | .encSenderReport .. | .ngLinkEnable .. | .ngRetrain ..
  | .ngTrainPhaseDone .. | .ngTrainTimeout .. | .ngTrainRetry .. | .ngReplayTimeout .. | .ngGiveUp ..
  | .ngBlockLockLoss .. | .ngAckSend .. | .ngPicSendStart .. | .ngPicSendEnd .. | .ngPicTimeout ..
  | .picHistoryForget .. | .gateRelease .. | .kibHeartbeatSend .. | .kibClaimNoticeSend ..
  | .heartbeatReceive .. | .claimNoticeReceive .. | .kibPathTimeout .. | .dutyTake .. | .dutyYield ..
  | .dutyForce .. | .dutyUnforce .. | .dutyRoleWrite .. | .kibResyncDone .. | .dmcInit ..
  | .dmcInitDone .. | .dmcZqCal .. | .dmcDqsOsc .. | .dramRead .. | .dramReadRetry ..
  | .poisonQueuePop .. | .scrubRead .. | .ceWindowEnd .. | .caParityAlert .. | .refreshDue ..
  | .refreshMakeup .. | .mr4Poll .. | .selfRefreshEntry .. | .selfRefreshExit .. | .migStart ..
  | .migUnitCopy .. | .timerCompare .. | .interruptOffer .. | .interruptAccept .. | .interruptDecline ..
  | .icaEoi .. | .swiSet .. | .cntClear .. | .icaPmrWrite .. | .icsThreshWrite .. | .lockstepMismatch ..
  | .regionEnable .. | .gateLock .. | .gateFaultClear .. | .gateDrainRead .. | .gateDrainAnswer ..
  | .dmaDescFetch .. | .dmaCopy .. | .dmaFill .. | .dmaCrc .. | .dmaCopyCrc .. | .dmaDescComplete ..
  | .dmaCqWrite .. | .dmaResume .. | .dmaChDisable .. | .dmaRingConfig .. | .crcStart .. | .crcFinish ..
  | .crcData .. | .crcData8 .. | .crcCfgWrite .. | .touchScanEnable .. | .touchScanDisable ..
  | .touchScanStart .. | .touchScanEnd .. | .touchDiag .. | .touchDiagDone .. | .touchWatchRequest ..
  | .bstRun .. | .bstRunEnd .. | .bstAbort .. | .bstRunTimeout .. | .seqFirmwareCheck ..
  | .keyZeroise .. | .loadPlain .. | .loadWrapped .. | .slotClear .. | .vstoreLoad .. | .vstoreClear ..
  | .rngRead .. | .sessionKeyDerived .. | .fuseSvWrite .. | .mramStore .. | .mramRead ..
  | .pciLinkEnable .. | .perstAssert .. | .hostDoorbell .. | .pciCplPost .. | .msixMessageDue ..
  | .hostD3hot .. | .hostD0 .. | .aspmL1Entry .. | .functionLevelReset .. | .mgeFrameReceive ..
  | .mdioRead .. | .mdioWrite .. | .mdioDone .. | .i2cGo .. | .i2cDone .. | .uartTx .. | .uartRxByte ..
  | .uartRxPop .. | .gpioEdge .. | .dbgChallengeRead .. | .dbgResponse .. | .ethLinkUp ..
  | .ethLinkDown .. | .mgeLinkChange .. | .pcieLinkUp .. | .pcieLinkDown .. | .perstRelease ..
  | .msixVectorUnmask .. | .dpiLockGained .. | .ngCrcError .. | .mramStoreComplete .. | .bstRerun ..
  | .pllLockLoss .. | .vbatSupplyLoss .. | .rngHealthFail .. | .uartTxEmpty .. => true

end Sys2Proof
end

