-- ==== Sys2Proof/Safety.lean ====
section
/-! DEFINITION. What counts as a safe run, in the terms that claims use. -/

namespace Sys2Proof.Machine

/-- A step goes on: it answers a next state. -/
def goesOn (o : Host.Outcome State Fault Refusal) : Prop := ∃ t, o = .next t

/-- The command has its effect: `exec` answers a next state, of which `post` holds. -/
def completes (i : Instr) (s : State) (post : State → Prop) : Prop := ∃ t, exec i s = .next t ∧ post t

/-- The response to an access that a master issues now need not wait for those of its earlier accesses: it may return out of
order, or none of them is outstanding (R28, R341). -/
abbrev inTurn (m : Master) (s : State) : Prop := keepsOrder m = true → outstanding m s.accId s = false

/-- A master issues an access, the gate before it admits every part of it, and neither the access nor its response waits for
an earlier one of that master (R28, R29, R30, R359 to R364). -/
abbrev admits (m : Master) (priv : Bool) (kind : AccKind) (a len : Nat) (s : State) : Prop :=
  reachesAt m priv kind a len s = true ∧ mustWait m a len s = false ∧ inTurn m s

/-- A register write of a master is issued and admitted by its gate, passes the checks that every page makes, and its
response does not wait (R7, R15, R18 to R20, R28, R31, R359, R369). -/
abbrev admitted (m : Master) (page off : Nat) (v : Word) (s : State) : Prop :=
  reaches m .write page off s = true ∧ admitWrite m page off v s = none ∧ inTurn m s

/-- A register read of a master is issued and admitted by its gate, its page takes it, and its response does not wait (R15,
R19, R28, R359). -/
abbrev admittedRead (m : Master) (page off : Nat) (s : State) : Prop :=
  reaches m .read page off s = true ∧ admitRead page off s = none ∧ inTurn m s

/-- No access to memory is being made again and none waits for one, so that an access of a block is carried out at once
(R29). -/
def noneWaits (s : State) : Prop := s.behind = [] ∧ ∀ n, (smAt n s.dmc).retries = []

/-- The gate before a master is enabled and refuses every access to a register page, whatever its PRIV (R359 to R363). -/
def keptToMemory (m : Master) (s : State) : Prop :=
  ∃ g, gateOf m = some g ∧ s.enabled (8 + g) = true
    ∧ ∀ a kind priv, region a = .regs → (judgePart g a kind priv s).1.isSome = true

/-- A span of addresses lies in DRAM or system SRAM (R10). -/
def inMemory (a len : Nat) : Prop := ∀ i, i < len → region (a + i) = .dram ∨ region (a + i) = .sram

/-- A register of the device: page, offset, and the instance of a windowed one. -/
def isReg (p o i : Nat) : Prop := p < 0x100 ∧ o < 0x1000 ∧ i < 0x1000

/-- A write is refused with a code: for a code below 0x40 an error response, for a code of the page what the manual leaves
open (log entry 7), the code and the master in the error registers of the page when
they are clear, and no register changes but those (R18). (DESIGN CHOICE: log entry 7) -/
def refusedWith (m : Master) (page code : Nat) (s t : State) : Prop :=
  t.resp = { ok := decide (0x40 ≤ code) && !Config.codeErrors page code, data := 0 } ∧ t.mem = s.mem ∧ t.pending = s.pending
    ∧ (s.rf page 0x01C 31 24 = 0 → t.rf page 0x01C 15 0 = code ∧ t.rf page 0x01C 23 16 = masterId m)
    ∧ ∀ p o i, isReg p o i → (p ≠ page ∨ i ≠ 0 ∨ (o ≠ 0x01C ∧ o ≠ 0x020 ∧ o ≠ 0x024)) → t.regAt p o i = s.regAt p o i

/-- Memory, the queue of commands, and the registers of every page but the given ones and the two interrupt controllers',
which count the events of pages (R344 to R346), are as they were. -/
def keeps (pages : List Nat) (s t : State) : Prop :=
  t.mem = s.mem ∧ t.pending = s.pending
    ∧ ∀ p o i, isReg p o i → p ∉ pages → p ≠ 6 → p ≠ 7 → t.regAt p o i = s.regAt p o i

/-- A device reset is asserted for a cause: the cause is kept in the VBAT domain, every register is at its reset value,
memory other than MRAM and the boot ROM reads 0, and what waits, what was sent and the fuses are as they were (R434 to
R436). -/
def inDeviceReset (cause : Nat) (s t : State) : Prop :=
  t.pwr.inReset = true ∧ t.pwr.resets = s.pwr.resets + 1 ∧ t.vbt.cause = cause ∧ t.regs = []
    ∧ (∀ a, region a ≠ .mram → region a ≠ .rom → t.rdByte a = 0)
    ∧ t.pending = s.pending ∧ t.outbox = s.outbox ∧ t.fuseSv = s.fuseSv
    ∧ t.mrm.queue = [] ∧ t.mrm.withheld = []

/-- Memory reads alike in two states. -/
def sameMemory (s t : State) : Prop := ∀ a, t.rdByte a = s.rdByte a

/-- The commands that wait are commands of the manual. -/
def State.commandsFormed (s : State) : Prop := ∀ c ∈ s.pending, c.wellFormed = true

/-- The sparse tables of the state that hold registers and memory are in their canonical form: equal contents
are equal data. -/
def State.canonical (s : State) : Prop := smWf resetOf s.regs = true ∧ Memory.wf s.mem = true

/-- A run of `n` steps from a state is safe when none of them stops. -/
def safeRun : Nat → State → Prop
  | 0, _ => True
  | n + 1, s => ∃ t, step s = .next t ∧ safeRun n t

end Sys2Proof.Machine
end

