-- ==== Sys2Proof/Certificates/Slice0/Obligations.lean ====
section
/-! DEFINITION. The statements for the provers. -/

open Sys2Proof Sys2Proof.Machine

/-- A step takes the command at the front of the queue and runs it on the state with the queue's rest. -/
def Obligations.StepRunsFrontCommand : Prop :=
  ∀ (c : Instr) (rest : List Instr) (s : State), s.pending = c :: rest →
    step s = exec c { s with pending := rest }

/-- With an empty queue a step goes on with one tick (the model's choice of what an idle step is, log entry 2): the
VBAT domain advances where its crystal is fitted. In reset nothing else happens but that the supply monitors' clock runs on;
in WATCH that clock counts the time asleep as well; in TEST the key store completes what is due. In every other state, with
no access of a block to a register on its way, one TIM clock passes, and the VBAT domain does nothing more unless a command
on its secret store is in progress. With the clocks of the device running, the network time then advances by 2 ns, twice
RATE_ADJ and the slew term, in units of 2⁻⁴⁰ ns, modulo 2⁶⁴ seconds; the slew term is 2^(41 − SHIFT) with the sign of what
remains, in the last clock what remains, and is taken off it. The epoch stays, and the elapsed network time from which
intervals are measured advances by the same increment, and stands still in reset, in WATCH and in TEST. -/
def Obligations.IdleStepTicks : Prop :=
  ∀ s : State, s.pending = [] → ∃ t, step s = .next t ∧ t.pending = []
    ∧ let v := if s.pins.noXtal32 then s.vbt else vbtAdvance s.vbt
      (s.pwr.inReset = true → t = { s with vbt := v, clk := s.clk + 1 })
    ∧ (s.pwr.inReset = false → s.dev = devWatch →
        t = { s with vbt := v, clk := s.clk + 1, pwr := { s.pwr with asleep := s.pwr.asleep + 1 } })
    ∧ (s.pwr.inReset = false → s.dev = devTest → t = keyTick { s with vbt := v, clk := s.clk + 1 })
    ∧ (s.pwr.inReset = false → s.dev ≠ devWatch → s.ownRegs = [] →
        t.clk = s.clk + 1 ∧ (s.key.vstore = none → t.vbt = v))
    ∧ (s.pwr.inReset = false → s.dev ≠ devWatch → s.dev ≠ devTest → s.ownRegs = [] →
        let q : Int := 2 ^ (41 - s.rf pPtp 0x070 4 0)
        let term := if s.tm.slew = 0 then 0 else if 0 < s.tm.slew then min q s.tm.slew else max (-q) s.tm.slew
        let inc : Int := 2 * 2 ^ 40 + 2 * sW (s.reg pPtp 0x068) + term
        t.tm.now = (Int.ofNat s.tm.now + inc).toNat % (2 ^ 64 * 1000000000 * 2 ^ 40) ∧ t.tm.slew = s.tm.slew - term
          ∧ t.tm.run = (Int.ofNat s.tm.run + inc).toNat ∧ t.tm.epoch = s.tm.epoch)

/-- In any state, a command whose operands have the shape of the command (the model's reading of which commands the manual
has, log entry 3) goes on: it ends in no fault and no refusal. Any other is refused as ill formed. -/
def Obligations.CommandGoesOnWhenWellFormed : Prop :=
  ∀ (c : Instr) (s : State), (c.wellFormed = true → ∃ t, exec c s = .next t)
    ∧ (c.wellFormed = false → ∃ w, exec c s = .refused (.illFormed w))

/-- No command and no tick takes a withdrawn device out of WITHDRAWN, but for a device reset: after every step of a device
in WITHDRAWN outside reset, it is in WITHDRAWN still, or a device reset is asserted.
Where a clause follows a choice of the model, the choice is that of log entries 76 and 88. -/
def Obligations.WithdrawnUntilReset : Prop :=
  ∀ s t : State, s.dev = devWithdrawn → s.pwr.inReset = false → step s = .next t →
    t.dev = devWithdrawn ∨ t.pwr.inReset = true

/-- For every state whose register file and memory are in canonical form, a step that goes on leaves them in
canonical form: no command and no tick writes an entry twice, out of order, or with the value an absent entry reads
as, so equal contents are equal data. -/
def Obligations.StepKeepsCanonicalForm : Prop :=
  ∀ s t : State, s.canonical → step s = .next t → t.canonical

/-- A command leaves the commands that wait behind it as they are; so along every step the queue loses its front and
nothing else, and waiting commands that are well formed stay so. -/
def Obligations.QueueIsFirstInFirstOut : Prop :=
  (∀ (c : Instr) (s t : State), exec c s = .next t → t.pending = s.pending)
    ∧ (∀ s t : State, step s = .next t → t.pending = s.pending.tail)
    ∧ (∀ s t : State, s.commandsFormed → step s = .next t → t.commandsFormed)

/-- The state after reset: nothing waits, registers and memory are canonical and the waiting commands well formed,
the device is in BOOT, every page whose ENABLE is fixed reads ENABLE 1 and every other page 0, no event bit is
raised, the epoch and its copy in the VBAT domain are 1, and no page holds an error.
Where a clause follows a choice of the model, the choice is that of log entry 4. -/
def Obligations.ResetState : Prop :=
  State.reset.pending = [] ∧ State.reset.canonical ∧ State.reset.commandsFormed ∧ State.reset.dev = devBoot
    ∧ State.reset.tm.epoch = 1 ∧ State.reset.vbt.epoch = 1
    ∧ ∀ p : Fin 141, State.reset.enabled p.val = enableFixed p.val ∧ State.reset.reg p.val 0x010 = 0
        ∧ State.reset.reg p.val 0x01C = 0

/-- A fabric access to system SRAM that a running master issues and its gate admits, within one 4 KiB page: a read or fetch
answers the bytes and changes nothing but the response; a write, and an APC's write-back of a line (which carries the
lowest PRIV of its stores), answer without error, store their bytes, and leave every other byte, every register and the
queue as they were. A master whose responses return in issue order has the response to such a read only after those
of its earlier accesses: until then it waits. A read, fetch or write in a page of an unmapped range, or of DRAM at or above
SYS_DRAM_TOP, has an error response with data 0; SYS records code 0x01 with the master and the address where it held no
error; memory is as it was, and no register changes but the error registers of SYS and, where an APC's store to DRAM has
failed, its BUSERR registers and the controllers' overflow bits.
Where a clause follows a choice of the model, the choice is that of log entry 14. -/
def Obligations.SramAccess : Prop :=
  ∀ (m : Master) (priv : Bool) (addr : Addr) (s : State),
    (∀ n bs kind acc, (acc = .read n ∧ kind = .read ∨ acc = .fetch n ∧ kind = .fetch
          ∨ acc = .write bs ∧ bs.length = n ∧ kind = .write) →
      (region addr.toNat = .unmapped ∨ region addr.toNat = .dram ∧ dramTop s ≤ addr.toNat) →
      0 < n → addr.toNat % 0x1000 + n ≤ 0x1000 → admits m priv kind addr.toNat n s →
      completes (.fabricAccess m priv addr acc) s fun t =>
        t.resp = { ok := false, data := 0 } ∧ t.mem = s.mem
          ∧ (s.rf 0 0x01C 31 24 = 0 → t.rf 0 0x01C 15 0 = 1 ∧ t.rf 0 0x01C 23 16 = masterId m
              ∧ t.reg 0 0x020 = loW addr.toNat ∧ t.reg 0 0x024 = hiW addr.toNat)
          ∧ ∀ p o i, isReg p o i → ¬(p = 0 ∧ i = 0 ∧ (o = 0x01C ∨ o = 0x020 ∨ o = 0x024)) →
              (∀ k, m = .apc k → kind = .write → region addr.toNat = .dram → i = 0 →
                ¬(p = 6 ∧ (o = 0x110 + 0x20 * k.val ∨ o = 0x114 + 0x20 * k.val))
                  ∧ ¬((p = 6 ∨ p = 7) ∧ (o = 0x010 ∨ o = 0x600 ∨ o = 0x618))) →
              t.regAt p o i = s.regAt p o i)
    ∧ (region addr.toNat = .sram →
    (∀ n, 0 < n → addr.toNat % 0x1000 + n ≤ 0x1000 →
      (admits m priv .read addr.toNat n s →
        completes (.fabricAccess m priv addr (.read n)) s fun t =>
          t = s.respond true (leNat (s.rdBytes addr.toNat n)))
      ∧ (admits m priv .fetch addr.toNat n s →
        completes (.fabricAccess m priv addr (.fetch n)) s fun t =>
          t = s.respond true (leNat (s.rdBytes addr.toNat n)))
      ∧ (reachesAt m priv .read addr.toNat n s = true → mustWait m addr.toNat n s = false → keepsOrder m = true →
        outstanding m s.accId s = true →
        completes (.fabricAccess m priv addr (.read n)) s fun t =>
          t = { s with late := putLate { m, kind := .read, addr := addr.toNat, pos := s.accId
                                         resp := { ok := true, data := leNat (s.rdBytes addr.toNat n) } } s.late }))
    ∧ ∀ bs : List Byte, bs ≠ [] → addr.toNat % 0x1000 + bs.length ≤ 0x1000 →
      (admits m priv .write addr.toNat bs.length s →
        completes (.fabricAccess m priv addr (.write bs)) s fun t =>
          t.resp = { ok := true, data := 0 } ∧ t.rdBytes addr.toNat bs.length = bs
            ∧ (∀ a, a < addr.toNat ∨ addr.toNat + bs.length ≤ a → t.rdByte a = s.rdByte a)
            ∧ t.regs = s.regs ∧ t.pending = s.pending)
      ∧ ∀ stores : List Bool, m.caches = true → bs.length = 64 → addr.toNat % 64 = 0 → stores ≠ [] →
        admits m (stores.all id) .write addr.toNat 64 s →
          completes (.fabricAccess m priv addr (.writeBack bs stores)) s fun t =>
            t.resp = { ok := true, data := 0 } ∧ t.rdBytes addr.toNat 64 = bs
              ∧ (∀ a, a < addr.toNat ∨ addr.toNat + 64 ≤ a → t.rdByte a = s.rdByte a)
              ∧ t.regs = s.regs ∧ t.pending = s.pending)

/-- An atomic of 4 or 8 bytes in one page of SRAM that the gate admits answers the old value, stores the operation's value
(the sum modulo the width, the bitwise operations, the signed and unsigned extremes, the swap), and leaves every other byte
and every register as it was. A load-reserved answers the value and reserves it; a store-conditional ends every reservation
of its master, and stores and answers 0 exactly when that reservation is held, else stores nothing and answers 1. One that
crosses into another page is not carried out: an error response, and memory as it was.
Where a clause follows a choice of the model, the choice is that of log entries 20 and 66. -/
def Obligations.SramAtomic : Prop :=
  ∀ (m : Master) (priv : Bool) (addr : Addr) (op : AtomicOp) (data : List Byte) (s : State),
    (data.length = 4 ∨ data.length = 8) → admits m priv .atomic addr.toNat data.length s →
    let old := leNat (s.rdBytes addr.toNat data.length)
    let mine : Reservation := { m := masterId m, addr := addr.toNat, len := data.length }
    let kept := fun (t : State) => ∀ a, a < addr.toNat ∨ addr.toNat + data.length ≤ a → t.rdByte a = s.rdByte a
    (0x1000 < addr.toNat % 0x1000 + data.length →
      completes (.fabricAccess m priv addr (.atomic op data)) s fun t => t.resp.ok = false ∧ t.mem = s.mem)
    ∧ (region addr.toNat = .sram → addr.toNat % 0x1000 + data.length ≤ 0x1000 →
      (op ≠ .lr → op ≠ .sc → completes (.fabricAccess m priv addr (.atomic op data)) s fun t =>
        t.resp = { ok := true, data := old }
          ∧ t.rdBytes addr.toNat data.length = leBytes data.length (amoValue op data.length old (leNat data))
          ∧ kept t ∧ t.regs = s.regs)
      ∧ (completes (.fabricAccess m priv addr (.atomic .lr data)) s fun t =>
        t.resp = { ok := true, data := old } ∧ mine ∈ t.resv ∧ t.mem = s.mem ∧ t.regs = s.regs)
      ∧ completes (.fabricAccess m priv addr (.atomic .sc data)) s fun t =>
        t.resp = { ok := true, data := b2n (!s.resv.contains mine) } ∧ (∀ r ∈ t.resv, r.m ≠ masterId m)
          ∧ (mine ∈ s.resv → t.rdBytes addr.toNat data.length = data) ∧ (mine ∉ s.resv → t.mem = s.mem)
          ∧ kept t ∧ t.regs = s.regs)

/-- An aligned 32-bit access to a register page that is issued and admitted by the gate is carried out at the page and at
the offset of its address. REGISTER_WRITE and PAIR_HIGH_WRITE write the word; the master is answered what the page answered,
in its turn, an error being reported to a processor, unless the access stays in flight. An aligned REGISTER_WRITE of 8 bytes
writes its two words, the lower address first, and is in error where one of them is. One of 1 or 2 bytes, or of 4 or 8 whose
address is no multiple of them, within one page of registers has an error response: the page records code 0x04 where it held
no error, and no other register changes. PAIR_LOW_READ and RC_READ read the word (a read of GTE_DRAIN, which waits, apart)
and answer it. Where a clause follows a choice of the model, the choice is that of log entries 14, 20, 21 and 113. -/
def Obligations.RegisterAccessReachesItsPage : Prop :=
  ∀ (m : Master) (priv : Bool) (page off : Nat) (s : State), page < 141 → off < 0x1000 → off % 4 = 0 →
    let a := pageAddr page off
    let addr : Addr := BitVec.ofNat 40 a
    let written := fun (u : State) => settled m .write a (fun _ => u.respond u.resp.ok 0) s
    let read := pageRead m page off s
    let answered := settled m .read a (fun _ => read.respond read.resp.ok (read.resp.data % 2 ^ 32)) s
    (∀ (size : Nat) (v : BitVec 64) (k : Nat), size ∈ [1, 2] ∨ size ∈ [4, 8] ∧ k % size ≠ 0 → k + size ≤ 0x1000 →
      admits m priv .write (pageAddr page k) size s →
      completes (.registerWrite m priv (BitVec.ofNat 40 (pageAddr page k)) size v) s fun t =>
        t.resp = { ok := false, data := 0 } ∧ t.mem = s.mem
          ∧ (s.rf page 0x01C 31 24 = 0 → t.rf page 0x01C 15 0 = 4 ∧ t.rf page 0x01C 23 16 = masterId m)
          ∧ ∀ p o i, isReg p o i → (p ≠ page ∨ i ≠ 0 ∨ (o ≠ 0x01C ∧ o ≠ 0x020 ∧ o ≠ 0x024)) → t.regAt p o i = s.regAt p o i)
    ∧ (∀ v : BitVec 64, off % 8 = 0 → admits m priv .write a 8 s →
      let p := fixedPriv m priv
      let u := pageWrite ownBus m p page off (v.setWidth 32) s
      let w := pageWrite ownBus m p page (off + 4) ((v >>> 32).setWidth 32) { u with resp := s.resp }
      completes (.registerWrite m priv addr 8 v) s fun t =>
        t = settled m .write a (fun _ => w.respond (u.resp.ok && w.resp.ok) 0) s)
    ∧ (∀ v : BitVec 64, admits m priv .write a 4 s →
      completes (.registerWrite m priv addr 4 v) s fun t =>
        t = written (pageWrite ownBus m (fixedPriv m priv) page off (v.setWidth 32) s))
    ∧ (∀ v : Word, admits m priv .write a 4 s →
      completes (.pairHighWrite m priv addr v) s fun t => t = written (pageWrite ownBus m (fixedPriv m priv) page off v s))
    ∧ (admits m true .read a 4 s → ¬(pageKind page = .gte ∧ off = 0x048) →
      (completes (.pairLowRead m addr) s fun t => t = answered) ∧ completes (.rcRead m addr) s fun t => t = answered)

/-- Outside a soft reset, an access to an offset of a page that no chapter defines completes with an error response:
read data is 0, a write is discarded, and the page's header records code 0x01 with the master and the address when it
is the first error since a clear. No other register changes, and memory is unchanged. (That 0x01 is the code even where the
page would refuse the write for its owner, in WITHDRAWN or under TEST_HOLD is the order of log entry 15, a choice of the
model.)
Where a clause follows a choice of the model, the choice is that of log entry 15. -/
def Obligations.UndefinedOffset : Prop :=
  ∀ (m : Master) (priv : Bool) (page off : Nat) (v : Word) (s : State), page < 141 → off < 0x1000 →
    findRow page off = none → s.resetBusy page = false →
    ∀ t, t = pageWrite ownBus m priv page off v s ∨ t = pageRead m page off s →
      t.resp = { ok := false, data := 0 } ∧ t.mem = s.mem
        ∧ (s.rf page 0x01C 31 24 = 0 → t.rf page 0x01C 15 0 = 1 ∧ t.rf page 0x01C 23 16 = masterId m
            ∧ t.rf page 0x01C 31 24 = 1
            ∧ t.reg page 0x020 = loW (pageAddr page off) ∧ t.reg page 0x024 = hiW (pageAddr page off))
        ∧ ∀ p o i, isReg p o i → (p ≠ page ∨ i ≠ 0 ∨ (o ≠ 0x01C ∧ o ≠ 0x020 ∧ o ≠ 0x024)) →
            t.regAt p o i = s.regAt p o i

/-- Outside a soft reset of its page, a write of a master other than GP0 and GP1 to a guard-owned register (a register
of a guard-owned page, or one that its chapter marks) is discarded with an error response, at every page and whatever the
page would have checked or done: the first error since a clear is recorded as 0x02 with the master, no register changes but
the error registers of the page, and memory is unchanged. Reads of the page are not refused for their master. (That the code
is 0x02 also in WITHDRAWN, under TEST_HOLD and behind a lock is the order of log entry 15, a choice of the model.)
Where a clause follows a choice of the model, the choice is that of log entry 15. -/
def Obligations.GuardOwnedRegister : Prop :=
  ∀ (m : Master) (page off : Nat) (v : Word) (s : State) (r : RegRow), page < 141 → off < 0x1000 →
    findRow page off = some r → (guardPage page = true ∨ r.guard = true) → isGuard m = false →
    s.resetBusy page = false →
    (∃ c, admitWrite m page off v s = some c ∧ c = 0x02
      ∧ ∀ (check : State → Verdict) (eff : State → State),
        let t := regCommand m page off v check eff s
        t.resp = { ok := false, data := 0 } ∧ t.mem = s.mem ∧ (∀ priv, pageWrite ownBus m priv page off v s = t)
          ∧ (s.rf page 0x01C 31 24 = 0 → t.rf page 0x01C 15 0 = 2 ∧ t.rf page 0x01C 23 16 = masterId m)
          ∧ ∀ p o i, isReg p o i → (p ≠ page ∨ i ≠ 0 ∨ (o ≠ 0x01C ∧ o ≠ 0x020 ∧ o ≠ 0x024)) →
              t.regAt p o i = s.regAt p o i)
    ∧ admitRead page off s = none

/-- At any page, an accepted write of the low word of a writable pair changes no register and is held; an accepted
write of the high word makes both halves take effect together, the low half as held, and ends the hold. A read of the low
word that the page admits answers its present value and captures the present value of the high word for the master; in any
later state in which that master still has the capture, its read of the high word answers what was captured and uses it up;
no read touches what a master of another identifier has captured. A read of a register with RC fields on a page that is not
frozen answers the present value and leaves those fields, and no others of it, at their reset values.
Where a clause follows a choice of the model, the choice is that of log entry 16. -/
def Obligations.PairTakesEffectTogether : Prop :=
  ∀ (m : Master) (page off : Nat) (v : Word) (s : State) (r : RegRow), page < 141 → off < 0x1000 →
    findRow page off = some r →
    let p := canonPage page off
    let idx := winIdx r.win m s
    (r.rw ≠ 0 → r.pair = .low → (storeReg m page off v s).regs = s.regs
      ∧ heldOf p off idx (storeReg m page off v s) = v &&& r.rw)
    ∧ (r.rw ≠ 0 → r.pair = .high → 4 ≤ off →
      (storeReg m page off v s).regAt p off idx = r.merge (s.regAt p off idx) v
      ∧ (storeReg m page off v s).regAt p (off - 4) idx = heldOf p (off - 4) idx s
      ∧ smGet (rkey p (off - 4) idx) (storeReg m page off v s).heldLow = none)
    ∧ (admitRead page off s = none →
      let live := liveRead m page off (drainFor p (masterId m) s)
      let high := liveRead m page (off + 4) live.2
      let t := pageRead m page off s
      let key := rkey p (off + 4) idx
      (r.pair = .low → t.resp = { ok := true, data := live.1.toNat }
        ∧ smGet (shadowKey (masterId m) key) t.shadow = some high.1
        ∧ ∀ (u : State) (q : RegRow) (w : Word), findRow page (off + 4) = some q → q.pair = .high →
            winIdx q.win m u = idx → admitRead page (off + 4) u = none →
            smGet (shadowKey (masterId m) key) u.shadow = some w →
            (pageRead m page (off + 4) u).resp = { ok := true, data := w.toNat }
              ∧ smGet (shadowKey (masterId m) key) (pageRead m page (off + 4) u).shadow = none)
      ∧ (∀ (m' : Master) (p' o i : Nat), masterId m' ≠ masterId m → isReg p' o i →
          smGet (shadowKey (masterId m') (rkey p' o i)) t.shadow = smGet (shadowKey (masterId m') (rkey p' o i)) s.shadow)
      ∧ (r.rc ≠ 0 → frozenPage p s = false → t.resp = { ok := true, data := live.1.toNat }
        ∧ t.regAt p off idx &&& r.rc = resetOf (rkey p off idx) &&& r.rc
        ∧ t.regAt p off idx &&& ~~~ r.rc = live.2.regAt p off idx &&& ~~~ r.rc))

/-- The commands of the common header, where the write is issued and admitted and the page's own check takes it (of a
decoding engine where no access to memory waits or is made again).
SOFT_RESET of a page whose ENABLE is not fixed: RESET_BUSY and SOFT_RESET read 1 and every register from 0x040 on
reads its reset value (the dispatcher window apart, which is no part of an engine), with TEST_HOLD as it was.
SOFT_RESET_DONE in a clocked device while RESET_BUSY is 1: both read 0 and every other register is as it was.
BLOCK_ENABLE and BLOCK_DISABLE: the write enters BLK_CTRL and the page starts when it was off, stops when it was on.
ERR_CLEAR: ERR_CODE and ERR_ADDR read 0, and registers from 0x040 on and memory are as they were.
A write of IRQ_RAW clears exactly the bits written, but for those that a condition still holds (log entry 18), and outside
the codec pages, which share two bits, no other register changes. A write of IRQ_EN sets the bits of the page's events and
counts one event of the page's source exactly when it enables a bit of IRQ_RAW that stands and was not enabled. IRQ_STATUS
reads IRQ_RAW and IRQ_EN, on a page that is not frozen.
Where a clause follows a choice of the model, the choice is that of log entries 12 and 17. -/
def Obligations.HeaderCommands : Prop :=
  ∀ (m : Master) (page : Fin 141) (s : State),
    let settles := pageKind page.val = .cdc → noneWaits s
    (admitted m page.val 0x008 2 s → hdrCheck page.val 0x008 2 s = .ok → settles →
      completes (.softReset m page) s fun t =>
        t.resp.ok = true ∧ t.resetBusy page.val = true ∧ t.rb page.val 0x008 1 = true
          ∧ t.testHold page.val = s.testHold page.val
          ∧ ∀ off idx, 0x40 ≤ off → off < 0x1000 → (pageKind page.val = .cdc → off < 0x800) →
              t.regAt page.val off idx = resetOf (rkey page.val off idx))
    ∧ (clocked s = true → s.resetBusy page.val = true →
      completes (.softResetDone page) s fun t =>
        t.resetBusy page.val = false ∧ t.rb page.val 0x008 1 = false ∧ t.mem = s.mem
          ∧ ∀ p o i, isReg p o i → (p ≠ page.val ∨ i ≠ 0 ∨ (o ≠ 0x008 ∧ o ≠ 0x00C)) → t.regAt p o i = s.regAt p o i)
    ∧ (admitted m page.val 0x008 1 s → hdrCheck page.val 0x008 1 s = .ok → settles →
      completes (.blockEnable m page) s fun t =>
        let u := storeReg m page.val 0x008 1 s
        u.enabled page.val = true
          ∧ t = settled m .write (pageAddr page.val 0x008)
              (fun _ => (if s.enabled page.val then u else startPage ownBus page.val u).respond true 0) s)
    ∧ (admitted m page.val 0x008 0 s → hdrCheck page.val 0x008 0 s = .ok → settles →
      completes (.blockDisable m page) s fun t =>
        let u := storeReg m page.val 0x008 0 s
        u.enabled page.val = false
          ∧ t = settled m .write (pageAddr page.val 0x008)
              (fun _ => (if s.enabled page.val then stopPage ownBus page.val u else u).respond true 0) s)
    ∧ (admitted m page.val 0x01C 0x8000 s → hdrCheck page.val 0x01C 0x8000 s = .ok →
      completes (.errClear m page) s fun t =>
        t.resp.ok = true ∧ t.reg page.val 0x01C = 0 ∧ t.reg page.val 0x020 = 0 ∧ t.reg page.val 0x024 = 0
          ∧ t.mem = s.mem ∧ ∀ p o i, isReg p o i → 0x40 ≤ o → t.regAt p o i = s.regAt p o i)
    ∧ (∀ (priv : Bool) (v : Word), admitWrite m page.val 0x010 v s = none → hdrCheck page.val 0x010 v s = .ok →
      let t := pageWrite ownBus m priv page.val 0x010 v s
      t.reg page.val 0x010 = (s.reg page.val 0x010 &&& ~~~ v) ||| heldEvents page.val s
        ∧ (pageKind page.val ≠ .cdc → ∀ p o i, isReg p o i → (p ≠ page.val ∨ o ≠ 0x010 ∨ i ≠ 0) →
            t.regAt p o i = s.regAt p o i))
    ∧ (∀ (priv : Bool) (v : Word), admitWrite m page.val 0x014 v s = none → hdrCheck page.val 0x014 v s = .ok →
      let t := pageWrite ownBus m priv page.val 0x014 v s
      let rise := s.reg page.val 0x010 &&& (v &&& eventMask page.val) &&& ~~~ s.reg page.val 0x014
      t.reg page.val 0x014 = v &&& eventMask page.val
        ∧ (rise = 0 → t.ic.cnt = s.ic.cnt)
        ∧ (rise ≠ 0 → smAt page.val s.ic.cnt < 255 → smAt page.val t.ic.cnt = smAt page.val s.ic.cnt + 1))
    ∧ (admitRead page.val 0x018 s = none → frozenPage page.val s = false →
      (pageRead m page.val 0x018 s).resp
        = { ok := true, data := (s.reg page.val 0x010 &&& s.reg page.val 0x014).toNat })

/-- The age of a capture time not later than the scan time is the difference in µs, rounded up and at most 0xFFFF_FFFF; one
later by at most the tolerance gives 0, one later by more gives 0xFFFF_FFFF and the mark of a capture time in the future. A
layer with an UNTIMED reason is UNTIMED with that reason and no age; any other layer has the age of its earliest capture
time and the first state that holds, of CONCEALED, PRESSED (frozen content: in press mode TOKEN the age plus TOKEN_HOLD
above the token limit, in NONE never, else IDENT_RUN at or above the press limit), WILTED (age above the wilt limit) and
FRESH, each also by its origin state. A petal without a contributing layer is VACANT; any other has the state of one of them
that no other exceeds, in state, then age, then layer number. Where a clause follows a choice of the model, the choice is
that of log entries 26, 27 and 97. -/
def Obligations.AgesAndPetalStates : Prop :=
  (∀ (scan tol : Nat) (ct : Int),
    (ct ≤ scan → (ageOf scan ct tol).2 = false
      ∧ ((scan - ct) ≤ 0xFFFFFFFF * 65536000 → ((ageOf scan ct tol).1 : Int) * 65536000 ≥ scan - ct
          ∧ ((ageOf scan ct tol).1 : Int) * 65536000 < scan - ct + 65536000)
      ∧ (0xFFFFFFFF * 65536000 < scan - ct → (ageOf scan ct tol).1 = 0xFFFFFFFF))
    ∧ ((scan : Int) < ct → ct - scan ≤ tol * 65536000 → ageOf scan ct tol = (0, false))
    ∧ (tol * 65536000 < ct - scan → ageOf scan ct tol = (0xFFFFFFFF, true)))
  ∧ (∀ (f : FrameIn) (c : Contrib) (scan : Nat),
    let r := (f.layers.getD c.layer {}).record
    let p := judgeLayer f c scan
    let why := untimedReason f (f.layers.getD c.layer {}) c scan
    let age := (c.minCt.map fun t => (ageOf scan t r.lim.futureTol).1).getD 0xFFFFFFFF
    let pressed := (r.lim.pressMode = 2 ∧ r.lim.tokenMs * 1000 < age + r.hold
        ∨ r.lim.pressMode ≠ 0 ∧ r.lim.pressMode ≠ 2 ∧ r.lim.frames ≤ r.identRun) ∨ c.origin = stPressed
    let concealed := c.conceal = true ∨ c.origin = stConcealed
    let wilted := r.lim.wilt < age ∨ c.origin = stWilted
    p.layer = c.layer ∧ p.reason = why
      ∧ (why ≠ 0 → p.state = stUntimed ∧ p.age = 0xFFFFFFFF)
      ∧ (why = 0 → p.age = age
          ∧ (p.state = stConcealed ↔ concealed)
          ∧ (p.state = stPressed ↔ ¬concealed ∧ pressed)
          ∧ (p.state = stWilted ↔ ¬concealed ∧ ¬pressed ∧ wilted)
          ∧ (p.state = stFresh ↔ ¬concealed ∧ ¬pressed ∧ ¬wilted)))
  ∧ ∀ (f : FrameIn) (cs : List Contrib) (scan : Nat),
    let p := judgePetal f cs scan
    (cs = [] → p.state = stVacant ∧ p.age = 0xFFFFFFFF ∧ p.layer = 0xF ∧ p.src = 0xFF)
      ∧ (cs ≠ [] → ∃ c ∈ cs, p = judgeLayer f c scan)
      ∧ ∀ c ∈ cs, let q := judgeLayer f c scan;
        q.state ≤ p.state ∧ (q.state = p.state → q.age ≤ p.age) ∧ (q.state = p.state → q.age = p.age → q.layer ≤ p.layer)

/-- The SRC page reaches its 128 contexts through the selection of the accessing master: an admitted write of SRC_SEL sets
that master's selection to bits [6:0] of the value; no write of SRC_SEL changes the selection of a master of another
identifier; a per-context register is stored in the selected context only and read from it (the registers that show the
learned SSRC, the report's age and the shadow of R63 apart). -/
def Obligations.ContextSelectionIsPerMaster : Prop :=
  ∀ (m : Master) (priv : Bool) (v : Word) (s : State),
    (admitted m pSrc 0x040 v s → winIdx .ctx m (pageWrite ownBus m priv pSrc 0x040 v s) = v.toNat % 128
      ∧ (pageWrite ownBus m priv pSrc 0x040 v s).resp = { ok := true, data := 0 })
    ∧ (∀ m' : Master, masterId m' ≠ masterId m →
        winIdx .ctx m' (pageWrite ownBus m priv pSrc 0x040 v s) = winIdx .ctx m' s)
    ∧ ∀ (off : Nat) (r : RegRow), findRow pSrc off = some r → r.win = .ctx →
      (∀ i, i < 128 → i ≠ winIdx .ctx m s → (storeReg m pSrc off v s).regAt pSrc off i = s.regAt pSrc off i)
      ∧ (off ≠ 0x108 → off ≠ 0x138 → off ≠ 0x218 → off ≠ 0x21C → off ≠ 0x220 →
          (liveRead m pSrc off s).1 = s.regAt pSrc off (winIdx .ctx m s))

/-- An admitted read of SRC_LAST_CT_SEC_LO returns the low seconds of the selected context's newest capture time. In every
later state in which the master's shadow of one of 0x218, 0x21C and 0x220 is as that read left it, the master's read of
that register returns what the register held at that read, whatever it holds by then. No read of the SRC page by a master
of another identifier, and no read of another of the three, changes that shadow. -/
def Obligations.CaptureTimeIsReadThroughAShadow : Prop :=
  ∀ (m : Master) (s : State), admitRead pSrc 0x214 s = none →
    let c := winIdx .ctx m s
    let t := pageRead m pSrc 0x214 s
    let held := fun (off : Nat) (u : State) => smGet (shadowKey (masterId m) (rkey pSrc off 0)) u.shadow
    t.resp = { ok := true, data := (s.regAt pSrc 0x214 c).toNat }
    ∧ ∀ off, off = 0x218 ∨ off = 0x21C ∨ off = 0x220 → ∀ u : State,
      (held off u = held off t → admitRead pSrc off u = none →
        (pageRead m pSrc off u).resp = { ok := true, data := (s.regAt pSrc off c).toNat })
      ∧ (∀ (m' : Master) (o : Nat), o < 0x1000 → masterId m' ≠ masterId m →
          held off (pageRead m' pSrc o u) = held off u)
      ∧ ∀ o, (o = 0x218 ∨ o = 0x21C ∨ o = 0x220) → o ≠ off → held off (pageRead m pSrc o u) = held off u

/-- A write of PTP_RATE_ADJ that the page admits: a value in the range is stored and changes no other register; a value
outside it is discarded, with code 0x40 recorded when it is the first error since a clear, and no register but the error
registers of the page changes. -/
def Obligations.RateAdjustmentRange : Prop :=
  ∀ (m : Master) (v : Word) (s : State), admitted m pPtp 0x068 v s →
    (-549755813 ≤ sW v ∧ sW v ≤ 549755813 →
      completes (.ptpRateAdj m v) s fun t =>
        t.reg pPtp 0x068 = v ∧ t.resp = { ok := true, data := 0 } ∧ t.mem = s.mem ∧ t.tm = s.tm
          ∧ ∀ p o i, isReg p o i → (p ≠ pPtp ∨ o ≠ 0x068 ∨ i ≠ 0) → t.regAt p o i = s.regAt p o i)
    ∧ (sW v < -549755813 ∨ 549755813 < sW v →
      completes (.ptpRateAdj m v) s fun t =>
        (s.rf pPtp 0x01C 31 24 = 0 → t.rf pPtp 0x01C 15 0 = 0x40) ∧ t.mem = s.mem ∧ t.tm = s.tm
          ∧ ∀ p o i, isReg p o i → (p ≠ pPtp ∨ i ≠ 0 ∨ (o ≠ 0x01C ∧ o ≠ 0x020 ∧ o ≠ 0x024)) →
              t.regAt p o i = s.regAt p o i)

/-- In a clocked device in BOOT, the end of an initialisation that leaves the channel FAILED, whatever ranks failed at which
steps, and a self-refresh exit whose verification fails, put the device in WITHDRAWN with CLASS 0x9 and INSTANCE 0x10 + n in
SYS_WD_CAUSE; the end of an initialisation that leaves the channel in service leaves the device in BOOT. -/
def Obligations.FailedChannelWithdrawsInBoot : Prop :=
  ∀ (n : Fin 6) (s : State), s.dev = devBoot → clocked s = true →
    (∀ fails, dmcState n.val s = dmcInitSt →
      completes (.dmcInitDone n fails) s fun t =>
        (dmcState n.val t = dmcFailed → t.dev = devWithdrawn ∧ t.rf pSys 0x050 15 12 = 9
            ∧ t.rf pSys 0x050 7 0 = 0x10 + n.val)
          ∧ (dmcState n.val t ≠ dmcFailed → t.dev = devBoot))
    ∧ (leavesSelfRefresh n.val s = true →
      completes (.selfRefreshExit n false) s fun t =>
        dmcState n.val t = dmcFailed ∧ t.dev = devWithdrawn ∧ t.rf pSys 0x050 15 12 = 9
          ∧ t.rf pSys 0x050 7 0 = 0x10 + n.val)

/-- Where the write is issued and the PTP page admits it:
PTP_SET with NS below 10⁹ loads the counter with the seconds held and the nanoseconds written and cancels a slew; the epoch
rises, with LOCK cleared, EPOCH raised and the copy in the VBAT domain, unless it has risen in this TIM clock already.
PTP_STEP that does not carry the counter below zero adds the signed offset of the pair; the epoch rises when the offset's
magnitude is above the limit and it has not risen in this clock, and stays otherwise. One that would is refused with 0x42.
PTP_SLEW of at most 10⁶ ns in magnitude starts that slew. PTP_RATE_ADJ within its range is stored and changes nothing else
of the time. SLEW_DONE in a clocked device reports a slew that has run out and clears the mark.
Each leaves memory, the queue, and the registers of pages that the time has no part in (all but PTP, TTU, SRC and the
interrupt controllers) as they were.
Where a clause follows a choice of the model, the choice is that of log entries 12, 14 and 35. -/
def Obligations.NetworkTimeAdjustments : Prop :=
  ∀ (m : Master) (v : Word) (s : State),
    (admitted m pPtp 0x058 v s → fld v 29 0 < 1000000000 →
      completes (.ptpSet m v) s fun t =>
        t.tm.now = (s.pair pPtp 0x050 * 1000000000 + fld v 29 0) * 2 ^ 40 % timeMod ∧ t.tm.slew = 0
          ∧ (s.tm.roseAt ≠ some s.clk → t.tm.epoch = (s.tm.epoch + 1) % 256 ∧ t.vbt.epoch = (s.tm.epoch + 1) % 256
              ∧ t.rb pPtp 0x07C 0 = false ∧ t.rb pPtp 0x010 2 = true)
          ∧ (s.tm.roseAt = some s.clk → t.tm.epoch = s.tm.epoch)
          ∧ t.resp = { ok := true, data := 0 } ∧ keeps [pPtp, pTtu, pSrc] s t)
    ∧ (admitted m pPtp 0x064 v s →
      let off := (BitVec.ofNat 64 ((heldOf pPtp 0x060 0 s).toNat + 2 ^ 32 * v.toNat)).toInt
      let now := Int.ofNat s.tm.now + off * 2 ^ 40
      (0 ≤ now → completes (.ptpStep m v) s fun t =>
        t.tm.now = now.toNat % timeMod
          ∧ t.tm.epoch = (if s.rf pPtp 0x074 19 0 < off.natAbs ∧ s.tm.roseAt ≠ some s.clk then (s.tm.epoch + 1) % 256
              else s.tm.epoch)
          ∧ t.resp = { ok := true, data := 0 } ∧ keeps [pPtp, pTtu, pSrc] s t)
      ∧ (now < 0 → completes (.ptpStep m v) s fun t => t.tm = s.tm ∧ refusedWith m pPtp 0x42 s t))
    ∧ (admitted m pPtp 0x06C v s → -1000000 ≤ sW v → sW v ≤ 1000000 →
      completes (.ptpSlew m v) s fun t =>
        t.tm = { s.tm with slew := sW v * 2 ^ 40, slewEnded := false } ∧ t.resp = { ok := true, data := 0 }
          ∧ keeps [pPtp] s t)
    ∧ (admitted m pPtp 0x068 v s → -549755813 ≤ sW v → sW v ≤ 549755813 →
      completes (.ptpRateAdj m v) s fun t =>
        t.reg pPtp 0x068 = v ∧ t.tm = s.tm ∧ t.resp = { ok := true, data := 0 } ∧ keeps [pPtp] s t)
    ∧ (clocked s = true → s.tm.slewEnded = true → completes .slewDone s fun t =>
        t.tm = { s.tm with slewEnded := false } ∧ t.rb pPtp 0x010 5 = true ∧ keeps [pPtp] s t)

/-- Where the read is issued and the page admits it:
PTP_TIME_SNAPSHOT answers the low seconds, and the master's shadows of the three other registers hold the high seconds, the
nanoseconds, and the fraction with the epoch, of the same instant. TSQ_POP answers the identity of the oldest entry, removes
it, and the master's four shadows hold its time, its fraction with its epoch; on an empty queue it answers 0 and removes
nothing. TSQ_LOST_READ answers the count of lost entries and clears it with VALID of both identities. CAP_POP answers the
edge and the epoch of the oldest capture of an input, removes it, and the master's four shadows hold its time; on an empty
queue it answers 0. Memory, the queue of commands, and the registers of other pages are as they were.
Where a clause follows a choice of the model, the choice is that of log entry 32. -/
def Obligations.TimestampReads : Prop :=
  ∀ (m : Master) (s : State),
    let shadowed := fun (page off : Nat) (ws : List Word) (t : State) =>
      ∀ i, i < ws.length → keptShadow m page (off + 4 * i) t = ws.getD i 0
    (admittedRead m pPtp 0x040 s → completes (.ptpTimeSnapshot m) s fun t =>
      let now := NTime.ofT16 s.t16
      t.resp = { ok := true, data := (loW now.sec).toNat }
        ∧ shadowed pPtp 0x044 [hiW now.sec, BitVec.ofNat 32 now.ns, BitVec.ofNat 32 (now.frac * 65536 + s.tm.epoch)] t
        ∧ t.tm = s.tm ∧ keeps [] s t)
    ∧ (admittedRead m pPtp 0x0A0 s →
      (s.tm.tsq = [] → completes (.tsqPop m) s fun t =>
        t.resp = { ok := true, data := 0 } ∧ t.tm = s.tm ∧ keeps [] s t)
      ∧ ∀ e rest, s.tm.tsq = e :: rest → completes (.tsqPop m) s fun t =>
        let at_ := NTime.ofT16 e.stamp.t
        t.resp = { ok := true, data := (2 ^ 31 + e.port * 2 ^ 30 + e.msgType * 2 ^ 24 + e.frameId) % 2 ^ 32 }
          ∧ t.tm = { s.tm with tsq := rest }
          ∧ shadowed pPtp 0x0A4 [loW at_.sec, hiW at_.sec, BitVec.ofNat 32 at_.ns,
              BitVec.ofNat 32 (at_.frac * 65536 + e.stamp.epoch)] t
          ∧ keeps [] s t)
    ∧ (admittedRead m pPtp 0x0B8 s → completes (.tsqLostRead m) s fun t =>
      t.resp = { ok := true, data := (s.reg pPtp 0x0B8).toNat } ∧ t.reg pPtp 0x0B8 = 0
        ∧ t.rb pPtp 0x0BC 31 = false ∧ t.rb pPtp 0x0C0 31 = false ∧ t.tm = s.tm ∧ keeps [pPtp] s t)
    ∧ ∀ i : Fin 4, admittedRead m pTtu (capOff i.val 0x08) s →
      ((smAt i.val s.caps).queue = [] → completes (.capPop m i) s fun t =>
        t.resp = { ok := true, data := 0 } ∧ t.caps = s.caps ∧ keeps [] s t)
      ∧ ∀ r p rest, (smAt i.val s.caps).queue = (r, p) :: rest → completes (.capPop m i) s fun t =>
        let at_ := NTime.ofT16 p.t
        t.resp = { ok := true, data := (2 ^ 31 + b2n r * 2 ^ 30 + p.epoch) % 2 ^ 32 }
          ∧ (smAt i.val t.caps).queue = rest
          ∧ shadowed pTtu (capOff i.val 0x0C)
              [loW at_.sec, hiW at_.sec, BitVec.ofNat 32 at_.ns, BitVec.ofNat 32 (at_.frac * 65536)] t
          ∧ keeps [] s t

/-- TTU_ARM where the write is issued and the page admits it: parameters that fail R93 leave
ARM 0 with the error 0x41; otherwise a periodic unit is armed for the first instant at least 64 ns ahead, a one-shot unit
for its only instant when that is at least 64 ns ahead, and it misses the instant, with ARM 0, when not. TTU_DISARM leaves
ARM 0 and ends a pulse. In a clocked device, TTU_PULSE_START at the instant of an armed idle unit drives the pin active,
counts the pulse and moves on to the next instant; TTU_PULSE_END when the width has passed returns the pin, and ends a
one-shot unit and a unit that has given its count. Memory, the queue, and the registers of other pages are as they
were.
Where a clause follows a choice of the model, the choice is that of log entry 33. -/
def Obligations.TriggerUnits : Prop :=
  ∀ (m : Master) (u : Fin 8) (ctrl : Word) (s : State),
    (admitted m pTtu (ttuOff u.val 0) (ctrl ||| 1) s →
      let a := storeReg m pTtu (ttuOff u.val 0) (ctrl ||| 1) s
      (ttuArmFails u.val (ctrl ||| 1) a = true → s.rf pTtu 0x01C 31 24 = 0 →
        completes (.ttuArm m u ctrl) s fun t =>
          t.rb pTtu (ttuOff u.val 0) 0 = false ∧ t.rf pTtu 0x01C 15 0 = 0x41 ∧ t.ttu = s.ttu ∧ keeps [pTtu] s t)
      ∧ (ttuArmFails u.val (ctrl ||| 1) a = false →
        completes (.ttuArm m u ctrl) s fun t =>
          t.resp = { ok := true, data := 0 } ∧ t.reg pTtu (ttuOff u.val 0x34) = 0 ∧ t.outbox = s.outbox ∧ keeps [pTtu] s t
            ∧ (bit ctrl 1 = true → t.rb pTtu (ttuOff u.val 0) 0 = true
                ∧ (smAt u.val t.ttu).k = (ttuSchedule u.val s).firstAt (s.t16 + lead64))
            ∧ (bit ctrl 1 = false → s.t16 + lead64 ≤ (ttuSchedule u.val s).t0 →
                t.rb pTtu (ttuOff u.val 0) 0 = true ∧ (smAt u.val t.ttu).k = 0)
            ∧ (bit ctrl 1 = false → (ttuSchedule u.val s).t0 < s.t16 + lead64 →
                t.rb pTtu (ttuOff u.val 0) 0 = false ∧ t.rf pTtu (ttuOff u.val 0x04) 31 16 = 1
                  ∧ t.rb pTtu 0x010 (8 + u.val) = true)))
    ∧ (admitted m pTtu (ttuOff u.val 0) (ctrl &&& ~~~1#32) s →
      completes (.ttuDisarm m u ctrl) s fun t =>
        t.rb pTtu (ttuOff u.val 0) 0 = false ∧ t.rb pTtu (ttuOff u.val 4) 0 = false ∧ t.resp = { ok := true, data := 0 }
          ∧ t.outbox = (if s.rb pTtu (ttuOff u.val 4) 0 then s.outbox ++ [.trig u.val false] else s.outbox)
          ∧ keeps [pTtu] s t)
    ∧ (clocked s = true → s.rb pTtu (ttuOff u.val 0) 0 = true → s.rb pTtu (ttuOff u.val 4) 0 = false →
      (s.rb pTtu (ttuOff u.val 0) 1 = true ∨ (smAt u.val s.ttu).k = 0) →
      (ttuSchedule u.val s).instant (smAt u.val s.ttu).k ≤ s.t16 →
      completes (.ttuPulseStart u) s fun t =>
        t.outbox = s.outbox ++ [.trig u.val true] ∧ t.rb pTtu (ttuOff u.val 4) 0 = true
          ∧ t.reg pTtu (ttuOff u.val 0x34) = s.reg pTtu (ttuOff u.val 0x34) + 1 ∧ t.rb pTtu 0x010 u.val = true
          ∧ smAt u.val t.ttu
              = { k := (smAt u.val s.ttu).k + 1, left := (s.reg pTtu (ttuOff u.val 0x2C)).toNat * 2 ^ 38 }
          ∧ keeps [pTtu] s t)
    ∧ (clocked s = true → s.rb pTtu (ttuOff u.val 4) 0 = true → (smAt u.val s.ttu).left ≤ 0 →
      completes (.ttuPulseEnd u) s fun t =>
        let count := s.reg pTtu (ttuOff u.val 0x30)
        t.outbox = s.outbox ++ [.trig u.val false] ∧ t.rb pTtu (ttuOff u.val 4) 0 = false
          ∧ t.rb pTtu (ttuOff u.val 0) 0 = (s.rb pTtu (ttuOff u.val 0) 0 && s.rb pTtu (ttuOff u.val 0) 1
              && !(count ≠ 0 && s.reg pTtu (ttuOff u.val 0x34) = count))
          ∧ keeps [pTtu] s t)

/-- In a clocked device: CAPIN_EDGE of a chosen edge whose level holds is recorded, with room in the queue and 16 ns after
the last one, with a time within 1 ns of the counter, in quarter nanoseconds, and the epoch; otherwise it is discarded and
counted. SYNC_WINDOW_EXPIRE when no Sync is left in the window ends TRACEABLE with its event. VBAT_TIME_COPY after a seconds
carry copies the time and the epoch into the VBAT domain where its crystal is fitted. VBAT_TRIM_UPDATE, with the crystal,
sets the trim to half the shortfall of ticks: exactly when it is even, and to one of its two neighbours when it is odd and
they fit (the rounding of a half is a free value, log entry 34). Memory, the queue, and the registers of other pages are as
they were. Where a clause follows a choice of the model, the choice is that of log entries 31 and 32. -/
def Obligations.CapturesAndHoldover : Prop :=
  ∀ s : State, clocked s = true →
    (∀ (i : Fin 4) (rising : Bool) (held : Nat),
      (if rising then s.rf pTtu (capOff i.val 0) 1 0 % 2 = 1 else 2 ≤ s.rf pTtu (capOff i.val 0) 1 0) →
      16 + 8 * s.rf pTtu (capOff i.val 0) 15 8 ≤ held →
      let st := smAt i.val s.caps
      let far := ∀ t, st.last = some t → t + 16 ≤ s.ns
      (far → st.queue.length < 4 → completes (.capinEdge i rising held) s fun t =>
        ∃ p, (smAt i.val t.caps) = { queue := st.queue ++ [(rising, p)], last := some s.ns }
          ∧ p.t ≤ s.t16 + 65536 ∧ s.t16 ≤ p.t + 65536 ∧ p.t % 16384 = 0 ∧ p.epoch = s.tm.epoch
          ∧ t.rb pTtu 0x010 (16 + i.val) = true ∧ keeps [pTtu] s t)
      ∧ (¬far ∨ 4 ≤ st.queue.length → completes (.capinEdge i rising held) s fun t =>
          t.caps = s.caps ∧ t.rb pTtu 0x010 (20 + i.val) = true
            ∧ t.rf pTtu (capOff i.val 0x1C) 15 0 = min (s.rf pTtu (capOff i.val 0x1C) 15 0 + 1) 65535
            ∧ keeps [pTtu] s t))
    ∧ (s.tm.traceable = true → traceable s = false → completes .syncWindowExpire s fun t =>
        t.tm = { s.tm with traceable := false } ∧ t.rb pPtp 0x010 3 = true ∧ keeps [pPtp] s t)
    ∧ (s.tm.carry = true → completes .vbatTimeCopy s fun t =>
        t = { s with
          tm := { s.tm with carry := false }
          vbt := if s.pins.noXtal32 then s.vbt else { s.vbt with
            valid := true, sec := nowSec s % 2 ^ 48, tick := nowNs s * 32768 / 1000000000, phase := 0
            epoch := s.tm.epoch } })
    ∧ ∀ ticks : Nat, s.pins.noXtal32 = false → completes (.vbatTrimUpdate ticks) s fun t =>
        let d : Int := 2097152 - ticks
        t.tm = s.tm ∧ t.regs = s.regs ∧ keeps [] s t
          ∧ (d % 2 = 0 → -32768 ≤ d / 2 → d / 2 ≤ 32767 → t.vbt = { s.vbt with trim := d / 2 })
          ∧ (d % 2 ≠ 0 → -32768 ≤ d / 2 → d / 2 + 1 ≤ 32767 →
              t.vbt = { s.vbt with trim := d / 2 } ∨ t.vbt = { s.vbt with trim := d / 2 + 1 })

/-- In a clocked device. ETH_FRAME_RECEIVE at an enabled port with a link and ING at work: a frame above 9,014 bytes before
its FCS is counted in ING_OVERSIZE and changes no other register outside the PTP page and the two controllers; a frame
without a trailer, that is neither for Kibiter nor a UDP datagram nor a PTP message, takes the next entry of a receive ring
with room, and where no access to memory waits or is made again, with the ring's entry and its buffer in DRAM or system
SRAM, no byte of memory changes but the frame's buffer and the second to fourth 8 bytes of its descriptor; with duplicate
discard on, a second copy on its own LAN, of a frame that is neither a UDP datagram nor a PTP message, is counted on the ING
page and consumed by nothing. At a port without a link nothing happens. MGE_FRAME_RECEIVE takes the next entry of the MGE
ring and raises its event. ETH_TX_REQUEST takes the next request of an enabled port's transmit ring. ETH_RING_OFF turns a
ring off with HEAD and TAIL 0. PRP_ENTRY_FORGET keeps the entries that still live. ETH_LINK_UP, ETH_LINK_DOWN and
MGE_LINK_CHANGE set LINK_UP, the last with its event, and change nothing on other pages. Where a clause follows a choice of
the model, the choice is that of log entries 39, 42, 100 and 106. -/
def Obligations.EthernetFramesAndRings : Prop :=
  ∀ s : State, clocked s = true →
    (∀ (p : Fin 2) (f : EthFrame), workRefusal (pEth p.val) s = none → linkUp p.val s = true →
      workRefusal pIng s = none →
      (9014 < f.bytes.length → completes (.ethFrameReceive p f) s fun t =>
        t.reg pIng 0x050 = satW ((s.reg pIng 0x050).toNat + 1) ∧ t.net = s.net ∧ t.mem = s.mem ∧ t.pending = s.pending
          ∧ ∀ p' o i, isReg p' o i → p' ∉ [6, 7, pPtp] → (p' ≠ pIng ∨ o ≠ 0x050 ∨ i ≠ 0) → t.regAt p' o i = s.regAt p' o i)
      ∧ (f.bytes.length ≤ 9014 → rctOf f.bytes = none → kibBound f.bytes s = false → udpOf f.bytes = none →
        ptpOf f.bytes = none →
        let size := s.rf (pEth p.val) 0x058 3 0
        let head := (s.reg (pEth p.val) 0x05C).toNat
        let entry := s.pair (pEth p.val) 0x050 + 32 * head
        let buf := (busNat (portMaster (ethPort p.val)) entry 8 (rxStamp p s).2).2.1
        size ≠ 0 → (head + 1) % 2 ^ size ≠ (s.reg (pEth p.val) 0x060).toNat % 2 ^ size →
        completes (.ethFrameReceive p f) s fun t =>
          t.reg (pEth p.val) 0x05C = BitVec.ofNat 32 ((head + 1) % 2 ^ size) ∧ t.pending = s.pending
            ∧ (noneWaits s → inMemory entry 32 → inMemory buf f.bytes.length → t.net = s.net
              ∧ ∀ a, (a < entry + 8 ∨ entry + 32 ≤ a) → (a < buf ∨ buf + f.bytes.length ≤ a) → t.rdByte a = s.rdByte a))
      ∧ (∀ r : Rct, f.bytes.length ≤ 9014 → rctOf f.bytes = some r → r.lanB = decide (p.val = 1) →
        udpOf (stripRct f.bytes) = none → ptpOf (stripRct f.bytes) = none → s.rb pIng 0x040 0 = true →
        (∃ e ∈ s.net.prp, prpLives s e = true ∧ e.mac = srcMacOf f.bytes ∧ e.seq = r.seq) →
        completes (.ethFrameReceive p f) s fun t =>
          t.reg pIng 0x044 = satW ((s.reg pIng 0x044).toNat + 1) ∧ t.outbox = s.outbox ∧ keeps [pIng] s t))
    ∧ (∀ (p : Fin 2) (f : EthFrame), linkUp p.val s = false → completes (.ethFrameReceive p f) s fun t => t = s)
    ∧ (∀ bytes : List Byte, s.enabled pMge = true → s.rb pMge 0x040 4 = true → bytes.length ≤ 9014 →
        let size := s.rf pMge 0x058 3 0
        let head := (s.reg pMge 0x05C).toNat
        size ≠ 0 → (head + 1) % 2 ^ size ≠ (s.reg pMge 0x060).toNat % 2 ^ size →
        completes (.mgeFrameReceive bytes) s fun t =>
          t.reg pMge 0x05C = BitVec.ofNat 32 ((head + 1) % 2 ^ size) ∧ t.rb pMge 0x010 0 = true)
    ∧ (∀ port : EthPort, s.enabled (portPage port) = true →
        let size := s.rf (portPage port) 0x078 3 0
        let head := (s.reg (portPage port) 0x07C).toNat
        size ≠ 0 → head % 2 ^ size ≠ (s.reg (portPage port) 0x080).toNat % 2 ^ size →
        completes (.ethTxRequest port) s fun t =>
          t.reg (portPage port) 0x07C = BitVec.ofNat 32 ((head + 1) % 2 ^ size))
    ∧ (∀ (m : Master) (port : EthPort) (tx : Bool), admitted m (portPage port) (if tx then 0x078 else 0x058) 0 s →
        completes (.ethRingOff m port tx) s fun t =>
          let o := if tx then 0x078 else 0x058
          t.rf (portPage port) o 3 0 = 0 ∧ t.reg (portPage port) (o + 4) = 0 ∧ t.reg (portPage port) (o + 8) = 0
            ∧ t.resp = { ok := true, data := 0 } ∧ keeps [portPage port] s t)
    ∧ (completes .prpEntryForget s fun t =>
        t = { s with net := { s.net with prp := s.net.prp.filter (prpLives s) } })
    ∧ (∀ p : Fin 2,
      (s.enabled (pEth p.val) = true → completes (.ethLinkUp p) s fun t =>
        linkUp p.val t = true ∧ keeps [pEth p.val] s t)
      ∧ completes (.ethLinkDown p) s fun t => linkUp p.val t = false ∧ keeps [pEth p.val] s t)
    ∧ ∀ up : Bool, s.rb pMge 0x040 4 ≠ up → completes (.mgeLinkChange up) s fun t =>
        t.rb pMge 0x040 4 = up ∧ t.rb pMge 0x010 2 = true ∧ keeps [pMge] s t

/-- Where a write of the SRC page is issued, admitted and taken, for the context that the master has selected:
SRC_CTX_ENABLE of a disabled context starts it in state 1 with an empty jitter buffer, no learned SSRC and no stored sender
report. SRC_CTX_DISABLE of an enabled one puts it in state 0 and empties its jitter buffer. SRC_STAT_CLEAR clears the twelve
counters. SRC_PAGE_DISABLE of the enabled page abandons the access units of every enabled context and leaves the contexts
enabled. In a clocked device: SRC_TIMEOUT_CHECK at a new millisecond of the timer counter puts in state 3 the enabled
contexts in state 1 or 2 whose last input is TIMEOUT back, and no other; JB_GAP_RELEASE, when the oldest unit of a jitter
buffer has a gap and its delay has passed, counts the missing packets and one partial unit and releases it with the complete
ones behind it; SR_EXPIRE reports a sender report whose validity has ended. Where a clause follows a choice of the model,
the choice is that of log entries 36, 37, 40, 41, 100, 101 and 106. -/
def Obligations.SourceContexts : Prop :=
  ∀ s : State,
    (∀ (m : Master) (ctrl : Word), admitted m pSrc 0x100 (ctrl ||| 1) s → srcCheck m 0x100 (ctrl ||| 1) s = .ok →
      ctxOn (srcSel m s) s = false →
      completes (.srcCtxEnable m ctrl) s fun t =>
        let c := srcSel m s
        ctxOn c t = true ∧ ctxState c t = 1 ∧ (smAt c t.ctx).jb = [] ∧ (smAt c t.ctx).learned = none
          ∧ (smAt c t.ctx).sr = none ∧ (smAt c t.ctx).lastInput = s.clk ∧ t.resp = { ok := true, data := 0 }
          ∧ keeps [pSrc] s t)
    ∧ (∀ (m : Master) (ctrl : Word), admitted m pSrc 0x100 (ctrl &&& ~~~1#32) s →
      srcCheck m 0x100 (ctrl &&& ~~~1#32) s = .ok → ctxOn (srcSel m s) s = true →
      completes (.srcCtxDisable m ctrl) s fun t =>
        let c := srcSel m s
        ctxOn c t = false ∧ ctxState c t = 0 ∧ (smAt c t.ctx).jb = [] ∧ t.resp = { ok := true, data := 0 })
    ∧ (∀ m : Master, admitted m pSrc 0x144 1 s →
      completes (.srcStatClear m) s fun t =>
        (∀ i < 12, t.regAt pSrc (0x150 + 4 * i) (srcSel m s) = 0) ∧ (smAt (srcSel m s) t.ctx).kib = 0
          ∧ t.resp = { ok := true, data := 0 } ∧ keeps [pSrc] s t)
    ∧ (∀ m : Master, admitted m pSrc 0x008 0 s → s.enabled pSrc = true →
      completes (.srcPageDisable m) s fun t =>
        t.enabled pSrc = false ∧ t.resp = { ok := true, data := 0 }
          ∧ ∀ c < 128, ctxOn c s = true → ctxOn c t = true ∧ (smAt c t.ctx).jb = [])
    ∧ (clocked s = true →
      (s.srcGrid < s.timer / 100000 → completes .srcTimeoutCheck s fun t =>
        t.srcGrid = s.timer / 100000 ∧ keeps [pSrc] s t
          ∧ ∀ c < 128, ctxState c t =
              (if ctxOn c s = true ∧ (ctxState c s = 1 ∨ ctxState c s = 2)
                  ∧ (smAt c s.ctx).lastInput + s.rfAt pSrc 0x134 c 15 0 * 500000
                      ≤ s.timer / 100000 * 500000 + s.pwr.asleep then 3
                else ctxState c s))
      ∧ ∀ c : Fin 128,
        (let h := headState (smAt c.val s.ctx)
         let arrived := h.1.foldl (fun a p => min a p.clk) s.clk
         h.2.2 = true → arrived + s.rfAt pSrc 0x118 c.val 19 0 * 500 ≤ s.clk →
         completes (.jbGapRelease c) s fun t =>
           let first := (smAt c.val s.ctx).jbNext.getD ((h.1.head?.map (·.ext)).getD 0)
           t = releaseAll c.val (releaseHead c.val h.1
             (count c.val stAuPart (s.bumpAt pSrc stLost c.val (lastExt h.1 + 1 - first - h.1.length)))))
        ∧ ((smAt c.val s.ctx).srSeen = true → srValid c.val s = false →
          completes (.srExpire c) s fun t =>
            (smAt c.val t.ctx).srSeen = false ∧ bit (t.regAt pSrc 0x13C c.val) evSrLost = true ∧ keeps [pSrc] s t))

/-- In a clocked device: DPI_LOCK_GAINED at a live port with a trained link shows the lock and the stream, and DP_LOCKED of
the port's context says whether the stream is supported. DPI_LOCK_LOSS ends the lock and discards a frame in progress, with
its count. DPI_FRAME_START at a live locked port with an enabled context while SRC takes input: a supported stream is shown
and its format remembered, and the first frame of a changed format is discarded with FORMAT_CHANGE; an unsupported one
raises UNSUPPORTED and begins no frame. DPI_FRAME_END stores and delivers the frame in progress, or discards it, with its
count, when it has more damaged lines than the port allows; it ends the frame where no access to memory waits or is made
again and the port's accesses are kept to memory. DPI_AUX_REQUEST at a live port: a native write is acknowledged and stored,
a read of the first two capability bytes answers DPCD 1.4 and HBR3, a read of the EDID answers the bytes from its pointer,
and another I²C address is refused. Where a write of the port's page is issued and admitted, DPI_LINK_ENABLE sets LINK_EN,
and a rise starts the comparison of formats anew; DPI_IRQ_HPD pulses HPD unless a pulse is under way. Where a clause follows
a choice of the model, the choice is that of log entries 43, 44 and 103. -/
def Obligations.SinkPorts : Prop :=
  ∀ (p : Fin 8) (s : State),
    (clocked s = true →
      (∀ f : DpFormat, dpiLive p.val s = true → s.rb (pDpi p.val) 0x048 1 = true →
        completes (.dpiLockGained p f) s fun t =>
          t.rf (pDpi p.val) 0x048 1 0 = 3 ∧ t.rf (pDpi p.val) 0x048 11 5 = s.rf (pDpi p.val) 0x048 11 5
            ∧ t.rb (pDpi p.val) 0x048 2 = dpSupported f
            ∧ t.reg (pDpi p.val) 0x04C = BitVec.ofNat 32 (f.width % 65536 * 65536 + f.height % 65536)
            ∧ (∀ c, dpiCtx p.val s = some c → t.rfAt pSrc 0x138 c 10 10 = b2n (dpSupported f))
            ∧ keeps [pDpi p.val, pSrc] s t)
      ∧ (completes (.dpiLockLoss p) s fun t =>
          t.rb (pDpi p.val) 0x048 0 = false ∧ (smAt p.val t.dpi).frame = none ∧ t.mem = s.mem
            ∧ ∀ fr, (smAt p.val s.dpi).frame = some fr →
                t.regAt pSrc stAuDrop fr.ctx = satW ((s.regAt pSrc stAuDrop fr.ctx).toNat + 1))
      ∧ (∀ (f : DpFormat) (c : Nat), dpiLive p.val s = true → s.rb (pDpi p.val) 0x048 0 = true →
        dpiCtx p.val s = some c → srcClosed s = false →
        (dpSupported f = true → completes (.dpiFrameStart p f) s fun t =>
          (smAt p.val t.dpi).lastFmt = some f ∧ t.rb (pDpi p.val) 0x048 2 = true
            ∧ t.reg (pDpi p.val) 0x04C = BitVec.ofNat 32 (f.width % 65536 * 65536 + f.height % 65536)
            ∧ ∀ g, (smAt p.val s.dpi).lastFmt = some g → dpChanged g f = true →
                (smAt p.val t.dpi).frame = none ∧ bit (t.regAt pSrc 0x13C c) evFormatChange = true)
        ∧ (dpSupported f = false → completes (.dpiFrameStart p f) s fun t =>
          (smAt p.val t.dpi).lastFmt = (smAt p.val s.dpi).lastFmt ∧ (smAt p.val t.dpi).frame = none
            ∧ bit (t.regAt pSrc 0x13C c) evUnsupported = true))
      ∧ (∀ (lines : List (Option (List Word))) (fr : DpiFrame), (smAt p.val s.dpi).frame = some fr →
        let r := storedLines (dpiMaster p.val) (newestBuf fr.ctx s) fr.fmt lines fr.fmt.height 0 s
        let limit := fun (u : State) => u.rf (pDpi p.val) 0x044 7 0
        completes (.dpiFrameEnd p lines) s fun t =>
          t = (if limit r.2.2 < r.2.1.length then dpiDrop p.val r.2.2
            else storeFrame p.val fr r.1 r.2.1 (setDpi p.val (fun d => { d with frame := none }) r.2.2))
          ∧ (noneWaits s → keptToMemory (.dpi p) s → keptToMemory (.ng 0) s → (smAt p.val t.dpi).frame = none)
          ∧ (noneWaits s →
            (∀ b y, newestBuf fr.ctx s = some b →
              inMemory ((bufSurf b s).plane0 + y * (bufSurf b s).stride) (4 * fr.fmt.width)) →
            limit s < r.2.1.length → (smAt p.val t.dpi).frame = none
              ∧ t.regAt pSrc stAuDrop fr.ctx = satW ((s.regAt pSrc stAuDrop fr.ctx).toNat + 1)))
      ∧ (dpiLive p.val s = true →
        (∀ a d, completes (.dpiAuxRequest p (.nativeWrite a d)) s fun t =>
          t = (dpcdWrite p.val a d s).emit (.auxAnswer p.val true []))
        ∧ (completes (.dpiAuxRequest p (.nativeRead 0 2)) s fun t => t = s.emit (.auxAnswer p.val true [0x14, 0x1E]))
        ∧ (∀ n, completes (.dpiAuxRequest p (.i2cRead 0x50 n)) s fun t =>
            let at_ := (smAt p.val s.dpi).edidPtr
            t.outbox = s.outbox
                ++ [.auxAnswer p.val true ((List.range n).map fun i => edidByte p.val ((at_ + i) % 256) s)]
              ∧ (smAt p.val t.dpi).edidPtr = (at_ + n) % 256 ∧ t.regs = s.regs)
        ∧ ∀ a n, a ≠ 0x50 → completes (.dpiAuxRequest p (.i2cRead a n)) s fun t =>
            t = s.emit (.auxAnswer p.val false [])))
    ∧ (∀ m : Master, admitted m (pDpi p.val) 0x040 ((s.reg (pDpi p.val) 0x040 &&& 1) ||| 2) s →
      completes (.dpiLinkEnable m p) s fun t =>
        t.rb (pDpi p.val) 0x040 1 = true ∧ t.resp = { ok := true, data := 0 } ∧ keeps [pDpi p.val] s t
          ∧ (smAt p.val t.dpi).lastFmt
              = (if s.rb (pDpi p.val) 0x040 1 then (smAt p.val s.dpi).lastFmt else none))
    ∧ ∀ m : Master, admitted m (pDpi p.val) 0x040 ((s.reg (pDpi p.val) 0x040 &&& 3) ||| 4) s →
      dpiPulsing p.val s = false →
      completes (.dpiIrqHpd m p) s fun t =>
        t.outbox = s.outbox ++ [.hpdPulse p.val] ∧ (smAt p.val t.dpi).irqUntil = s.clk + 375000
          ∧ t.resp = { ok := true, data := 0 }

/-- Where a write of a CDC page is issued and admitted, for the context or buffer that the master has selected:
DSP_CTX_ENABLE of a disabled context that the admission of R130, R135 and R152 accepts enables it in the state that the
admission gives. DSP_CTX_DISABLE of an enabled one ends its waiting access units and its synchronisation. DSP_CTX_FLUSH of a
disabled one leaves no buffer of it marked NEWEST. BUF_HOLD_SET of a buffer that is neither free nor being filled marks it
HOLD_SW, and BUF_HOLD_CLEAR takes the mark away. Memory and the pages other than the CDC pages are as
they were in the last four.
Where a clause follows a choice of the model, the choice is that of log entry 46. -/
def Obligations.DispatcherContextsAndHolds : Prop :=
  ∀ (m : Master) (n : Fin 16) (ctrl : Word) (s : State),
    let c := s.rfAt pDsp 0x81C (masterId m) 6 0
    let b := s.rfAt pDsp 0x820 (masterId m) 11 0
    let p := pCdc n.val
    let pages := (List.range 16).map pCdc
    (∀ u w, admitted m p 0x840 (ctrl ||| 1) s → ctrlCheck c (ctrl ||| 1) s = .ok → dspOn c s = false →
      dspAdmit ownBus p c s = (.ok u, w) →
      completes (.dspCtxEnable m n ctrl) s fun t =>
        t = settled m .write (pageAddr p 0x840) (fun _ => (storeReg m p 0x840 (ctrl ||| 1) u).respond true 0) s)
    ∧ (admitted m p 0x840 (ctrl &&& ~~~1#32) s → ctrlCheck c (ctrl &&& ~~~1#32) s = .ok → dspOn c s = true →
      completes (.dspCtxDisable m n ctrl) s fun t =>
        dspOn c t = false ∧ (smAt c t.dsp).queue = [] ∧ syncOf c t = syncOff ∧ t.resp = { ok := true, data := 0 }
          ∧ keeps pages s t)
    ∧ (admitted m p 0x840 (ctrl ||| 4) s → ctrlCheck c (ctrl ||| 4) s = .ok → dspOn c s = false → bit ctrl 0 = false →
      completes (.dspCtxFlush m n ctrl) s fun t =>
        (∀ k ∈ ownedBufs c s, marked k mkNewest t = false) ∧ dspOn c t = false ∧ t.resp = { ok := true, data := 0 }
          ∧ keeps pages s t)
    ∧ (admitted m p 0x894 1 s → bufFree b s = false → marked b mkFill s = false →
      completes (.bufHoldSet m n) s fun t =>
        marked b mkHoldSw t = true ∧ t.resp = { ok := true, data := 0 } ∧ keeps pages s t)
    ∧ (admitted m p 0x894 0 s →
      completes (.bufHoldClear m n) s fun t =>
        marked b mkHoldSw t = false ∧ t.resp = { ok := true, data := 0 } ∧ keeps pages s t)

/-- While the pixel path lives: DECODE_START at a free engine in service takes the oldest access unit that waits for it.
DECODE_COMPLETE completes the picture of an engine with its result: where no access to memory waits or is made again and the
accesses of the engine and of Ngurelo port 0 are kept to memory, the picture ends, its buffer is no longer being filled, and
it is counted. DECODE_OVERRUN ends a
picture that has taken more than 100 ms, with event 2 of the engine's page. CONTEXT_MOVE between pictures binds a
commitment to the engine it moves to, which holds its state from then on, and changes no memory outside the context's state
area (where no access to memory waits or is made again). ENGINE_DRAINED ends the
draining of an engine that holds nothing, holds it for test, and starts its self-test run. In a clocked device,
BST_ROTATION_INTERVAL, when it is due in RUN, hands the held engine over where rotation is enabled, and only sets the next
instant where it is not. CDC_ENGINE_DISABLE of an enabled engine, where its write is issued and admitted, stops the engine
and its commitments are placed again.
Where a clause follows a choice of the model, the choice is that of log entries 46, 47, 94, 102, 105 and 107. -/
def Obligations.CodecEngines : Prop :=
  ∀ s : State,
    (pixelLive s = true →
      (∀ (n : Fin 16) (f : AuFacts) (c : Nat) (au : ReleasedAu), inService n.val s = true →
        (smAt n.val s.eng).pic = none → (smAt n.val s.eng).encoding = none →
        oldestAu (waitingOn n.val s) = some (c, au) →
        completes (.decodeStart n f) s fun t => t = startAu n.val c au f s)
      ∧ (∀ (n : Fin 16) (r : DecResult) (p : DecPic), (smAt n.val s.eng).pic = some p →
        completes (.decodeComplete n r) s fun t =>
          t = completePicture n.val p r s
            ∧ (noneWaits s → keptToMemory (.cdc n) s → keptToMemory (.ng 0) s →
              (smAt n.val t.eng).pic = none ∧ marked p.buf mkFill t = false
                ∧ t.reg (pCdc n.val) 0x048 = satW ((s.reg (pCdc n.val) 0x048).toNat + 1)))
      ∧ (∀ (n : Fin 16) (p : DecPic), (smAt n.val s.eng).pic = some p → p.startClk + 50000000 < s.clk →
        completes (.decodeOverrun n) s fun t =>
          (smAt n.val t.eng).pic = none ∧ marked p.buf mkFill t = false ∧ t.rb (pCdc n.val) 0x010 2 = true
            ∧ keeps ((List.range 16).map pCdc) s t)
      ∧ (∀ (c : Fin 128) (p : Placed), busyCommit (.dec c.val) s = false → placedOf (.dec c.val) s = some p →
        noneWaits s → completes (.contextMove c) s fun t =>
          t.placed = s.placed.map (fun q =>
              if q.what = .dec c.val then
                { q with engine := p.target, moveTo := none, saved := p.saved && decide (p.engine = p.target) }
              else q)
            ∧ ∀ a, (a < s.pair pDsp 0x814 + 0x10000 * c.val ∨ s.pair pDsp 0x814 + 0x10000 * (c.val + 1) ≤ a) →
                t.rdByte a = s.rdByte a)
      ∧ ∀ n, (List.range 16).find? (fun k => drained k s) = some n →
        completes .engineDrained s fun t =>
          t = startRun (7 + n) (raiseCdc 1 (setHold true [pCdc n] (setEng n (fun e => { e with draining := false }) s))))
    ∧ (clocked s = true → s.dev = devRun → s.bst.rotAt ≤ s.clk → rotationBusy s = false →
      (s.rb pBst 0x040 0 = false → completes .bstRotationInterval s fun t =>
        t = { s with bst := { s.bst with rotAt := s.bst.rotAt + rotInterval s } })
      ∧ ∀ j e, s.rb pBst 0x040 0 = true → heldEngine s = some j → nextEngine j s = some e →
        completes .bstRotationInterval s fun t =>
          t = handover j e { s with bst := { s.bst with rotAt := s.bst.rotAt + rotInterval s } })
    ∧ ∀ (m : Master) (n : Fin 16), admitted m (pCdc n.val) 0x008 0 s → s.enabled (pCdc n.val) = true →
      completes (.cdcEngineDisable m n) s fun t =>
        t = settled m .write (pageAddr (pCdc n.val) 0x008)
            (fun _ => (cdcStopped ownBus n.val (storeReg m (pCdc n.val) 0x008 0 s)).respond true 0) s
          ∧ (storeReg m (pCdc n.val) 0x008 0 s).enabled (pCdc n.val) = false

/-- Where a write of the CMP page is issued and admitted:
TF_DATA_WRITE to one of the six tables that nothing uses stores the low 14 bits at the entry, leaves every other entry,
and advances ENTRY; a write to a reserved table, or to one in use, changes no entry, records 0x41 or 0x40, and advances
ENTRY all the same. COEF_DATA_WRITE to a set that no layer uses stores the low 10 bits at the tap that SET, AXIS, PHASE and
TAP name, leaves every other tap, and steps TAP, and PHASE after the last tap of the axis; to a set in use, or a vertical
tap that does not exist, it changes neither the tables nor the index, and records 0x40 or 0x41. Memory and other pages are
as they were.
At any page, an accepted write of a LATCH register enters the crossing queue behind the writes that wait, a pair with the
write of its high word and both words together; where 16 of the page wait the oldest arrives in PIX first. A write of any
other register overtakes none: every write of the page that waits
arrives, in order. A read has the writes of the page arrive in order, through the last one of its own master. A latch point
takes, of the waiting writes of its page, all that are as old as the crossing bound and an open number of the younger ones,
in order; the page's LATCH registers then hold what is present in PIX, those of other pages what they held.
Where a clause follows a choice of the model, the choice is that of log entries 15 and 49. -/
def Obligations.PipeTables : Prop :=
  ∀ (m : Master) (n : Fin 16) (v : Word) (s : State),
    let p := pCmp n.val
    let i := s.rf p 0x060 14 12
    let e := s.rf p 0x060 11 0
    let key := coefKey (s.rf p 0x068 13 12) (s.rf p 0x068 11 11) (s.rf p 0x068 10 5) (s.rf p 0x068 2 0)
    let last := if s.rb p 0x068 11 then 5 else 7
    (admitted m p 0x064 v s →
      completes (.tfDataWrite m n v) s fun t =>
        t.rf p 0x060 11 0 = (e + 1) % 4096 ∧ t.rf p 0x060 14 12 = i ∧ keeps [p] s t
          ∧ (i < 6 → tfInUse n.val i s = false →
            t.resp = { ok := true, data := 0 } ∧ tfEntry (smAt n.val t.cmp) i e = fld v 13 0
              ∧ ∀ j k, k < 4096 → (j ≠ i ∨ k ≠ e) →
                  tfEntry (smAt n.val t.cmp) j k = tfEntry (smAt n.val s.cmp) j k)
          ∧ ((6 ≤ i ∨ tfInUse n.val i s = true) →
            t.cmp = s.cmp ∧ (s.rf p 0x01C 31 24 = 0 → t.rf p 0x01C 15 0 = if 6 ≤ i then 0x41 else 0x40)))
    ∧ (admitted m p 0x06C v s →
      completes (.coefDataWrite m n v) s fun t =>
        keeps [p] s t
          ∧ (coefInUse n.val (s.rf p 0x068 13 12) s = false → s.rf p 0x068 2 0 ≤ last →
            coefRaw (smAt n.val t.cmp) key = fld v 9 0
              ∧ (∀ k, k ≠ key → coefRaw (smAt n.val t.cmp) k = coefRaw (smAt n.val s.cmp) k)
              ∧ t.rf p 0x068 2 0 = (if s.rf p 0x068 2 0 = last then 0 else s.rf p 0x068 2 0 + 1)
              ∧ t.rf p 0x068 10 5 =
                  (if s.rf p 0x068 2 0 = last then (s.rf p 0x068 10 5 + 1) % 64 else s.rf p 0x068 10 5)
              ∧ t.resp = { ok := true, data := 0 })
          ∧ (coefInUse n.val (s.rf p 0x068 13 12) s = true ∨ last < s.rf p 0x068 2 0 →
            t.cmp = s.cmp ∧ t.reg p 0x068 = s.reg p 0x068
              ∧ (s.rf p 0x01C 31 24 = 0 →
                  t.rf p 0x01C 15 0 = if coefInUse n.val (s.rf p 0x068 13 12) s then 0x40 else 0x41)))
    ∧ ∀ page off, page < 141 → off < 0x1000 →
      let arrived := fun (xs : List Xw) => (xs.flatMap (·.words)).foldl (fun a w => smPut resetOf w.1 w.2 a) s.pix
      let waiting := fun (q : Nat) => s.xq.filter fun x => x.page = q
      let crosses := fun (q k : Nat) (t : State) => t.pix = arrived ((waiting q).take k)
        ∧ t.xq.filter (fun x => x.page = q) = (waiting q).drop k
        ∧ t.xq.filter (fun x => x.page ≠ q) = s.xq.filter (fun x => x.page ≠ q)
      let c := canonPage page off
      (∀ r, findRow page off = some r → r.rw ≠ 0 → r.pair ≠ .low → (r.pair = .high → 4 ≤ off) →
        let t := storeReg m page off v s
        let word := fun (o : Nat) => (rkey c o (winIdx r.win m s), t.regAt c o (winIdx r.win m s))
        let x : Xw := { page := c, m := masterId m, clk := s.clk
                        words := if r.pair = .high then [word (off - 4), word off] else [word off] }
        (r.latch = true → (waiting c).length < 16 → t.xq = s.xq ++ [x] ∧ t.pix = s.pix)
        ∧ (r.latch = true → 16 ≤ (waiting c).length →
          t.xq = s.xq.eraseP (fun y => y.page = c) ++ [x] ∧ t.pix = arrived ((waiting c).take 1))
        ∧ (r.latch = false → crosses c (waiting c).length t))
      ∧ (∀ r, findRow page off = some r → r.pair = .low →
        let t := storeReg m page off v s
        t.xq = s.xq ∧ t.pix = s.pix)
      ∧ (∃ k, crosses c k (pageRead m page off s) ∧ ∀ x ∈ (waiting c).drop k, x.m ≠ masterId m)
      ∧ (smWf resetOf s.pix = true →
        let t := takeLatch n.val page s
        (∃ k, ((waiting page).takeWhile fun x => x.clk + pixBound n.val s ≤ s.clk).length ≤ k
          ∧ k ≤ (waiting page).length ∧ crosses page k t)
        ∧ t.latchedReg page off = smRead resetOf (rkey page off 0) t.pix
        ∧ ∀ other, other < 141 → other ≠ page → t.latchedReg other off = s.latchedReg other off)

/-- While the pixel path lives: CMP_ROW_DELIVERED of a frame whose next petal row is open and not late delivers that row and
no other (the pipe's accesses kept to memory, none of it waiting or made again). CMP_FRAME_COMPLETE of a frame whose rows
are all delivered writes its sequence number to DELIVERED, once, and changes no other register. LATCH_POINT at the end of
the last active line of a running output is the latch point of that frame. Where the record region lies in DRAM, no access
to memory waits or is made again, the pipe is enabled, no hold is asked and no underflow can withdraw the device, it raises
LATCHED; a CTX-mode layer that is enabled or holds a buffer takes its context's NEWEST buffer with REPEATED 0, RUN 0 and
DELIVERED, or repeats the one it holds with REPEATED 1, RUN and Lk_REPEAT one more, or has none; an ADDR-mode layer holds
none; HOLD_CMP follows the buffers held; and FAULT is the code of the latch check of an enabled layer, 0 of another, with
its bit in CMP_LAYER_FAULT. CMP_DISABLE of an enabled pipe, where its write is issued and admitted, leaves ENABLE 0, every
buffer of the pipe's layers released and unmarked, no frame with a sequence number, and memory and other blocks' pages as
they were. Where a clause follows a choice of the model, the choice is that of log entries 23, 49 and 96. -/
def Obligations.PipeFrames : Prop :=
  ∀ (n : Fin 16) (s : State),
    let p := pCmp n.val
    (pixelLive s = true →
      (∀ f, composing n.val s = some f → rowOpen n.val f s = true →
        (f.late.isSome = true ∨ ∀ g, (smAt n.val s.out).scan = some g → s.tm.run ≤ rowDue g g.delivered) →
        completes (.cmpRowDelivered n) s fun t =>
          t = deliverRow n.val f s
            ∧ (noneWaits s → keptToMemory (.cmp n) s →
              (composing n.val t).map (fun g => (g.delivered, g.inp)) = some (f.delivered + 1, f.inp)))
      ∧ (∀ f q, composing n.val s = some f → f.seq = some q → f.delivered = petalRows f.inp → f.completed = false →
        completes (.cmpFrameComplete n) s fun t =>
          t.reg p 0x050 = BitVec.ofNat 32 q ∧ composing n.val t = some { f with completed := true } ∧ t.mem = s.mem
            ∧ ∀ a o i, isReg a o i → (a ≠ p ∨ o ≠ 0x050 ∨ i ≠ 0) → t.regAt a o i = s.regAt a o i)
      ∧ ∀ f, (smAt n.val s.out).scan = some f → outState n.val s = outRunning → linePhase f f.inp.vA ≤ s.tm.run →
        completes (.latchPoint n) s fun t => t = latchPoint n.val f s
          ∧ (noneWaits s → recBase s + recSize s ≤ 0xC000000000 → s.enabled p = true →
            s.rf (pOut n.val) 0x0A8 7 0 = 0 → s.rb (pOut (leaderOf n.val s)) 0x040 1 = false →
            outState (leaderOf n.val s) s ≠ outHeld →
            t.rb p 0x010 1 = true
            ∧ (∀ b, b ∈ heldBufs n.val t → marked b n.val t = true)
            ∧ (∀ b ∈ heldBufs n.val s, b ∉ heldBufs n.val t → marked b n.val t = false)
            ∧ ∀ k, k < 8 →
              let ctrl := t.latchedReg p (layOff k 0)
              let held := if s.rb p (layOff k 0x44) 31 then some (s.rf p (layOff k 0x44) 11 0) else none
              let again := fun b => t.reg p (layOff k 0x44) = BitVec.ofNat 32 (2 ^ 31 + b)
                ∧ t.rb p (layOff k 0x40) 10 = true
                ∧ t.rf p (layOff k 0x40) 31 16 = min (s.rf p (layOff k 0x40) 31 16 + 1) 65535
                ∧ t.reg p (layOff k 0x48) = satW ((s.reg p (layOff k 0x48)).toNat + 1)
              (bit ctrl 30 = false → bit ctrl 31 = true ∨ held.isSome = true →
                (∀ b, newestBuf (fld ctrl 14 8) s = some b → held ≠ some b →
                  t.reg p (layOff k 0x44) = BitVec.ofNat 32 (2 ^ 31 + b) ∧ t.rb p (layOff k 0x40) 10 = false
                    ∧ t.rf p (layOff k 0x40) 31 16 = 0 ∧ t.rb p (layOff k 0x40) 9 = true)
                ∧ (∀ b, newestBuf (fld ctrl 14 8) s = some b → held = some b → again b)
                ∧ (∀ b, newestBuf (fld ctrl 14 8) s = none → held = some b → again b)
                ∧ (newestBuf (fld ctrl 14 8) s = none → held = none →
                  t.reg p (layOff k 0x44) = 0 ∧ t.rb p (layOff k 0x40) 10 = false))
              ∧ (bit ctrl 30 = true → t.reg p (layOff k 0x44) = 0 ∧ t.rb p (layOff k 0x40) 10 = false)
              ∧ bit (t.reg p 0x070) k = decide (t.rf p (layOff k 0x40) 15 12 ≠ 0)
              ∧ (bit ctrl 31 = false → t.rf p (layOff k 0x40) 15 12 = 0)
              ∧ (bit ctrl 31 = true → t.rf p (layOff k 0x40) 15 12 =
                  match layerPicture n.val k t with
                  | some (g, _, pic) => latchCheck n.val k (timingOf n.val s).hT g (some pic) t
                  | none => latchCheck n.val k (timingOf n.val s).hT {} none t)))
    ∧ ∀ m : Master, admitted m p 0x008 0 s → s.enabled p = true →
      completes (.cmpDisable m n) s fun t =>
        t.enabled p = false ∧ heldBufs n.val t = [] ∧ t.resp = { ok := true, data := 0 } ∧ keeps [p, pDsp] s t
          ∧ (∀ b ∈ heldBufs n.val s, marked b n.val t = false)
          ∧ (∀ k, k < 8 → t.reg p (layOff k 0x4C) = 0xFFFFFFFF ∧ t.rb p (layOff k 0x40) 9 = false)
          ∧ ((smAt n.val t.out).scan.bind (·.seq)) = none ∧ ((smAt n.val t.out).coming.bind (·.seq)) = none

/-- While the pixel path lives, FRAME_START when the chosen instant of a running output has come and no comparison is
pending: line 0 of the pending frame begins. It is in scan with the inputs of its latch point and the phase of its instant,
the frame number is shown by OUT and CMP, and FRAME_START is raised. A frame that follows the last new one, or is the first
since the release, is new: its sequence number is kept and the stage does not stall. A frame that is not new stalls the
stage, R53 applies, and the kept number stands. Memory and the pages of other blocks are as they were.
Where a clause follows a choice of the model, the choice is that of log entries 50 and 52. -/
def Obligations.FrameStarts : Prop :=
  ∀ (n : Fin 16) (f : Frame) (instant : Nat) (s : State),
    (smAt n.val s.out).coming = some f → (smAt n.val s.out).chosen = some instant →
    (smAt n.val s.out).prev = none → outState n.val s = outRunning → instant ≤ s.tm.run → pixelLive s = true →
      completes (.frameStart n) s fun t =>
        let judged := sequenceCheck n.val f s
        t.reg (pOut n.val) 0x048 = BitVec.ofNat 32 f.inp.no ∧ t.reg (pCmp n.val) 0x04C = BitVec.ofNat 32 f.inp.no
          ∧ t.rb (pOut n.val) 0x010 0 = true ∧ keeps [pOut n.val, pCmp n.val, pGrd n.val] s t
          ∧ (smAt n.val t.out).coming = none ∧ (smAt n.val t.out).chosen = none
          ∧ (∃ g, (smAt n.val t.out).scan = some g ∧ g.inp = f.inp ∧ g.start = instant ∧ g.seq = f.seq
              ∧ g.isNew = judged.1 ∧ g.skip = judged.2)
          ∧ (judged.1 = true →
              t.reg (pGrd n.val) 0x058 = BitVec.ofNat 32 (f.seq.getD 0) ∧ (smAt n.val t.grd).stalled = false
                ∧ (smAt n.val t.grd).seen = true)
          ∧ (judged.1 = false →
              t.reg (pGrd n.val) 0x058 = s.reg (pGrd n.val) 0x058 ∧ (smAt n.val t.grd).stalled = true
                ∧ (smAt n.val t.grd).pressing = true)

/-- While the pixel path lives: PETAL_ROW_EVALUATE of a delivered row judges that row and no other, and changes no memory
but the records of that row in the frame's slot (outside the register pages, no access to memory waiting or made again).
ROW_LATE of a row not delivered, when the row that the pipe owes is due: the frame is late from the owed row on, R53 begins
to apply, ROW_LATE of the stage and UNDERFLOW of the output are raised and both are counted. PMAP_HEADER_WRITE writes the
header of the last frame into its slot and advances HEAD, once. REF_RENDER_COMPLETE of an enabled reference rectangle whose
rows are written gives it a reference result and, on the same terms, changes no memory. GRD_CNT_READ, where it is issued and
admitted, answers the counts of FRESH and VACANT, and keeps the other counts for the master that read. Where a clause
follows a choice of the model, the choice is that of log entries 50, 51 and 108. -/
def Obligations.GuardStage : Prop :=
  ∀ (n : Fin 16) (s : State),
    let p := pGrd n.val
    (pixelLive s = true →
      (∀ f, (smAt n.val s.out).scan = some f → f.evaluated < petalRows f.inp → f.evaluated < f.delivered →
        completes (.petalRowEvaluate n) s fun t =>
          t = evaluateRow n.val f s
            ∧ (smAt n.val t.out).scan.map (fun g => (g.evaluated, g.inp)) = some (f.evaluated + 1, f.inp)
            ∧ (f.slot = none → t.mem = s.mem)
            ∧ ∀ slot a, f.slot = some slot → noneWaits s →
                (∀ i, i < 8 * petalCols f.inp → region (slot + 0x40 + 8 * f.evaluated * petalCols f.inp + i) ≠ .regs) →
                (a < slot + 0x40 + 8 * f.evaluated * petalCols f.inp
                  ∨ slot + 0x40 + 8 * (f.evaluated + 1) * petalCols f.inp ≤ a) → t.rdByte a = s.rdByte a)
      ∧ (∀ f r, (smAt n.val s.out).scan = some f → f.isNew = true → f.late = none → f.delivered ≤ r →
        r < petalRows f.inp → rowDue f f.delivered ≤ s.tm.run →
        completes (.rowLate n r) s fun t =>
          (smAt n.val t.out).scan = some { f with late := some f.delivered } ∧ keeps [p, pOut n.val] s t
            ∧ t.rb p 0x010 5 = true ∧ t.rb (pOut n.val) 0x010 7 = true
            ∧ t.reg p 0x064 = satW ((s.reg p 0x064).toNat + 1)
            ∧ t.reg (pOut n.val) 0x0A4 = satW ((s.reg (pOut n.val) 0x0A4).toNat + 1)
            ∧ (smAt n.val t.grd).pressing = true ∧ (smAt n.val t.grd).stalled = true)
      ∧ (∀ f a, (smAt n.val s.out).prev = some f → f.slot = some a → f.headerDone = false →
        completes (.pmapHeaderWrite n) s fun t =>
          let u := (busWrite (grdMaster n.val) a (headerBytes f (s.reg p 0x058)) s).2
          t = setOut n.val (fun o => { o with prev := some { f with headerDone := true } })
            (u.setFld p 0x054 3 0 ((u.rf p 0x054 3 0 + 1) % f.inp.pmSlots)))
      ∧ ∀ (v : Fin 4) f q slot, (smAt n.val s.out).prev = none → (smAt n.val s.out).scan = some f →
        f.inp.vrs[v.val]? = some q → f.slot = some slot → q.en = true → q.mode = 1 →
        (∀ r ∈ rowsRead f.inp q, r < f.evaluated ∧ f.unwritten.contains r = false) → smGet v.val f.refs = none →
        completes (.refRenderComplete n v) s fun t =>
          (noneWaits s → (∀ r ∈ rowsRead f.inp q, ∀ i, i < 8 * petalCols f.inp →
              region (slot + 0x40 + 8 * r * petalCols f.inp + i) ≠ .regs) → t.mem = s.mem)
            ∧ ∃ g, (smAt n.val t.out).scan = some g ∧ (smGet v.val g.refs).isSome = true ∧ g.inp = f.inp
            ∧ g.petals = f.petals)
    ∧ ∀ m : Master, admittedRead m p 0x068 s →
      completes (.grdCntRead m n) s fun t =>
        t.resp = { ok := true, data := (s.reg p 0x068).toNat } ∧ t.regs = s.regs ∧ t.mem = s.mem
          ∧ keptShadow m p 0x06C t = s.reg p 0x06C ∧ keptShadow m p 0x070 t = s.reg p 0x070
          ∧ keptShadow m p 0x074 t = s.reg p 0x074

/-- Where the write of the output's page is issued and admitted, and ENABLE = 0 has not been written in this clock (a write
that comes in the clock of it is discarded): OUT_ENABLE of a disabled output leaves it HELD with no
frame number; OUT_DISABLE of an enabled one leaves it DISABLED with no frame, no link training and no transaction.
OUT_RELEASE of an enabled held leader that passes every release check makes it RELEASING with the synthesiser locked; one
that fails a check is refused with REFUSE, REFUSED and code 0x42. OUT_HOLD of a running leader sets HOLD for its next latch
point, of a releasing one returns to HELD with the event, of any other leaves the state. While the pixel path lives:
RELEASE_LATCH_POINT when it is due makes the leader RUNNING with a coming frame and a chosen instant (the record region in
DRAM, no access to memory waiting or made again); SLIP_LINE when it is
due chooses the next instant and changes no memory; SYNTH_LOCK_LOSS of a locked output clears SYNTH_LOCK and withdraws the
device, in BOOT or RUN, exactly when the output was released.
Where a clause follows a choice of the model, the choice is that of log entries 52, 53, 54 and 112. -/
def Obligations.OutputStates : Prop :=
  ∀ (m : Master) (n : Fin 16) (s : State),
    let p := pOut n.val
    (admitted m p 0x008 1 s → afterOff n.val s = false → s.enabled p = false →
      completes (.outEnable m n) s fun t =>
        t.enabled p = true ∧ outState n.val t = outHeld ∧ t.reg p 0x048 = 0xFFFFFFFF ∧ (smAt n.val t.out).nextNo = 0
          ∧ t.resp = { ok := true, data := 0 } ∧ keeps ((List.range 16).map pOut) s t)
    ∧ (admitted m p 0x008 0 s → afterOff n.val s = false → s.enabled p = true →
      completes (.outDisable m n) s fun t =>
        t.enabled p = false ∧ outState n.val t = outDisabled ∧ t.rb p 0x044 10 = false ∧ t.rf p 0x09C 1 0 = 0
          ∧ (smAt n.val t.out).scan = none ∧ (smAt n.val t.out).coming = none ∧ (smAt n.val t.out).aux = none
          ∧ t.resp = { ok := true, data := 0 } ∧ t.mem = s.mem)
    ∧ (∀ o v, admitted m p o v s → 0x40 ≤ o → afterOff n.val s = true → outWrite m n.val o v s = s.respond true 0)
    ∧ (admitted m p 0x040 1 s → afterOff n.val s = false → s.enabled p = true →
      leaderOf n.val s = n.val → outState n.val s = outHeld →
      (releaseCheck n.val s = 0 → completes (.outRelease m n) s fun t =>
        outState n.val t = outReleasing ∧ t.rb p 0x044 10 = true ∧ t.rb p 0x040 0 = true
          ∧ t.resp = { ok := true, data := 0 })
      ∧ (releaseCheck n.val s ≠ 0 → completes (.outRelease m n) s fun t =>
        outState n.val t = outHeld ∧ t.rf p 0x044 23 20 = releaseCheck n.val s ∧ t.rb p 0x010 3 = true
          ∧ keeps [p] s t ∧ (s.rf p 0x01C 31 24 = 0 → t.rf p 0x01C 15 0 = 0x42)))
    ∧ (admitted m p 0x040 2 s → afterOff n.val s = false → leaderOf n.val s = n.val →
      completes (.outHold m n) s fun t =>
        t.resp = { ok := true, data := 0 } ∧ t.mem = s.mem
          ∧ (outState n.val s = outRunning → outState n.val t = outRunning ∧ t.rb p 0x040 1 = true)
          ∧ (outState n.val s = outReleasing →
              outState n.val t = outHeld ∧ t.rb p 0x040 1 = false ∧ t.rb p 0x010 2 = true)
          ∧ (outState n.val s < outReleasing → outState n.val t = outState n.val s ∧ t.rb p 0x040 1 = false))
    ∧ (pixelLive s = true →
      (leaderOf n.val s = n.val → outState n.val s = outReleasing → (smAt n.val s.out).relRun ≤ s.tm.run →
        noneWaits s → recBase s + recSize s ≤ 0xC000000000 → completes (.releaseLatchPoint n) s fun t =>
          outState n.val t = outRunning ∧ t.rb p 0x010 1 = true ∧ (smAt n.val t.out).coming.isSome = true
            ∧ (smAt n.val t.out).chosen.isSome = true)
      ∧ (leaderOf n.val s = n.val → outState n.val s = outRunning → (smAt n.val s.out).scan = none →
        (smAt n.val s.out).coming.isSome = true → (smAt n.val s.out).chosen = none →
        (smAt n.val s.out).slipRun ≤ s.tm.run →
        completes (.slipLine n) s fun t =>
          t = slipLine n.val (smAt n.val s.out).slipRun s ∧ (smAt n.val t.out).chosen.isSome = true
            ∧ (smAt n.val t.out).coming = (smAt n.val s.out).coming ∧ t.mem = s.mem)
      ∧ (s.rb p 0x044 10 = true →
        completes (.synthLockLoss n) s fun t =>
          t.rb p 0x044 10 = false ∧ t.mem = s.mem
            ∧ (outReleasing ≤ outState n.val s → s.dev = devBoot ∨ s.dev = devRun →
                t.dev = devWithdrawn ∧ t.reg pSys 0x050 = BitVec.ofNat 32 (4 * 0x1000 + n.val))
            ∧ (outState n.val s < outReleasing → t.dev = s.dev)))

/-- LINK_TRAIN by a write that is issued and admitted and that the checks take: with HPD high training begins, and the port
has the channel; with HPD low it fails at once with RESULT 5 and TRAIN_FAIL. While the pixel path lives: by a plug of an
enabled output, or by a lane failure of a trained and enabled one with HPD high, it begins with AUTO_TRAIN, LINK_EN, RUN and
no training under way; without one of these the plug only shows HPD and raises its event, and the lane failure only ends
TRAINED; a plug of a disabled output or of one with HPD high, and a lane failure of a link that is not trained, do nothing.
LINK_TRAIN_DONE of a training that has reached success ends it with TRAINED at its rate and lanes; of one that has reached a
failure with that RESULT, the count and TRAIN_FAIL; of one without a result after 200 ms with the RESULT of the step it is
at. HPD_IRQ, HPD_UNPLUG and HPD_PLUG of an enabled output raise their event and HPD follows; a pulse on a trained link with
a free channel begins the read of the lane status, and one on a trained link with a taken channel asks for it again; an
unplug ends TRAINED and TRAINING. None of them changes memory or another block's page. Where a clause follows a choice of
the model, the choice is that of log entries 43, 54 and 98. -/
def Obligations.LinkTraining : Prop :=
  ∀ (n : Fin 16) (s : State),
    let p := pOut n.val
    let begins := fun (t : State) => t.rb p 0x09C 1 = true ∧ t.rb p 0x09C 0 = false
      ∧ (∃ j, (smAt n.val t.out).job = some (.train j) ∧ j.result = none) ∧ keeps [p] s t
    let fails := fun (r : Nat) (t : State) => t.rb p 0x09C 0 = false ∧ t.rb p 0x09C 1 = false ∧ t.rf p 0x09C 4 2 = r
      ∧ t.rb p 0x010 12 = true ∧ t.reg p 0x0A0 = satW ((s.reg p 0x0A0).toNat + 1) ∧ keeps [p] s t
    let auto := s.rb p 0x094 0 = true ∧ s.rb p 0x098 0 = true ∧ s.dev = devRun ∧ s.rb p 0x09C 1 = false
    (∀ m, let v := (s.reg p 0x098 &&& 1) ||| 2
      admitted m p 0x098 v s → outCheck n.val 0x098 v s = .ok →
      (s.rb p 0x044 9 = true → completes (.linkTrain n (.write m)) s fun t =>
        t.resp = { ok := true, data := 0 } ∧ begins t)
      ∧ (s.rb p 0x044 9 = false → completes (.linkTrain n (.write m)) s fun t =>
        t.resp = { ok := true, data := 0 } ∧ fails 5 t))
    ∧ (pixelLive s = true →
      (s.enabled p = true → s.rb p 0x044 9 = false →
        (auto → completes (.linkTrain n .plug) s fun t => t.rb p 0x010 8 = true ∧ t.rb p 0x044 9 = true ∧ begins t)
        ∧ (¬auto → completes (.linkTrain n .plug) s fun t => t.rb p 0x010 8 = true ∧ t.rb p 0x044 9 = true
            ∧ t.reg p 0x09C = s.reg p 0x09C ∧ t.out = s.out ∧ keeps [p] s t))
      ∧ (s.enabled p = false ∨ s.rb p 0x044 9 = true → completes (.linkTrain n .plug) s fun t => t = s)
      ∧ (s.rb p 0x09C 0 = true →
        (auto → s.enabled p = true → s.rb p 0x044 9 = true → completes (.linkTrain n .laneFailure) s begins)
        ∧ (¬(auto ∧ s.enabled p = true ∧ s.rb p 0x044 9 = true) → completes (.linkTrain n .laneFailure) s fun t =>
            t.rb p 0x09C 0 = false ∧ t.rb p 0x09C 1 = s.rb p 0x09C 1 ∧ (smAt n.val t.out).job = (smAt n.val s.out).job
              ∧ keeps [p] s t))
      ∧ (s.rb p 0x09C 0 = false → completes (.linkTrain n .laneFailure) s fun t => t = s)
      ∧ (∀ j, (smAt n.val s.out).job = some (.train j) →
        (j.result = some 1 → completes (.linkTrainDone n) s fun t =>
          t.reg p 0x09C = BitVec.ofNat 32 (j.rate * 1024 + j.lanes * 256 + 5) ∧ t.rb p 0x098 1 = false
            ∧ t.rb p 0x010 11 = true ∧ (smAt n.val t.out).job = none ∧ keeps [p] s t)
        ∧ (∀ r, j.result = some r → 2 ≤ r → r ≤ 6 → completes (.linkTrainDone n) s (fails r))
        ∧ (j.result = none → j.startClk + 100000000 ≤ s.clk →
          completes (.linkTrainDone n) s (fails (if j.step < 3 then 6 else if j.step < 5 then 2 else 3))))
      ∧ (s.enabled p = true → s.rb p 0x044 9 = true →
        (completes (.hpdIrq n) s fun t =>
          t.rb p 0x010 10 = true ∧ t.rb p 0x044 9 = true ∧ t.reg p 0x09C = s.reg p 0x09C ∧ keeps [p] s t
            ∧ (s.rb p 0x09C 0 = true → auxTaken n.val s = false → (smAt n.val t.out).job = some .lanes)
            ∧ (s.rb p 0x09C 0 = true → auxTaken n.val s = true → (smAt n.val t.out).again = true))
        ∧ completes (.hpdUnplug n) s fun t =>
          t.rb p 0x010 9 = true ∧ t.rb p 0x044 9 = false ∧ t.rf p 0x09C 1 0 = 0 ∧ keeps [p] s t
            ∧ (s.rb p 0x09C 1 = true → t.rf p 0x09C 4 2 = 5))
      ∧ (s.enabled p = true → s.rb p 0x044 9 = false →
        completes (.hpdPlug n) s fun t => t.rb p 0x010 8 = true ∧ t.rb p 0x044 9 = true ∧ keeps [p] s t))

/-- The six AUX commands, where the write is issued and admitted and the checks take it: with HPD low the transaction ends
at once with RESULT 4 and AUX_DONE; with HPD high and the channel free of the port's own use it is under way, with BUSY, its
request code, address and length, and the bytes of the data registers when it writes, and it leaves the port with LINK_EN.
While the pixel path lives, for a transaction in flight with no transaction of the port's own: AUX_REPLY on an active
channel ends it with RESULT 0 and the bytes read, with 1, or on the eighth DEFER with 2, and any earlier DEFER is waited on;
AUX_REPLY_TIMEOUT after 400 µs sends it again, and after three such retries ends it with RESULT 3. AUX_DEFER_RETRY sends a
deferred one again after 500 µs.
Where a clause follows a choice of the model, the choice is that of log entries 54 and 98. -/
def Obligations.AuxChannel : Prop :=
  ∀ (n : Fin 16) (s : State),
    let p := pOut n.val
    let out := fun (x : AuxTx) => if s.rb p 0x098 0 then [Emit.auxRequest n.val x.req x.addr x.len x.data] else []
    (∀ (m : Master) (len : BitVec 4) (addr : BitVec 20),
      let word := fun (q : Nat) => BitVec.ofNat 32 (q * 2 ^ 28 + len.toNat * 2 ^ 24 + addr.toNat)
      let taken := fun (q : Nat) => admitted m p 0x0B0 (word q) s ∧ outCheck n.val 0x0B0 (word q) s = .ok
      let issued := fun (q : Nat) (t : State) =>
        t.resp = { ok := true, data := 0 } ∧ keeps [p] s t
          ∧ (s.rb p 0x044 9 = false →
              t.reg p 0x0B4 = 8 ∧ t.rb p 0x010 13 = true ∧ (smAt n.val t.out).aux = none)
          ∧ (s.rb p 0x044 9 = true → auxTaken n.val s = false →
              t.rb p 0x0B4 0 = true
                ∧ ∃ x, (smAt n.val t.out).aux = some x ∧ x.req = q ∧ x.addr = addr.toNat ∧ x.len = len.toNat + 1
                    ∧ x.sent = some s.clk
                    ∧ x.data = (if q % 2 = 1 then [] else (List.range x.len).map fun i => auxByte n.val i s)
                    ∧ t.outbox = s.outbox ++ out x)
      (taken 0x0 → completes (.auxI2cWrite m n len addr) s (issued 0x0))
      ∧ (taken 0x1 → completes (.auxI2cRead m n len addr) s (issued 0x1))
      ∧ (taken 0x4 → completes (.auxI2cWriteMot m n len addr) s (issued 0x4))
      ∧ (taken 0x5 → completes (.auxI2cReadMot m n len addr) s (issued 0x5))
      ∧ (taken 0x8 → completes (.auxNativeWrite m n len addr) s (issued 0x8))
      ∧ (taken 0x9 → completes (.auxNativeRead m n len addr) s (issued 0x9)))
    ∧ ∀ x c, pixelLive s = true → (smAt n.val s.out).aux = some x → x.sent = some c → (smAt n.val s.out).own = none →
      (x.deferred = none →
        (s.rb p 0x098 0 = true →
          (∀ data count, x.len ≤ 16 → completes (.auxReply n (.ack data count)) s fun t =>
            t.reg p 0x0B4 = BitVec.ofNat 32 (min count x.len * 256) ∧ (smAt n.val t.out).aux = none
              ∧ t.rb p 0x010 13 = true ∧ keeps [p] s t
              ∧ (x.req % 2 = 1 → ∀ i b, i < min count x.len → data[i]? = some b → auxByte n.val i t = b))
          ∧ (∀ count, completes (.auxReply n (.nack count)) s fun t =>
            t.reg p 0x0B4 = BitVec.ofNat 32 (min count x.len * 256 + 2) ∧ (smAt n.val t.out).aux = none ∧ keeps [p] s t)
          ∧ completes (.auxReply n .defer) s fun t =>
            (x.defers = 7 → t.reg p 0x0B4 = 4 ∧ (smAt n.val t.out).aux = none)
            ∧ (x.defers ≠ 7 → t.regs = s.regs
                ∧ (smAt n.val t.out).aux = some { x with deferred := some s.clk, defers := x.defers + 1 }))
        ∧ (c + 200000 ≤ s.clk → completes (.auxReplyTimeout n) s fun t =>
          (x.timeouts = 3 → t.reg p 0x0B4 = 6 ∧ (smAt n.val t.out).aux = none ∧ t.outbox = s.outbox)
          ∧ (x.timeouts ≠ 3 → (smAt n.val t.out).aux = some { x with sent := some s.clk, timeouts := x.timeouts + 1 }
              ∧ t.outbox = s.outbox ++ out x)))
      ∧ ∀ d, x.deferred = some d → d + 250000 ≤ s.clk → auxTaken n.val s = false →
        completes (.auxDeferRetry n) s fun t =>
          (smAt n.val t.out).aux = some { x with sent := some s.clk, deferred := none }
            ∧ t.outbox = s.outbox ++ out x

/-- Where the write of the ENC page is issued, admitted and passes the page's check: ENC_CH_ENABLE of a disabled channel
enables it at the cropped size of its output, with a commitment, no packet and no quantiser yet (no access to memory waiting
or made again); ENC_CH_DISABLE of an
enabled one leaves it without picture, input or packet; ENC_FORCE_IDR of an enabled channel sets FORCE_IDR, leaves EN and
changes no other page. While the pixel path lives: ENC_FRAME_COPY of a frame that is due counts it, and drops it with its
event when the channel holds two inputs already; ENC_PICTURE_COMPLETE finishes the picture in progress; ENC_PACKET_SEND
sends the oldest packet at its time; ENC_SENDER_REPORT, when SR_MS has passed, sends a report, once.
Where a clause follows a choice of the model, the choice is that of log entries 55, 56, 57 and 100. -/
def Obligations.MirrorChannels : Prop :=
  ∀ (c : Fin 4) (s : State),
    let o := encOff c.val 0
    (∀ (m : Master) (ctrl : Word),
      (admitted m pEnc o (ctrl ||| 1) s → encCheck ownBus o (ctrl ||| 1) s = .ok → encOn c.val s = false →
        noneWaits s → completes (.encChEnable m c ctrl) s fun t =>
          encOn c.val t = true ∧ t.resp = { ok := true, data := 0 } ∧ (smAt c.val t.enc).packets = []
            ∧ (smAt c.val t.enc).qp = none ∧ ((smAt c.val t.enc).w, (smAt c.val t.enc).h) = croppedSize c.val s
            ∧ (placedOf (.enc c.val) t).isSome = true)
      ∧ (admitted m pEnc o (ctrl &&& ~~~1#32) s → encCheck ownBus o (ctrl &&& ~~~1#32) s = .ok → encOn c.val s = true →
        completes (.encChDisable m c ctrl) s fun t =>
          encOn c.val t = false ∧ t.resp = { ok := true, data := 0 } ∧ (smAt c.val t.enc).cur = none
            ∧ (smAt c.val t.enc).inputs = [] ∧ (smAt c.val t.enc).packets = [] ∧ t.mem = s.mem)
      ∧ (let v := (s.reg pEnc o &&& 1) ||| 2
        admitted m pEnc o v s → encCheck ownBus o v s = .ok → encOn c.val s = true →
        completes (.encForceIdr m c) s fun t =>
          encOn c.val t = true ∧ t.rb pEnc o 1 = true ∧ t.resp = { ok := true, data := 0 } ∧ t.enc = s.enc
            ∧ keeps [pEnc] s t))
    ∧ (pixelLive s = true →
      (∀ first f d, (smAt c.val s.enc).count = some first → (smAt (encOut c.val s) s.out).prev = some f →
        frameAhead first f.inp.no = some d → d % (encFld c.val 4 2 0 s + 1) = 0 →
        (d ≠ 0 ∨ (smAt c.val s.enc).taken = false) → encOn c.val s = true → s.enabled pEnc = true →
        completes (.encFrameCopy c) s fun t =>
          t.mem = s.mem ∧ (smAt c.val t.enc).count = some f.inp.no ∧ (smAt c.val t.enc).taken = true
            ∧ (2 ≤ (smAt c.val s.enc).inputs.length + b2n (smAt c.val s.enc).cur.isSome →
                t.rb pEnc 0x010 (4 + c.val) = true ∧ (smAt c.val t.enc).inputs = (smAt c.val s.enc).inputs))
      ∧ (∀ q e, (smAt c.val s.enc).cur = some q → encEngine c.val s = some e → ∀ r,
        completes (.encPictureComplete c r) s fun t => t = encFinish c.val e q r s)
      ∧ (∀ q rest keys, (smAt c.val s.enc).packets = q :: rest → encOn c.val s = true → s.enabled pEnc = true →
        (smAt c.val s.enc).paceClk ≤ s.clk → encKeys c.val s = some keys →
        completes (.encPacketSend c) s fun t => t = encSendRtp c.val q rest keys s)
      ∧ ∀ keys, s.rf pEnc 0x040 15 0 ≠ 0 → encState c.val s = 2 → s.enabled pEnc = true →
        (smAt c.val s.enc).srClk + s.rf pEnc 0x040 15 0 * 500000 ≤ s.clk → encKeys c.val s = some keys →
        completes (.encSenderReport c) s fun t =>
          let u := setEnc c.val (fun x => { x with srClk := s.clk, srNo := x.srNo + 1 }) s
          let report := senderReport c.val s
          t = encSend c.val 1
            (encProtect c.val (smAt c.val s.enc).srNo true keys (report.take 8) (report.drop 8) s) u)

/-- Where its write is issued and admitted, with an identifier set: NG_LINK_ENABLE leaves LINK_EN 1, and an enabled port
whose LINK_EN was 0 begins to train; NG_RETRAIN takes an enabled port with LINK_EN 1 down and trains it again. In a clocked
device: NG_TRAIN_PHASE_DONE moves a training port with live lanes through its phases, sends a TRAIN flit at the fourth, and
after three TRAIN flits each way makes it ACTIVE with the partner's credits and LINK_UP; NG_TRAIN_TIMEOUT after 10 ms is a
failed attempt; NG_TRAIN_RETRY after 1 ms of WAIT trains again; a good TRAIN flit in phase 4 is kept and answered, and one
with this device's own identifier fails the attempt with its event; NG_GIVE_UP when the budget has passed, and
NG_BLOCK_LOCK_LOSS of an active port, are give-ups, counted, with both events. None of them changes memory.
Where a clause follows a choice of the model, the choice is that of log entry 59. -/
def Obligations.PortTraining : Prop :=
  ∀ (p : Fin 3) (s : State),
    let g := smAt p.val s.ng
    let page := pNg p.val
    let gaveUp := fun (t : State) => t = giveUp p.val s ∧ t.rb page 0x010 1 = true ∧ t.rb page 0x010 2 = true
      ∧ t.reg page 0x054 = satW ((s.reg page 0x054).toNat + 1) ∧ (smAt p.val t.ng).held = [] ∧ t.mem = s.mem
      ∧ (smAt p.val t.ng).st = (if s.rb page 0x040 0 && s.enabled page then 1 else 0)
    (∀ m : Master, admitted m page 0x040 1 s → ownId s ≠ 0 →
      completes (.ngLinkEnable m p) s fun t =>
        t.rb page 0x040 0 = true ∧ t.resp = { ok := true, data := 0 } ∧ keeps [page] s t
          ∧ (s.enabled page = true → s.rb page 0x040 0 = false →
              (smAt p.val t.ng).st = 1 ∧ (smAt p.val t.ng).phase = 1 ∧ (smAt p.val t.ng).startClk = s.clk))
    ∧ (∀ m : Master, let v := (s.reg page 0x040 &&& 1) ||| 2
      admitted m page 0x040 v s → ownId s ≠ 0 → s.rb page 0x040 0 = true → s.enabled page = true →
      completes (.ngRetrain m p) s fun t =>
        t.resp = { ok := true, data := 0 } ∧ (smAt p.val t.ng).st = 1 ∧ (smAt p.val t.ng).phase = 1
          ∧ (smAt p.val t.ng).held = [] ∧ (smAt p.val t.ng).tx = none ∧ (g.st = 2 → t.rb page 0x010 1 = true)
          ∧ t.mem = s.mem)
    ∧ (clocked s = true →
      (g.st = 1 → lanesLive s = true →
        completes (.ngTrainPhaseDone p) s fun t =>
          t.mem = s.mem
            ∧ (g.phase < 3 → (smAt p.val t.ng).phase = g.phase + 1 ∧ t.outbox = s.outbox)
            ∧ (g.phase = 3 → (smAt p.val t.ng).phase = 4 ∧ t.outbox.length = s.outbox.length + 1)
            ∧ (3 < g.phase → 3 ≤ g.trainRx → 3 ≤ g.trainTx →
                (smAt p.val t.ng).st = 2 ∧ (smAt p.val t.ng).cr0 = g.train.buf0 ∧ (smAt p.val t.ng).cr1 = g.train.buf1
                  ∧ t.rb page 0x010 0 = true ∧ t.rb page 0x040 1 = false))
      ∧ (g.st = 1 → g.startClk + 5000000 ≤ s.clk →
        completes (.ngTrainTimeout p) s fun t =>
          (smAt p.val t.ng).st = 3 ∧ (smAt p.val t.ng).waitClk = s.clk ∧ t.rb page 0x010 3 = true
            ∧ t.reg page 0x060 = satW ((s.reg page 0x060).toNat + 1) ∧ keeps [page] s t)
      ∧ (g.st = 3 → g.waitClk + 500000 ≤ s.clk → lanesLive s = true →
        completes (.ngTrainRetry p) s fun t =>
          (smAt p.val t.ng).st = 1 ∧ (smAt p.val t.ng).startClk = s.clk ∧ t.regs = s.regs ∧ t.mem = s.mem)
      ∧ (∀ f, f.type = 3 → f.crc = .good → g.st = 1 → g.phase = 4 → lanesLive s = true →
        completes (.trainFlitReceive p f) s fun t =>
          keeps [page] s t
            ∧ (pf f.payload 0x10 2 = ownId s → (smAt p.val t.ng).st = 3 ∧ t.rb page 0x010 4 = true)
            ∧ (pf f.payload 0x10 2 ≠ ownId s → pf f.payload 0x14 1 = 1 →
                (smAt p.val t.ng).st = 1 ∧ (smAt p.val t.ng).train.device = pf f.payload 0x10 2
                  ∧ (smAt p.val t.ng).trainTx = g.trainTx + 1 ∧ 1 ≤ (smAt p.val t.ng).trainRx
                  ∧ t.outbox.length = s.outbox.length + 1))
      ∧ (∀ k q n, g.replay = some (k, q, n) → k + s.rf page 0x04C 7 0 * 500 ≤ s.clk →
        completes (.ngGiveUp p) s gaveUp)
      ∧ (g.st = 2 → completes (.ngBlockLockLoss p) s gaveUp))

/-- On an ACTIVE port of a clocked device whose lanes are live: a good IDLE or LINK_ACK flit releases the held flits that it
acknowledges and adds its credits. A good LINK_NAK does the same and replays what is still held. A good PIC_START, PIC_DATA
or PIC_END with the expected SEQ advances the acknowledged number and is forwarded, and is received here when it is for this
device alone and comes from another. A flit with a bad CRC is counted and answered with one LINK_NAK until the expected flit
comes. NG_REPLAY_TIMEOUT when the oldest held flit has waited 2 µs replays every held flit, counted. NG_ACK_SEND when an
acknowledgement has waited 256 ns on an enabled port sends one flit.
Where a clause follows a choice of the model, the choice is that of log entries 59 and 60. -/
def Obligations.PortFlits : Prop :=
  ∀ (p : Fin 3) (f : Flit) (s : State),
    let g := smAt p.val s.ng
    let page := pNg p.val
    let after := g.held.filter fun h => !seqLe h.1.seq f.ack
    let acknowledged := fun (t : State) => (smAt p.val t.ng).held = after ∧ (smAt p.val t.ng).cr0 = g.cr0 + f.credit0
      ∧ (smAt p.val t.ng).cr1 = g.cr1 + f.credit1 ∧ t.regs = s.regs ∧ t.mem = s.mem ∧ t.outbox = s.outbox
    let taken := fun (t : State) =>
      let l := linkRx p.val f s
      let r := route p.val f l.2
      (smAt p.val l.2.ng).rxSeq = f.seq ∧ (smAt p.val l.2.ng).naking = false
        ∧ t = (if r.1 then rxFlit ownBus (some p.val) f r.2 else r.2)
        ∧ (f.dst = ownId s → f.orig ≠ ownId s → dstReserved f = false → r.1 = true)
    g.st = 2 → lanesLive s = true → clocked s = true →
    (f.crc = .good → g.q0 = [] → g.q1 = [] →
      (f.type = 0 → completes (.idleFlitReceive p f) s acknowledged)
      ∧ (f.type = 1 → completes (.linkAckReceive p f) s acknowledged)
      ∧ (f.type = 2 → completes (.linkNakReceive p f) s fun t =>
          t = startReplay p.val (linkRx p.val f s).2 ∧ t.mem = s.mem
            ∧ (after = [] → t.regs = s.regs ∧ t.outbox = s.outbox)))
    ∧ (f.crc = .good → f.seq = (g.rxSeq + 1) % 65536 →
      (f.type = 0x10 → completes (.picStartReceive p f) s taken)
      ∧ (f.type = 0x11 → completes (.picDataReceive p f) s taken)
      ∧ (f.type = 0x12 → completes (.picEndReceive p f) s taken))
    ∧ completes (.ngCrcError p f) s (fun t =>
        t.reg page 0x058 = satW ((s.reg page 0x058).toNat + 1) ∧ (smAt p.val t.ng).naking = true ∧ keeps [page] s t
          ∧ (smAt p.val t.ng).rxSeq = g.rxSeq ∧ (g.naking = false → s.outbox.length < t.outbox.length))
    ∧ (∀ h c rest, g.held = (h, c) :: rest → c + 1000 ≤ s.clk →
      completes (.ngReplayTimeout p) s fun t =>
        t = startReplay p.val s
          ∧ (g.replay = none → 0 < s.rf page 0x04C 11 8 →
              t.reg page 0x050 = satW ((s.reg page 0x050).toNat + 1)
                ∧ t.outbox.length = s.outbox.length + g.held.length
                ∧ (smAt p.val t.ng).held = g.held.map (fun e => (e.1, s.clk)) ∧ t.mem = s.mem))
    ∧ (∀ c, g.ackDue = some c → c + 128 ≤ s.clk → s.enabled page = true →
      completes (.ngAckSend p) s fun t =>
        (smAt p.val t.ng).ackDue = none ∧ t.outbox.length = s.outbox.length + 1 ∧ t.regs = s.regs ∧ t.mem = s.mem)

/-- In a clocked device: NG_PIC_SEND_START of a duty that sends and waits for the free active port begins its newest picture
there: the buffer is marked and held; where no access to memory waits or is made again and the port's accesses are kept to
memory, the port waits no more and no memory changes. NG_PIC_SEND_END once no flit of this device waits on the port
frees the buffer and the port. NG_PIC_TIMEOUT after 100 ms abandons the reception of a context, with the event of its port.
PIC_HISTORY_FORGET drops the entries of one stream whose time has passed, and no other. GATE_RELEASE of an expired gate
leaves it without a claim and leaves the instant of its last picture and every other gate.
Where a clause follows a choice of the model, the choice is that of log entry 61. -/
def Obligations.PicturesOverNgurelo : Prop :=
  ∀ (p : Fin 3) (d : Fin 128) (s : State), clocked s = true →
    (∀ b, ngActive p.val s = true → (smAt p.val s.ng).tx = none → dutySends d.val s = true →
      p.val ∈ (smAt d.val s.duty).todo → newestBuf (dutyCtx d.val s) s = some b →
      completes (.ngPicSendStart p d) s fun t =>
        (smAt p.val t.ng).tx = some (d.val, b) ∧ marked b (mkHoldNg p.val) t = true
          ∧ (noneWaits s → keptToMemory (.ng p) s →
            t.mem = s.mem ∧ (smAt d.val t.duty).todo = (smAt d.val s.duty).todo.filter (· ≠ p.val)))
    ∧ (∀ e b, (smAt p.val s.ng).tx = some (e, b) → ((smAt p.val s.ng).q1.any fun f => f.orig = ownId s) = false →
      completes (.ngPicSendEnd p) s fun t =>
        (smAt p.val t.ng).tx = none ∧ marked b (mkHoldNg p.val) t = false ∧ t.outbox = s.outbox ∧ keeps [pDsp] s t)
    ∧ (∀ x, smGet d.val s.rx = some x → x.startClk + 50000000 ≤ s.clk →
      completes (.ngPicTimeout d) s fun t =>
        smGet d.val t.rx = none ∧ marked x.buf mkFill t = false ∧ t.mem = s.mem
          ∧ ∀ q, x.port = some q → q < 3 → t.rb (pNg q) 0x010 5 = true)
    ∧ (∀ orig stream, completes (.picHistoryForget orig stream) s fun t =>
        (∀ h, h ∈ t.hist ↔ h ∈ s.hist ∧ ¬(h.orig = orig ∧ h.stream = stream ∧ h.clk + gateHold s ≤ s.clk))
          ∧ t.regs = s.regs ∧ t.mem = s.mem)
    ∧ (gateExpired (smAt d.val s.gate) s = true →
      completes (.gateRelease d) s fun t =>
        smAt d.val t.gate = { smAt d.val s.gate with claim := 0, orig := 0 }
          ∧ (∀ e, e ≠ d.val → smAt e t.gate = smAt e s.gate) ∧ t.regs = s.regs ∧ t.mem = s.mem)

/-- In a clocked device: KIB_HEARTBEAT_SEND at a new instant, while KIB has a state to send, advances KIB_HB_SEQ, and its
message leaves on the tether where that path is enabled; KIB_CLAIM_NOTICE_SEND when a notice is due takes at most 32 changed
duties; a sound message of another device that arrives on the network or the tether with HEARTBEAT_RECEIVE or
CLAIM_NOTICE_RECEIVE, while there is room for its peer, sets the peer's sequence number and, in BOOT or RUN, its state, and
a heartbeat in BOOT or RUN leaves the path alive; KIB_PATH_TIMEOUT after TIMEOUT_US ends a path of a peer; KIB_RESYNC_DONE
after KIB_RESYNC.MS ends the resynchronisation. What a message or a duty's command leaves is said where no duty sends to a
context of this device, or the accesses of Ngurelo port 0 are kept to memory and none waits or is made again. Where their
write is issued, admitted and passes the page's check, DUTY_TAKE, DUTY_YIELD, DUTY_FORCE, DUTY_UNFORCE and DUTY_ROLE_WRITE
leave the selected duty ACTIVE, in role 1, FORCED, ACTIVE again, and with the role and claim written. Where a clause follows
a choice of the model, the choice is that of log entry 62. -/
def Obligations.KibiterDuties : Prop :=
  ∀ s : State,
    let contained := (∀ e, ctxOfStream (dutyStream e s) s = none) ∨ (noneWaits s ∧ keptToMemory (.ng 0) s)
    (clocked s = true →
      (kibState s ≠ 0 → hbIndex s ≠ s.kib.slot →
        completes .kibHeartbeatSend s fun t =>
          t.reg pKib 0x064 = s.reg pKib 0x064 + 1 ∧ t.kib.slot = hbIndex s
            ∧ (s.rb pKib 0x048 2 = true → ∃ bs, t.outbox.getLast? = some (.tether bs)))
      ∧ (kibState s ≠ 0 → s.kib.due = true →
        completes .kibClaimNoticeSend s fun t =>
          t.kib.changed = s.kib.changed.drop 32 ∧ t.kib.due = !(s.kib.changed.drop 32).isEmpty
            ∧ t.reg pKib 0x064 = s.reg pKib 0x064)
      ∧ (∀ (b : List Byte) (k : KibMsg) (a : KibArrival), a = .net b ∨ a = .tether b → s.enabled pKib = true →
        parseKib b = some k → k.version = 1 → k.device ≠ ownId s →
        contained → (peerOf k.device s).isSome = true ∨ s.kib.peers.length < 64 → (k.state = 1 ∨ k.state = 2) →
        (k.msgType = 1 → completes (.heartbeatReceive a) s fun t =>
          ∃ q, peerOf k.device t = some q ∧ q.seq = k.hbSeq ∧ q.state = k.state
            ∧ (if a = .net b then 1 else 2) ∈ q.alive)
        ∧ (k.msgType = 2 → completes (.claimNoticeReceive a) s fun t =>
          ∃ q, peerOf k.device t = some q ∧ q.seq = k.hbSeq ∧ q.state = k.state))
      ∧ (∀ (i : Fin 64) path, pathNo path ∈ (peerAt i.val s).alive →
        smRead (fun _ => 0) (pathNo path) (peerAt i.val s).heard + s.rf pKib 0x044 31 16 * 500 ≤ s.clk →
        completes (.kibPathTimeout i path) s fun t =>
          t = evalDuties ownBus (pathLost i.val (pathNo path) s)
            ∧ pathNo path ∉ (peerAt i.val (pathLost i.val (pathNo path) s)).alive)
      ∧ (s.enabled pKib = true → s.kib.enabledAt + s.rf pKib 0x050 15 0 * 500000 ≤ s.clk →
        completes .kibResyncDone s fun t => t = { s with kib := { s.kib with synced := true } }))
    ∧ ∀ (m : Master) (v : Word), contained →
      let d := s.rfAt pKib 0x070 (masterId m) 6 0
      let done := fun (t : State) => t.resp = { ok := true, data := 0 }
      (admitted m pKib 0x10C 1 s → kibCheck m 0x10C 1 s = .ok →
        completes (.dutyTake m) s fun t => dutyState d t = 3 ∧ done t)
      ∧ (admitted m pKib 0x10C 2 s → kibCheck m 0x10C 2 s = .ok →
        completes (.dutyYield m) s fun t => dutyRole d t = 1 ∧ done t)
      ∧ (admitted m pKib 0x10C 3 s → kibCheck m 0x10C 3 s = .ok →
        completes (.dutyForce m) s fun t => dutyState d t = 4 ∧ done t)
      ∧ (admitted m pKib 0x10C 4 s → kibCheck m 0x10C 4 s = .ok →
        completes (.dutyUnforce m) s fun t => dutyState d t = 3 ∧ done t)
      ∧ (admitted m pKib 0x108 v s → kibCheck m 0x108 v s = .ok →
        completes (.dutyRoleWrite m v) s fun t =>
          dutyRole d t = fld v 1 0 ∧ t.rfAt pKib 0x108 d 31 16 = fld v 31 16 ∧ done t)

/-- Where the access is issued and admitted, of a line that a channel answers, not held for test: DRAM_READ of an unpoisoned
line without symbol errors answers the stored bytes and changes nothing else; a CORRECTED one answers the corrected bytes
and is counted for its rank; a POISON one is an error; an UNCORRECTABLE one waits to be read again. DRAM_WRITE by a master
that may write there stores the line, which is no longer poisoned, and no other byte; into the record region by any other
master it stores nothing. DRAM_PARTIAL_WRITE without errors stores exactly its bytes. A read of a line of which an earlier
access of its master is read again, or waits, waits behind it, judged as it was issued and in flight. DRAM_READ_RETRY, with
no access and no response waiting behind it, nor its own response behind another's, of a demand read that now finds no error
answers the stored bytes, and one whose last read still fails poisons the line and answers an error. POISON_QUEUE_POP
answers the oldest entry and removes it, and answers 0 when there is none. Where a clause follows a choice of the model, the
choice is that of log entries 3 and 63. -/
def Obligations.DramLines : Prop :=
  ∀ (m : Master) (priv : Bool) (addr : Addr) (s : State),
    let a := lineOf addr.toNat
    let n := channelOf a
    let rank := servingRank a s
    let guarded := 0 < recSize s ∧ recBase s ≤ a ∧ a < recBase s + recSize s ∧ mayWriteRec m = false
    (lineServed a s = true → lineHeld a s = false →
      (admits m priv .read a 64 s →
        (poisoned a s = false →
          completes (.dramRead m priv addr []) s fun t => t = s.respond true (leNat (s.rdBytes a 64)))
        ∧ (∀ e fix, readOutcome a e s = .corrected fix →
          completes (.dramRead m priv addr e) s fun t =>
            t.resp = { ok := true, data := leNat (residueLine n (s.rdBytes a 64) (lineResidue e fix) s) }
              ∧ t.reg (pDmc n) (0x068 + 4 * rank) = satW ((s.reg (pDmc n) (0x068 + 4 * rank)).toNat + 1))
        ∧ (∀ e, readOutcome a e s = .poison →
          completes (.dramRead m priv addr e) s fun t => t.resp = { ok := false, data := 0 } ∧ t.mem = s.mem)
        ∧ (∀ e, readOutcome a e s = .uncorrectable →
          completes (.dramRead m priv addr e) s fun t =>
            (smAt n t.dmc).retries = (smAt n s.dmc).retries
                ++ [{ m, line := a, use := .demand, left := s.rf (pDmc n) 0x060 13 12, acc := some s.accId }]
              ∧ t.regs = s.regs ∧ t.mem = s.mem))
      ∧ (∀ data, data.length = 64 → admits m priv .write a 64 s →
        (¬guarded → completes (.dramWrite m priv addr data) s fun t =>
          t.resp = { ok := true, data := 0 } ∧ t.rdBytes a 64 = data ∧ poisoned a t = false ∧ t.regs = s.regs
            ∧ ∀ x, x < a ∨ a + 64 ≤ x → t.rdByte x = s.rdByte x)
        ∧ (guarded → completes (.dramWrite m priv addr data) s fun t =>
          t.resp = { ok := false, data := 0 } ∧ t.mem = s.mem ∧ t.rb pSrc 0x010 1 = true))
      ∧ (∀ data, data ≠ [] → data.length < 64 → addr.toNat + data.length ≤ a + 64 →
        admits m priv .write addr.toNat data.length s → ¬guarded → poisoned a s = false →
        completes (.dramPartialWrite m priv addr data []) s fun t =>
          t.resp = { ok := true, data := 0 } ∧ t.rdBytes addr.toNat data.length = data ∧ t.regs = s.regs
            ∧ ∀ x, x < addr.toNat ∨ addr.toNat + data.length ≤ x → t.rdByte x = s.rdByte x))
    ∧ (∀ e, reachesAt m priv .read a 64 s = true → mustWait m a 64 s = true →
      completes (.dramRead m priv addr e) s fun t =>
        t = { s with
          behind := s.behind ++ [{ cmd := .dramRead m priv addr e
                                   judged := { admitted := parts a 64, faulted := false }, id := s.accId }]
          inflight := s.inflight ++ [{ id := s.accId, gate := (gateOf m).getD 32, m, addr := a, read := true, left := 1
                                       ok := true }]
          accId := s.accId + 1 })
    ∧ (served s = true → s.behind = [] → (∀ l ∈ s.late, l.m ≠ m) →
      ∀ r, ((smAt n s.dmc).retries.find? fun r => r.line = a && (r.m = m || r.use = .scrub)) = some r → r.use = .demand →
      (∀ id, r.acc = some id → keepsOrder m = true → outstanding m id s = false) →
      (∀ more, 0 < r.left → poisoned a s = false →
        completes (.dramReadRetry m addr ([] :: more)) s fun t =>
          t.resp = { ok := true, data := leNat (s.rdBytes a 64) } ∧ t.mem = s.mem ∧ t.regs = s.regs
            ∧ (smAt n t.dmc).retries = (smAt n s.dmc).retries.erase r
            ∧ ∀ id, r.acc = some id → ∀ x ∈ t.inflight, x.id ≠ id)
      ∧ (r.left = 0 → completes (.dramReadRetry m addr []) s fun t =>
          t.resp = { ok := false, data := 0 } ∧ poisoned a t = true ∧ t.rb (pDmc n) 0x010 3 = true ∧ t.mem = s.mem))
    ∧ ∀ k : Fin 6, admittedRead m (pDmc k.val) 0x080 s →
      ((smAt k.val s.dmc).poisonQ = [] → completes (.poisonQueuePop m k) s fun t =>
        t.resp = { ok := true, data := 0 } ∧ t.dmc = s.dmc)
      ∧ ∀ x c rest, (smAt k.val s.dmc).poisonQ = (x, c) :: rest → completes (.poisonQueuePop m k) s fun t =>
        t.resp.ok = true ∧ t.resp.data = (2 ^ 31 + c * 2 ^ 29 + x / 2 ^ 32 % 256) % 2 ^ 32
          ∧ (smAt k.val t.dmc).poisonQ = rest ∧ keptShadow m (pDmc k.val) 0x084 t = loW (x / 64 * 64)

/-- Where its write is issued and admitted: DMC_INIT taken by its check begins an initialisation, and MIG_START taken by its
check on a channel in service migrates the rank to the spare, which serves from then on, from unit 0. In a clocked device:
DMC_INIT_DONE without a failure puts the channel in service with every byte of it 0 and every other byte as it was; with a
failed rank and no spare the channel has FAILED. MIG_UNIT_COPY of clean lines moves the mark past the unit, and after the
last unit the spare serves and the source is retired. SELF_REFRESH_ENTRY, when WATCH waits for it and no line is being read
again, and SELF_REFRESH_EXIT, when the channel leaves, take a channel into self-refresh and out of it, every fitted rank
with its commands, failed when its verification fails. Where a clause follows a choice of the model, the choice is that of
log entry 64. -/
def Obligations.DramChannelStates : Prop :=
  ∀ (m : Master) (n : Fin 6) (ctrl : Word) (s : State),
    let p := pDmc n.val
    (let v := s.reg p 0x040 ||| 1;
      admitted m p 0x040 v s → dmcCheck n.val 0x040 v s = .ok →
      completes (.dmcInit m n) s fun t =>
        dmcState n.val t = dmcInitSt ∧ t.rb p 0x040 0 = true ∧ (smAt n.val t.dmc).initAt = s.clk
          ∧ t.resp = { ok := true, data := 0 } ∧ t.mem = s.mem)
    ∧ (clocked s = true → dmcState n.val s = dmcInitSt →
      (completes (.dmcInitDone n []) s fun t =>
        dmcState n.val t = dmcInService ∧ t.rb p 0x040 0 = false ∧ t.rb p 0x010 0 = true ∧ t.reg p 0x050 = 0xF000
          ∧ ∀ a, t.rdByte a = if a < 0xC000000000 ∧ channelOf a = n.val then 0 else s.rdByte a)
      ∧ ∀ f : TrainFailure, f.rank.val < fittedRanks n.val s → pstate n.val f.rank.val s ≠ rankRetired →
        spareAvail n.val s = false →
        completes (.dmcInitDone n [f]) s fun t =>
          dmcState n.val t = dmcFailed ∧ t.rb p 0x010 1 = true ∧ t.rf p 0x050 15 12 = f.step.val + 1
            ∧ t.rf p 0x050 11 10 = f.rank.val ∧ t.mem = s.mem ∧ (s.dev = devBoot → t.dev = devWithdrawn))
    ∧ (admitted m p 0x090 (ctrl ||| 1) s → dmcCheck n.val 0x090 (ctrl ||| 1) s = .ok →
      dmcState n.val s = dmcInService →
      let dst := fld (dmcGeom n.val s) 6 5
      completes (.migStart m n ctrl) s fun t =>
        dmcState n.val t = dmcMigrating ∧ migSrc n.val t = fld ctrl 3 2 ∧ migDst n.val t = dst
          ∧ pstate n.val dst t = rankInService ∧ wmark n.val t = 0 ∧ spareAvail n.val t = false
          ∧ t.rb p 0x010 7 = true ∧ t.resp = { ok := true, data := 0 } ∧ t.mem = s.mem)
    ∧ (∀ l, clocked s = true → dmcState n.val s = dmcMigrating → logicalOf n.val (migSrc n.val s) s = some l →
      let units := rankSize (dmcGeom n.val s) / 128
      let ca := l * rankSize (dmcGeom n.val s) + 128 * wmark n.val s
      poisoned (physAddr n.val ca) s = false → poisoned (physAddr n.val (ca + 64)) s = false →
      completes (.migUnitCopy n [] []) s fun t =>
        t.reg p 0x098 = s.reg p 0x098 + 1 ∧ t.mem = s.mem
          ∧ (wmark n.val t ≠ units → dmcState n.val t = dmcMigrating)
          ∧ (wmark n.val t = units → dmcState n.val t = dmcInService ∧ t.rb p 0x010 8 = true
              ∧ pstate n.val (migDst n.val s) t = rankInService ∧ lmap n.val l t = migDst n.val s
              ∧ (migSrc n.val s ≠ migDst n.val s → pstate n.val (migSrc n.val s) t = rankRetired)))
    ∧ (served s = true → watchPending s = true → s.pwr.watchAck = true → dmcState n.val s = dmcInService →
      (smAt n.val s.dmc).retries = [] → completes (.selfRefreshEntry n) s fun t =>
        dmcState n.val t = dmcSelfRefresh ∧ (smAt n.val t.dmc).owed = [] ∧ t.mem = s.mem)
    ∧ (leavesSelfRefresh n.val s = true →
      (completes (.selfRefreshExit n true) s fun t => dmcState n.val t = dmcInService ∧ t.mem = s.mem ∧
        ∀ r, r < 4 → rankFitted n.val r s = true →
          .ddr n.val r .selfRefreshExit ∈ t.outbox ∧ .ddr n.val r .zqCal ∈ t.outbox ∧ .ddr n.val r .dqsOsc ∈ t.outbox)
      ∧ completes (.selfRefreshExit n false) s fun t => dmcState n.val t = dmcFailed ∧ t.rb p 0x010 1 = true)

/-- On a channel that serves, in a clocked device: DMC_ZQ_CAL and DMC_DQS_OSC of a live rank, every fitted one, send that
command. SCRUB_READ of a clean line with the scrubber on moves to the next line. CE_WINDOW_END, once the window has passed,
starts the next with its counts at 0. CA_PARITY_ALERT of a fitted rank, of a channel in INIT too, is raised and re-issued,
and the first is counted; a second one within 1 ms moves a rank in service to the spare of a channel in service. REFRESH_DUE
of a live rank is owed when a request presses and one more may be owed, and sent otherwise; REFRESH_MAKEUP sends what is
owed. MR4_POLL keeps the hot live ranks and shows the doubled rate. Where a clause follows a choice of the model, the choice
is that of log entry 64. -/
def Obligations.DramUpkeep : Prop :=
  ∀ (n : Fin 6) (r : Fin 4) (s : State),
    let p := pDmc n.val
    let st := smAt n.val s.dmc
    clocked s = true →
    (rankLive n.val r.val s = true →
      (completes (.dmcZqCal n r) s fun t => t = s.emit (.ddr n.val r.val .zqCal))
      ∧ (completes (.dmcDqsOsc n r) s fun t => t = s.emit (.ddr n.val r.val .dqsOsc))
      ∧ (∀ pending,
        let postponed := pressing n.val pending s = true ∧ smAt r.val st.owed + 1 ≤ postponeLimit n.val s
        completes (.refreshDue n r pending) s fun t =>
          (postponed → smAt r.val (smAt n.val t.dmc).owed = smAt r.val st.owed + 1 ∧ t.outbox = s.outbox)
          ∧ (¬postponed → t = s.emit (.ddr n.val r.val .refresh)))
      ∧ completes (.refreshMakeup n r) s fun t =>
          smAt r.val (smAt n.val t.dmc).owed = 0
            ∧ t.outbox = s.outbox ++ List.replicate (smAt r.val st.owed) (.ddr n.val r.val .refresh) ∧ t.mem = s.mem)
    ∧ (∀ rank line, s.rb p 0x040 1 = true → dmcServes n.val s = true →
      scrubSeek n.val st.scrubRank st.scrubLine s = some (rank, line) →
      (∀ l, scrubLogical n.val rank line s = some l →
        poisoned (physAddr n.val (l * rankSize (dmcGeom n.val s) + 64 * line)) s = false) →
      completes (.scrubRead n []) s fun t =>
        t = scrubAdvance n.val rank line s ∧ t.mem = s.mem
          ∧ (line + 1 < rankLines n.val s →
              (smAt n.val t.dmc).scrubRank = rank ∧ (smAt n.val t.dmc).scrubLine = line + 1))
    ∧ (dmcServes n.val s = true → st.winStart + s.rf p 0x064 23 16 * 500000000 ≤ s.clk →
      completes (.ceWindowEnd n) s fun t =>
        (smAt n.val t.dmc).winStart = st.winStart + s.rf p 0x064 23 16 * 500000000 ∧ (smAt n.val t.dmc).winCnt = []
          ∧ (smAt n.val t.dmc).winFired = [] ∧ t.regs = s.regs ∧ t.mem = s.mem)
    ∧ (dmcServes n.val s = true ∨ dmcState n.val s = dmcInitSt → pstate n.val r.val s ≠ rankAbsent →
      completes (.caParityAlert n r) s fun t =>
        t.rb p 0x010 6 = true ∧ (.ddr n.val r.val .reissue) ∈ t.outbox ∧ t.mem = s.mem
          ∧ (st.alerts.lookup r.val = none → (smAt n.val t.dmc).alerts.lookup r.val = some s.clk
              ∧ t.rf p 0x07C 23 16 = min (s.rf p 0x07C 23 16 + 1) 255 ∧ dmcState n.val t = dmcState n.val s)
          ∧ (∀ c, st.alerts.lookup r.val = some c → s.clk < c + 500000 → spareAvail n.val s = true →
              dmcState n.val s = dmcInService → pstate n.val r.val s = rankInService →
              dmcState n.val t = dmcMigrating ∧ migSrc n.val t = r.val))
    ∧ (∀ hot, dmcServes n.val s = true →
      completes (.mr4Poll n hot) s fun t =>
        (smAt n.val t.dmc).hot = (hot.map (·.val)).filter (fun q => rankLive n.val q s) ∧ t.mem = s.mem
          ∧ (t.rb p 0x044 11 = true ↔ (smAt n.val t.dmc).hot ≠ []))

/-- In a clocked device: TIMER_COMPARE whose condition holds and has not been given counts one event of the processor's
timer source. INTERRUPT_OFFER offers a pending source of highest priority to a running processor that reports itself
interruptible, holds no offer and runs below that priority. INTERRUPT_ACCEPT of a running processor below the priority
offered takes one event of the source and traps the processor to VBASE + 16 × source with the cause of a machine external
interrupt, an APC running at that priority from then on; when the source has gone away it is confirmed as 511 and counted.
INTERRUPT_DECLINE drops the offer and counts it. LOCKSTEP_MISMATCH in BOOT or RUN stops the pair and withdraws the device.
Where its write is issued, admitted and passes the page's check: ICA_EOI of an APC with an entry pops its stack; SWI_SET
counts an event, CNT_CLEAR clears the count, ICA_PMR_WRITE and ICS_THRESH_WRITE set the level. Where a clause follows a
choice of the model, the choice is that of log entries 21 and 65. -/
def Obligations.Interrupts : Prop :=
  ∀ (m : Master) (p : Proc) (c : Controller) (v : Word) (s : State),
    let ok := fun (t : State) => t.resp = { ok := true, data := 0 } ∧ t.mem = s.mem
    (clocked s = true →
      (compareMet p s = true → procIdx p ∉ s.ic.fired → smAt (procTimer p) s.ic.cnt < 255 →
        completes (.timerCompare p) s fun t =>
          smAt (procTimer p) t.ic.cnt = smAt (procTimer p) s.ic.cnt + 1 ∧ procIdx p ∈ t.ic.fired ∧ t.regs = s.regs
            ∧ t.mem = s.mem)
      ∧ (∀ enabled o, bestOffer (offerChoices c (enabled.filter fun q => procRuns q s) s) = some o →
        completes (.interruptOffer c enabled) s fun t =>
          t.ic.offers = s.ic.offers ++ [o] ∧ o.p ∈ enabled ∧ procRuns o.p s = true ∧ offerTo o.p s = none
            ∧ smAt o.src s.ic.cnt ≠ 0 ∧ effPrio o.p s < o.prio
            ∧ (∀ q ∈ offerChoices c (enabled.filter fun q => procRuns q s) s, q.prio ≤ o.prio)
            ∧ t.regs = s.regs ∧ t.mem = s.mem)
      ∧ (∀ o, offerTo p s = some o → procRuns p s = true →
        (ownLow p s < o.prio → completes (.interruptAccept p) s fun t =>
          t.ic.offers = s.ic.offers.erase o ∧ t.mem = s.mem
            ∧ (spuriousNow o s = false →
                smAt o.src t.ic.cnt = smAt o.src s.ic.cnt - 1
                  ∧ t.outbox = s.outbox ++ [.trap p (vbase o.ctl s + 16 * o.src) (trapCause p) o.src]
                  ∧ ∀ k, p = .apc k → runPrio p t = o.prio)
            ∧ (spuriousNow o s = true →
                .trap p (vbase o.ctl s + 16 * 511) (trapCause p) 511 ∈ t.outbox ∧ t.rb (ctlPage o.ctl) 0x010 1 = true
                  ∧ t.reg (ctlPage o.ctl) 0x060 = satW ((s.reg (ctlPage o.ctl) 0x060).toNat + 1)))
        ∧ completes (.interruptDecline p) s fun t =>
          t.ic = { s.ic with offers := s.ic.offers.erase o } ∧ t.mem = s.mem
            ∧ t.reg (ctlPage o.ctl) 0x05C = satW ((s.reg (ctlPage o.ctl) 0x05C).toNat + 1))
      ∧ ∀ g, (s.dev = devBoot ∨ s.dev = devRun) →
        completes (.lockstepMismatch g) s fun t =>
          t.dev = devWithdrawn ∧ g.val ∈ t.ic.stopped ∧ procRuns (.gp g) t = false
            ∧ t.reg pSys 0x050 = BitVec.ofNat 32 (0x6000 + g.val))
    ∧ (∀ k, admitted (.apc k) 6 0x048 0 s → procStack (.apc k) s ≠ [] →
      completes (.icaEoi (.apc k)) s fun t => procStack (.apc k) t = (procStack (.apc k) s).tail ∧ ok t)
    ∧ (admitted m (ctlPage c) 0x04C v s → ictCheck m c 0x04C v s = .ok → smAt (fld v 8 0) s.ic.cnt < 255 →
      completes (.swiSet m c v) s fun t => smAt (fld v 8 0) t.ic.cnt = smAt (fld v 8 0) s.ic.cnt + 1 ∧ ok t)
    ∧ (admitted m (ctlPage c) 0x050 v s → ictCheck m c 0x050 v s = .ok →
      completes (.cntClear m c v) s fun t =>
        smAt (fld v 8 0) t.ic.cnt = 0 ∧ (∀ n, n ≠ fld v 8 0 → smAt n t.ic.cnt = smAt n s.ic.cnt) ∧ ok t)
    ∧ (∀ k, admitted m 6 (procOff (.apc k) 4) v s → ictCheck m .ica (procOff (.apc k) 4) v s = .ok →
      completes (.icaPmrWrite m k v) s fun t =>
        t.rf 6 (procOff (.apc k) 4) 5 0 = fld v 5 0 ∧ effPrio (.apc k) t = max (runPrio (.apc k) s) (fld v 5 0) ∧ ok t)
    ∧ ∀ g, admitted m 7 (procOff (.gp g) 4) v s → ictCheck m .ics (procOff (.gp g) 4) v s = .ok →
      completes (.icsThreshWrite m g v) s fun t => effPrio (.gp g) t = fld v 3 0 ∧ ok t

/-- Where the access is issued and admitted: REGION_ENABLE whose CTRL its check takes grants exactly what it says; one whose
pages clash with an enabled region is refused with GATE_CFG_ERR and the region's number, and leaves the region as it was.
GATE_LOCK sets LOCK, after which no master's write of the page is admitted, but of GTE_FAULT_CLR, IRQ_RAW and IRQ_EN.
GATE_FAULT_CLEAR clears the fault record. GATE_DRAIN_READ waits for what the gate has in flight, and is itself in flight at
its master's gate. GATE_DRAIN_ANSWER answers the oldest read whose accesses have completed (no response of its master being
due before or after it).
Where a clause follows a choice of the model, the choice is that of log entries 7, 12, 14 and 22. -/
def Obligations.GateCommands : Prop :=
  ∀ (m : Master) (g : Fin 32) (r : Fin 16) (ctrl : Word) (s : State),
    let p := 8 + g.val
    let o := 0x108 + 0x10 * r.val
    (admitted m p o ctrl s →
      (gteCheck p o ctrl s = .ok → completes (.regionEnable m g r ctrl) s fun t =>
        t.rb p o 0 = bit ctrl 0 ∧ t.resp = { ok := true, data := 0 } ∧ t.mem = s.mem
          ∧ (∀ kind priv, regionAllows (t.reg p o) kind priv = regionAllows ctrl kind priv)
          ∧ ∀ q a i, isReg q a i → (q ≠ p ∨ a ≠ o ∨ i ≠ 0) → t.regAt q a i = s.regAt q a i)
      ∧ (gteCheck p o ctrl s = .err 0x41 → completes (.regionEnable m g r ctrl) s fun t =>
        t.reg p o = s.reg p o ∧ t.rb p 0x010 1 = true ∧ t.rf p 0x04C 19 16 = r.val ∧ t.mem = s.mem
          ∧ (s.rf p 0x01C 31 24 = 0 → t.rf p 0x01C 15 0 = 0x41)))
    ∧ (let v := s.reg p 0x040 ||| 4;
      admitted m p 0x040 v s → gteCheck p 0x040 v s = .ok →
      completes (.gateLock m g) s fun t =>
        t.rb p 0x040 2 = true ∧ t.resp = { ok := true, data := 0 } ∧ t.mem = s.mem
          ∧ ∀ k x w, x ≠ 0x060 → x ≠ 0x010 → x ≠ 0x014 → ¬admitted k p x w t)
    ∧ (admitted m p 0x060 1 s →
      completes (.gateFaultClear m g) s fun t =>
        t.reg p 0x050 = 0x1F00 ∧ t.reg p 0x054 = 0 ∧ t.reg p 0x058 = 0 ∧ t.resp = { ok := true, data := 0 }
          ∧ t.mem = s.mem)
    ∧ (admittedRead m p 0x048 s →
      completes (.gateDrainRead m g) s fun t =>
        t.drains = s.drains ++ [{ gate := g.val, m, id := s.accId, ids := gateInflight g.val s,
                                  waited := min (gateInflight g.val s).length 65535, wide := false }]
          ∧ t.inflight = s.inflight ++ [{ id := s.accId, gate := (gateOf m).getD 32, m, addr := pageAddr p 0x048,
                                          read := true, left := 1, ok := true }]
          ∧ t.accId = s.accId + 1 ∧ t.regs = s.regs ∧ t.mem = s.mem)
    ∧ ∀ d, served s = true → (s.drains.find? fun d => d.gate = g.val && drainReady s d) = some d → d.wide = false →
      (keepsOrder d.m = true → outstanding d.m d.id s = false) → (∀ l ∈ s.late, l.m ≠ d.m) →
      completes (.gateDrainAnswer g) s fun t =>
        t.resp = { ok := true, data := d.waited } ∧ t.drains = s.drains.erase d ∧ t.mem = s.mem
          ∧ ∀ x, x ∈ t.inflight ↔ x ∈ s.inflight ∧ x.id ≠ d.id

/-- An access to system SRAM that a master issues within one page, whose gate is enabled and admits none of it, because the
page lies in a region that does not allow it, or in none where the gate's defaults do not: a read, a fetch, a write or an
atomic is answered with an error and reads 0, memory stays, and the fault is counted, with FAULT raised. Of an access across
two pages of SRAM whose gate faults one of them or both: with BROMOTIA 1 no part is carried out and WHOLE is recorded, with
BROMOTIA 0 the admitted part alone is: its bytes are read or stored, the others read 0 and stay; an atomic is not carried
out.
Where a clause follows a choice of the model, the choice is that of log entry 22. -/
def Obligations.GateFaultReachesNothing : Prop :=
  ∀ (m : Master) (priv : Bool) (addr : Addr) (acc : Access) (g : Nat) (k : AccKind) (len : Nat) (s : State),
    mayIssue m s = true → region addr.toNat = .sram → gateOf m = some g → s.enabled (8 + g) = true →
    (acc = .read len ∧ k = .read ∨ acc = .fetch len ∧ k = .fetch ∨ (∃ bs, acc = .write bs ∧ bs.length = len ∧ k = .write)
      ∨ ∃ op bs, acc = .atomic op bs ∧ bs.length = len ∧ (len = 4 ∨ len = 8) ∧ k = .atomic) →
    mustWait m addr.toNat len s = false → inTurn m s →
    (0 < len → addr.toNat % 0x1000 + len ≤ 0x1000 →
    (judgePart g addr.toNat k (fixedPriv m priv) s).1.isSome = true →
    completes (.fabricAccess m priv addr acc) s fun t =>
      t.resp = { ok := false, data := 0 } ∧ t.mem = s.mem ∧ t.rb (8 + g) 0x010 0 = true
        ∧ t.reg (8 + g) 0x05C = satW ((s.reg (8 + g) 0x05C).toNat + 1))
    ∧ (let a := addr.toNat
      let b := a + (0x1000 - a % 0x1000)
      let one := (judgePart g a k (fixedPriv m priv) s).1.isNone
      let two := (judgePart g b k (fixedPriv m priv) s).1.isNone
      let whole := s.rb (8 + g) 0x040 0 || k == .atomic
      b < a + len → a + len ≤ b + 0x1000 → region b = .sram → (one = false ∨ two = false ∨ k = .atomic) →
      completes (.fabricAccess m priv addr acc) s fun t =>
        t.resp.ok = false ∧ t.rb (8 + g) 0x010 0 = true
          ∧ t.reg (8 + g) 0x05C = satW ((s.reg (8 + g) 0x05C).toNat + 1)
          ∧ (s.rb (8 + g) 0x050 31 = false → k ≠ .atomic → t.rb (8 + g) 0x050 4 = s.rb (8 + g) 0x040 0)
          ∧ (k ≠ .write → t.mem = s.mem)
          ∧ (k = .read ∨ k = .fetch → t.resp.data = leNat
              ((if one && !whole then s.rdBytes a (b - a) else List.replicate (b - a) 0)
                ++ if two && !whole then s.rdBytes b (a + len - b) else List.replicate (a + len - b) 0))
          ∧ ∀ bs, acc = .write bs → ∀ x, t.rdByte x =
              if (one && !whole) ∧ a ≤ x ∧ x < b ∨ (two && !whole) ∧ b ≤ x ∧ x < a + len then bs.getD (x - a) 0
              else s.rdByte x)

/-- In a clocked device: DMA_DESC_FETCH of a live channel with work reads 32 bytes, advances HEAD and adds one descriptor in
progress, failed when the read failed and bad when R375 says so. DMA_COPY, DMA_FILL, DMA_CRC and DMA_COPY_CRC each carry out
the first descriptor that has not started, when it is of that operation and follows none that it must wait for, to its end
or up to a read of GTE_DRAIN that waits; one that waits so goes on once the accesses it waits for have completed.
DMA_DESC_COMPLETE of a descriptor whose requests have returned adds the completion, counts it, and halts the channel on an
error. DMA_CQ_WRITE writes the oldest completion and advances. DMA_RESUME, DMA_CH_DISABLE and DMA_RING_CONFIG, where issued,
admitted and taken by the check, clear the halt, clear EN, and reset HEAD and TAIL. Where a clause follows a choice of the
model, the choice is that of log entries 14, 67 and 68. -/
def Obligations.DmaEngines : Prop :=
  ∀ (m : Master) (e : Fin 2) (c : Fin 8) (v : Word) (s : State),
    let p := pDma e.val
    let ch := dmaCh e.val c.val s
    let head := (s.reg p (dmaOff c.val 0x10)).toNat
    let size := 2 ^ s.rf p (dmaOff c.val 0xC) 3 0
    (clocked s = true →
      (dmaLive e.val c.val s = true → ch.inflight.length < 4 →
        head % size ≠ (s.reg p (dmaOff c.val 0x14)).toNat % size →
        completes (.dmaDescFetch e c) s fun t =>
          let a := s.pair p (dmaOff c.val 4) + 32 * head
          let f := dmaReadAs e (dmaPriv e.val c.val s) a 32 s
          let d := dmaParse f.2.1
          let d' := if f.1 = false then { status := some 4, fault := a }
            else if d.bad (leNat (f.2.1.drop 0x1E)) = true then { d with status := some 3 } else d
          t = setCh e.val c.val (fun x => { x with inflight := x.inflight ++ [d'] })
            (f.2.2.setReg p (dmaOff c.val 0x10) (BitVec.ofNat 32 ((head + 1) % size))))
      ∧ (∀ i d, ch.inflight.findIdx? (fun d => d.status.isNone || d.waits.isSome) = some i → ch.inflight[i]? = some d →
        s.enabled p = true →
        let carried := fun (t : State) =>
          (d.waits = none → (d.flags.testBit 0 = true → i = 0) →
            (d.feeds = true → ∀ x ∈ ch.inflight.take i, x.feeds = false) → dmaStalled e.val s = false →
            let x := dmaExecute e c.val d (setDesc e.val c.val i { d with fed := d.feeds } s)
            t = setDesc e.val c.val i x.1 x.2 ∧ (x.1.status.isSome = true ∨ x.1.waits.isSome = true))
          ∧ ∀ w, d.waits = some w →
            let x := dmaResume e (dmaPriv e.val c.val s) d w s
            t = if allDone w.ids s = true then setDesc e.val c.val i x.1 x.2 else s
        (d.op = opCopy → completes (.dmaCopy e c) s carried)
        ∧ (d.op = opFill → completes (.dmaFill e c) s carried)
        ∧ (d.op = opCrc → completes (.dmaCrc e c) s carried)
        ∧ (d.op = opCopyCrc → completes (.dmaCopyCrc e c) s carried))
      ∧ (∀ (i : Fin 4) d, ch.inflight[i.val]? = some d → d.status.isSome = true → dmaReturned d s = true →
        let f := dmaFinish d s
        let st := f.1.status.getD 0
        completes (.dmaDescComplete e c i) s fun t =>
          (dmaCh e.val c.val t).inflight = ch.inflight.eraseIdx i.val
            ∧ ((smAt e.val s.dma).cqError = false →
                (smAt e.val t.dma).waiting = (smAt e.val s.dma).waiting ++ [dmaCompletion c.val f.1 st])
            ∧ t.rf p (dmaOff c.val 0x18) 11 8 = st % 16
            ∧ t.reg p (dmaOff c.val 0x1C) = satW ((s.reg p (dmaOff c.val 0x1C)).toNat + 1) ∧ t.mem = s.mem
            ∧ (1 ≤ st → st ≤ 5 → (dmaCh e.val c.val t).halted = true)
            ∧ (d.flags.testBit 1 = true → t.rb p 0x010 c.val = true)
            ∧ (d.feeds = true → d.unit < 8 → d.status ≠ some 0 → t.rb (pCrc d.unit) 0x074 4 = true))
      ∧ (∀ x rest accs u, (smAt e.val s.dma).waiting = x :: rest → s.enabled p = true → s.rf p 0x048 3 0 ≠ 0 →
        cqFull e.val s = false → (smAt e.val s.dma).cqError = false →
        let h := (s.reg p 0x04C).toNat
        let next := setEngine e.val (fun g => { g with
            waiting := rest, phase := if h + 1 = cqSize e.val s then !g.phase else g.phase })
          (u.setReg p 0x04C (BitVec.ofNat 32 ((h + 1) % cqSize e.val s)))
        dmaWriteAs e (dmaPriv e.val x.ch s) (s.pair p 0x040 + 16 * h) (cplBytes (smAt e.val s.dma).phase x) s
          = (true, accs, u) →
        completes (.dmaCqWrite e) s fun t =>
          t = (if cqFull e.val next = true then raiseBit p 16 next else next) ∧ t.mem = u.mem))
    ∧ (let w := (s.reg p (dmaOff c.val 0) &&& 9) ||| 4;
      admitted m p (dmaOff c.val 0) w s → dmaCheck (fixedPriv m true) e.val (dmaOff c.val 0) w s = .ok →
      completes (.dmaResume m e c) s fun t =>
        (dmaCh e.val c.val t).halted = false ∧ dmaEn e.val c.val t = dmaEn e.val c.val s ∧ t.mem = s.mem
          ∧ (dmaCh e.val c.val t).inflight = ch.inflight ∧ t.resp = { ok := true, data := 0 })
    ∧ (let w := s.reg p (dmaOff c.val 0) &&& 8;
      admitted m p (dmaOff c.val 0) w s → dmaCheck (fixedPriv m true) e.val (dmaOff c.val 0) w s = .ok →
      completes (.dmaChDisable m e c) s fun t =>
        dmaEn e.val c.val t = false ∧ t.dma = s.dma ∧ t.mem = s.mem ∧ t.resp = { ok := true, data := 0 })
    ∧ (admitted m p (dmaOff c.val 0xC) v s → dmaCheck (fixedPriv m true) e.val (dmaOff c.val 0xC) v s = .ok →
      completes (.dmaRingConfig m e c v) s fun t =>
        t.rf p (dmaOff c.val 0xC) 3 0 = fld v 3 0 ∧ t.reg p (dmaOff c.val 0x10) = 0 ∧ t.reg p (dmaOff c.val 0x14) = 0
          ∧ t.dma = s.dma ∧ t.mem = s.mem ∧ t.resp = { ok := true, data := 0 })

/-- Where the write is issued and admitted and the page's check takes it: CRC_START puts INIT into the value and 0 into the
byte count. CRC_DATA absorbs four bytes, lowest first, and CRC_DATA8 one, and both count them. CRC_FINISH stores the result,
raises FINISHED, and with CMP_EN compares it. CRC_CFG_WRITE of preset 0 stores the configuration, of another preset loads
the parameters of that preset.
Where a clause follows a choice of the model, the choice is that of log entry 69. -/
def Obligations.CrcUnits : Prop :=
  ∀ (m : Master) (u : Fin 8) (v : Word) (s : State),
    let p := pCrc u.val
    let done := fun (t : State) => t.resp = { ok := true, data := 0 } ∧ t.mem = s.mem
    let absorbed := fun (n : Nat) (t : State) =>
      t.reg p 0x058 = (leBytes n v.toNat).foldl (crcByte (crcParams u.val s)) (crcReg u.val 0x058 s)
        ∧ t.pair p 0x06C = (s.pair p 0x06C + n) % 2 ^ 64 ∧ done t
        ∧ ∀ q a i, isReg q a i → (q ≠ p ∨ i ≠ 0 ∨ (a ≠ 0x058 ∧ a ≠ 0x06C ∧ a ≠ 0x070)) → t.regAt q a i = s.regAt q a i
    (let w := (s.reg p 0x050 &&& 4) ||| 1;
      admitted m p 0x050 w s → crcCheck u.val 0x050 w s = .ok →
      completes (.crcStart m u) s fun t => t.reg p 0x058 = crcReg u.val 0x048 s ∧ t.pair p 0x06C = 0 ∧ done t)
    ∧ (let w := (s.reg p 0x050 &&& 4) ||| 2;
      admitted m p 0x050 w s → crcCheck u.val 0x050 w s = .ok →
      completes (.crcFinish m u) s fun t =>
        t.reg p 0x068 = crcResult u.val s ∧ t.rb p 0x010 1 = true ∧ done t
          ∧ (s.rb p 0x050 2 = true → crcResult u.val s = crcReg u.val 0x064 s → t.rf p 0x074 1 0 = 1)
          ∧ (s.rb p 0x050 2 = true → crcResult u.val s ≠ crcReg u.val 0x064 s →
              t.rf p 0x074 1 0 = 2 ∧ t.rb p 0x010 0 = true))
    ∧ (admitted m p 0x05C v s → crcCheck u.val 0x05C v s = .ok → completes (.crcData m u v) s (absorbed 4))
    ∧ (admitted m p 0x060 v s → crcCheck u.val 0x060 v s = .ok → completes (.crcData8 m u v) s (absorbed 1))
    ∧ (admitted m p 0x040 v s → crcCheck u.val 0x040 v s = .ok →
      completes (.crcCfgWrite m u v) s fun t =>
        done t
          ∧ (fld v 11 8 = 0 → t.rf p 0x040 1 0 = fld v 1 0 ∧ t.rb p 0x040 3 = bit v 3 ∧ t.rb p 0x040 4 = bit v 4
              ∧ t.reg p 0x044 = s.reg p 0x044)
          ∧ (fld v 11 8 ≠ 0 →
              (t.rf p 0x040 1 0, t.reg p 0x044, t.reg p 0x048, t.rb p 0x040 3, t.reg p 0x04C)
                = crcPreset (fld v 11 8)))

/-- Where its write is issued and admitted: TOUCH_SCAN_ENABLE, taken by its check while scanning is off, begins scanning
with every sound key and node in INIT, no scan, no contact and the time 0; TOUCH_SCAN_DISABLE ends it; TOUCH_DIAG, taken by
its check, sets DIAG. Outside a device reset and TEST: TOUCH_SCAN_START when the period, in WATCH that of the WATCH set, has
passed starts a scan at the time since scanning began, or shows the start as missed with its event while one still runs; in
WATCH without a gesture it starts none. Where no access to memory waits or is made again: TOUCH_SCAN_END ends the running
scan and counts it; TOUCH_DIAG_DONE records the pins at fault, ends the run and raises its event; TOUCH_WATCH_REQUEST at
rest is acknowledged with no contact left. Where a clause follows a choice of the model, the choice is that of log entries
70, 71 and 72. -/
def Obligations.TouchScanning : Prop :=
  ∀ (m : Master) (s : State),
    let period := s.rf pTch 0x044 31 16
    (admitted m pTch 0x040 1 s → tchCheck 0x040 1 s = .ok → s.rb pTch 0x040 0 = false →
      completes (.touchScanEnable m) s fun t =>
        t.reg pTch 0x04C = 0 ∧ t.tch.us = 0 ∧ t.tch.due = s.clk ∧ t.tch.on = s.clk
          ∧ t.tch.running = false ∧ t.tch.contacts = [] ∧ t.rb pTch 0x040 0 = true
          ∧ t.tch.nodes = List.replicate (pinsOf mStx s).length (List.replicate (pinsOf mSrx s).length {})
          ∧ (∀ k, k < 64 → keyEn k s = true → keyFaulty k s = false → keyState k t = 0)
          ∧ t.resp = { ok := true, data := 0 } ∧ t.mem = s.mem)
    ∧ (admitted m pTch 0x040 0 s →
      completes (.touchScanDisable m) s fun t =>
        t.rb pTch 0x040 0 = false
          ∧ t.tch = { s.tch with
              running := false, diagAt := if s.rb pTch 0x040 2 && s.tch.running then s.clk else s.tch.diagAt }
          ∧ t.resp = { ok := true, data := 0 }
          ∧ t.mem = s.mem)
    ∧ (let v := (s.reg pTch 0x040 &&& 1) ||| 4;
      admitted m pTch 0x040 v s → tchCheck 0x040 v s = .ok →
      completes (.touchDiag m) s fun t =>
        t.rb pTch 0x040 2 = true ∧ t.rb pTch 0x040 0 = s.rb pTch 0x040 0 ∧ t.resp = { ok := true, data := 0 }
          ∧ t.mem = s.mem)
    ∧ (s.pwr.inReset = false → s.dev ≠ devTest →
      (s.rb pTch 0x040 0 = true → s.tch.due ≤ s.clk →
        (s.dev = devWatch → s.latchedFld pTch 0x0E0 1 0 = 0 → completes .touchScanStart s fun t => t = s)
        ∧ (s.dev ≠ devWatch ∨ s.latchedFld pTch 0x0E0 1 0 ≠ 0 →
          completes .touchScanStart s fun t =>
            t.tch.due = s.tch.due + scanPeriod s ∧ t.mem = s.mem
              ∧ scanPeriod s = 500 * (if s.dev = devWatch then s.latchedFld pTch 0x0E0 15 8 * 10000 else period)
              ∧ (s.tch.running = true → t.tch.running = true ∧ t.rb pTch 0x010 5 = true ∧ t.tch.us = s.tch.us)
              ∧ (s.tch.running = false → s.rb pTch 0x040 2 = false →
                  t.tch.running = true ∧ t.tch.began = s.clk ∧ t.tch.us = (s.tch.due - s.tch.on) / 500
                    ∧ t.tch.watch = decide (s.dev = devWatch))
              ∧ (s.tch.running = false → s.rb pTch 0x040 2 = true → t.tch.running = false)))
      ∧ (∀ r, s.tch.running = true → noneWaits s →
        completes (.touchScanEnd r) s fun t =>
          t.tch.running = false ∧ t.reg pTch 0x04C = s.reg pTch 0x04C + 1 ∧ t.tch.due = s.tch.due)
      ∧ (∀ r, s.rb pTch 0x040 2 = true → s.tch.running = false → noneWaits s →
        completes (.touchDiagDone r) s fun t =>
          t.rb pTch 0x040 2 = false ∧ t.rb pTch 0x010 3 = true
            ∧ ∀ p, p < 96 → pinMode p s ≠ 0 →
                ((p ∈ r.readLow ∨ p ∈ r.readHigh) → pinFault p t = true)
                ∧ (∀ c, r.open_.lookup p = some c → rawCount false c s < openMin s → pinFault p t = true)
                ∧ (p ∉ r.readLow → p ∉ r.readHigh →
                    (∀ c, r.open_.lookup p = some c → openMin s ≤ rawCount false c s) →
                    (∀ q, (p, q) ∉ r.pairs ∧ (q, p) ∉ r.pairs) → pinFault p t = false))
      ∧ (watchPending s = true → s.pwr.watchAck = false → s.tch.running = false → s.rb pTch 0x040 2 = false →
        noneWaits s → completes .touchWatchRequest s fun t =>
          t.pwr.watchAck = true ∧ t.tch.contacts = [] ∧ t.tch.wake = false ∧ t.rb pTch 0x0F0 31 = false))

/-- Where its write is issued and admitted: TEST_ENTRY, admitted by R417, enters TEST with every secret store cleared when
the clearing reads back zero (as found, the model's choice), and withdraws the device when it does not. BST_RUN, taken with
a quiet supply, begins a run on the selected partition, on partition 0 only after a clearing that reads back zero, and that
of partition 2 leaves the system SRAM reading 0. BST_ABORT in TEST ends every run ABORTED. Outside a device reset and WATCH:
BST_RUN_END in RUN within its time: the expected count and signature are a PASS, any other a FAIL that withdraws the device.
BST_RUN_TIMEOUT of an overlong run ends that run, PLL_LOCK_LOSS the runs with a clock of the domain. BST_RERUN with a quiet
supply starts the runs that waited, where one of partition 0 is not among them or the key store is not stuck.
SEQ_FIRMWARE_CHECK of an engine that is due takes it off the list; the SHA-384 of the bytes read decides: in BOOT the right
one ends the hold of the engine, CDC0 apart, and a wrong one in RUN withdraws the device. Where a clause follows a choice of
the model, the choice is that of log entries 58, 74, 75 and 109. -/
def Obligations.SelfTestRuns : Prop :=
  ∀ (m : Master) (s : State),
    (∀ e : BitVec 8, admitted m pBst 0x050 (e.setWidth 32) s → testAdmitted m (e.setWidth 32) s = true → ∀ zero,
      completes (.testEntry m e zero) s fun t =>
        t.vbt.secret = none ∧ t.key.slots = [] ∧ t.key.sess = [] ∧ t.resp = { ok := true, data := 0 } ∧ t.mem = s.mem
          ∧ t.dev = (if zero = true then devTest else devWithdrawn))
    ∧ (let v := (s.reg pBst 0x040 &&& 1) ||| 4;
      let p := s.rfAt pBst 0x04C (masterId m) 4 0;
      admitted m pBst 0x040 v s → bstCheck m 0x040 v s = .ok → supplyQuiet s = true → ∀ zero,
      completes (.bstRun m zero) s fun t =>
        t.resp = { ok := true, data := 0 }
          ∧ (∀ a, t.rdByte a = if p = 2 ∧ region a = .sram then 0 else s.rdByte a)
          ∧ (p ≠ 0 ∨ zero = true → t.bst.runs = [(p, s.clk)] ∧ t.regAt pBst 0x060 p = 1)
          ∧ (p = 0 → zero = false → t.bst.runs = []))
    ∧ (let v := (s.reg pBst 0x040 &&& 1) ||| 2;
      admitted m pBst 0x040 v s → s.dev = devTest →
      completes (.bstAbort m) s fun t =>
        t.bst.runs = [] ∧ t.resp = { ok := true, data := 0 } ∧ t.mem = s.mem
          ∧ ∀ r ∈ s.bst.runs, verdictOf r.1 t = 4 ∧ t.rb pBst 0x010 2 = true)
    ∧ (served s = true →
      (∀ (p : Fin 25) (count : Nat) (sig : Word) start, runStart p.val s = some start →
        overlong p.val start s = false → s.dev = devRun →
        completes (.bstRunEnd p count sig) s fun t =>
          runStart p.val t = none ∧ t.regAt pBst 0x06C p.val = sig
            ∧ (BitVec.ofNat 32 count = s.regAt pBst 0x064 p.val → sig = s.regAt pBst 0x070 p.val →
                verdictOf p.val t = 2 ∧ t.rb pBst 0x010 0 = true ∧ t.dev = devRun)
            ∧ ((BitVec.ofNat 32 count ≠ s.regAt pBst 0x064 p.val ∨ sig ≠ s.regAt pBst 0x070 p.val) →
                verdictOf p.val t = 3 ∧ t.dev = devWithdrawn))
      ∧ (∀ (p : Fin 25) start, runStart p.val s = some start → overlong p.val start s = true →
        completes (.bstRunTimeout p) s fun t =>
          t = interruptRuns 4 (fun q => q = p.val) s ∧ t.rb pBst 0x010 2 = true)
      ∧ (∀ d, completes (.pllLockLoss d) s fun t =>
          t = interruptRuns 5 (fun q => (runDomains q s).contains d) s
            ∧ (s.dev = devTest → t.bst.runs = s.bst.runs.filter fun r => !(partDomains r.1).contains d))
      ∧ (supplyQuiet s = true → (0 ∈ s.bst.waiting → s.keyStuck = false) →
        completes .bstRerun s fun t =>
          t.bst.waiting = [] ∧ t.bst.runs = s.bst.runs ++ s.bst.waiting.map (fun p => (p, s.clk)) ∧ t.dev = s.dev)
      ∧ ∀ (n : Fin 16) hash, s.key.seqHash = some hash → n.val ∈ s.bst.fwDue →
        let x := busRead .bst s.key.seqAt s.key.seqLen s
        completes (.seqFirmwareCheck n) s fun t =>
          t.bst.fwDue = x.2.2.bst.fwDue.erase n.val
            ∧ (sha384 x.2.1 = hash → x.2.2.dev = devRun → t.regs = x.2.2.regs ∧ t.dev = x.2.2.dev)
            ∧ (sha384 x.2.1 = hash → n.val ≠ 0 → x.2.2.dev = devBoot →
                t.testHold (pCdc n.val) = false)
            ∧ (sha384 x.2.1 ≠ hash → x.2.2.dev = devRun → t.dev = devWithdrawn))

/-- Where the access to the KEY page is issued and admitted. While a command is in progress, a further one is refused with
0x44. While none is, for a slot that is not in use: LOAD_PLAIN fills the slot from DATA, LOAD_WRAPPED from the unwrapped
DATA (with code 0x41 and no change of a slot when it does not unwrap), SLOT_CLEAR empties it; each zeroes DATA, and raises
DONE unless it is refused. VSTORE_LOAD and VSTORE_CLEAR start within 3 VBT clocks what the clock then completes: the VBAT
secret, DATA zeroed, DONE. KEY_ZEROISE clears every slot and session key; a read-back that is not zero withdraws the device.
FUSE_SV_WRITE, taken, starts 10 ms of programming, at whose end the clock raises the security version. RNG_READ answers,
with 0 after a failed health test. Outside a device reset and WATCH RNG_HEALTH_FAIL records a failed test, and in a clocked
device SESSION_KEY_DERIVED of a user with a filled slot gives it its session keys. Where a clause follows a choice of the
model, the choice is that of log entry 58. -/
def Obligations.KeyStore : Prop :=
  ∀ (m : Master) (long wrap : Bool) (s : State),
    let slot := s.rfAt pKey 0x044 (masterId m) 7 0
    let n := if long then 32 else 16
    let zeroed : State → Prop := fun t => t.resp = { ok := true, data := 0 } ∧ t.mem = s.mem
      ∧ t.rb pKey 0x010 0 = true ∧ ∀ i, i < 14 → t.reg pKey (0x080 + 4 * i) = 0
    let started := fun (secret : Option (List Byte)) (t : State) =>
      (∃ c, s.clk ≤ c ∧ c < s.clk + 45777 ∧ t.key.vstore = some (c, secret)) ∧ t.vbt = s.vbt ∧ t.key.slots = s.key.slots
        ∧ t.resp = { ok := true, data := 0 } ∧ t.mem = s.mem
    let v := BitVec.ofNat 32 (b2n long * 256 + 1)
    let w := BitVec.ofNat 32 (b2n wrap * 512 + b2n long * 256 + 2)
    (slotInUse slot s = false → keyBusy s = false →
      (admitted m pKey 0x048 v s → completes (.loadPlain m long) s fun t =>
        zeroed t ∧ smGet slot t.key.slots = some { len256 := long, key := keyData 0 n s, salt := keyData 8 12 s })
      ∧ (admitted m pKey 0x048 w s → (wrap = true → s.vbt.secret.isSome = true) →
        completes (.loadWrapped m wrap long) s fun t =>
          t.mem = s.mem ∧ (∀ i, i < 14 → t.reg pKey (0x080 + 4 * i) = 0)
            ∧ (∀ d, unwrapped wrap s = some d → zeroed t ∧ smGet slot t.key.slots
                = some { len256 := long, key := d.take n, salt := (d.drop 32).take 12 })
            ∧ (unwrapped wrap s = none → t.key = s.key ∧ (s.rf pKey 0x01C 31 24 = 0 → t.rf pKey 0x01C 15 0 = 0x41)))
      ∧ (admitted m pKey 0x048 3 s → completes (.slotClear m) s fun t => zeroed t ∧ smGet slot t.key.slots = none))
    ∧ (∀ secret, s.key.vstore = some secret →
      (admitted m pKey 0x048 v s → completes (.loadPlain m long) s (refusedWith m pKey 0x44 s))
      ∧ (admitted m pKey 0x048 w s → completes (.loadWrapped m wrap long) s (refusedWith m pKey 0x44 s))
      ∧ (admitted m pKey 0x048 3 s → completes (.slotClear m) s (refusedWith m pKey 0x44 s))
      ∧ (admitted m pKey 0x050 1 s → completes (.vstoreLoad m) s (refusedWith m pKey 0x44 s))
      ∧ (admitted m pKey 0x050 2 s → completes (.vstoreClear m) s (refusedWith m pKey 0x44 s)))
    ∧ (keyBusy s = false →
      (admitted m pKey 0x050 1 s → completes (.vstoreLoad m) s (started (some (keyData 0 32 s))))
      ∧ (admitted m pKey 0x050 2 s → completes (.vstoreClear m) s (started none)))
    ∧ (∀ c secret, s.key.vstore = some (c, secret) →
      let t := keyTick s
      (c ≤ s.clk → t.vbt.secret = secret ∧ t.key.vstore = none ∧ t.rb pKey 0x010 0 = true
          ∧ ∀ i, i < 14 → t.reg pKey (0x080 + 4 * i) = 0)
        ∧ (s.clk < c → t.vbt = s.vbt ∧ t.key.vstore = s.key.vstore ∧ t.regs = s.regs))
    ∧ (admitted m pKey 0x054 1 s → ∀ ok, completes (.keyZeroise m ok) s fun t =>
        t.key.slots = [] ∧ t.key.sess = [] ∧ t.vbt.secret = s.vbt.secret ∧ t.rb pKey 0x040 0 = ok
          ∧ (ok = true → t.rb pKey 0x040 1 = false ∧ t.dev = s.dev)
          ∧ (ok = false → t.rb pKey 0x040 1 = true ∧ (s.dev = devBoot ∨ s.dev = devRun → t.dev = devWithdrawn)))
    ∧ (∀ sv : BitVec 8, admitted m pKey 0x060 (sv.setWidth 32) s → keyCheck m 0x060 (sv.setWidth 32) s = .ok →
      completes (.fuseSvWrite m sv) s fun t =>
        t.key.fusing = s.key.fusing ++ [(s.clk + 5000000, sv.toNat)] ∧ t.fuseSv = s.fuseSv
          ∧ t.resp = { ok := true, data := 0 } ∧ t.mem = s.mem)
    ∧ (∀ c sv rest, s.key.fusing = (c, sv) :: rest → c ≤ s.clk →
      (keyTick s).fuseSv = max s.fuseSv sv ∧ (keyTick s).key.fusing = rest)
    ∧ (admittedRead m pKey 0x058 s → completes (.rngRead m) s fun t =>
        t.resp.ok = true ∧ t.regs = s.regs ∧ t.mem = s.mem ∧ (s.rb pKey 0x040 2 = true → t.resp.data = 0))
    ∧ (served s = true → completes .rngHealthFail s fun t =>
        t.rb pKey 0x040 2 = true ∧ t.rb pKey 0x010 2 = true ∧ t.mem = s.mem)
    ∧ (clocked s = true → ∀ u k i, userSlot u s = some i → smGet i s.key.slots = some k →
        completes (.sessionKeyDerived u) s fun t =>
          sessionKeys (keyUser u) t = some ((List.range 6).map fun l => srtpKdf k.key k.salt l)
            ∧ t.regs = s.regs ∧ t.mem = s.mem)

/-- Outside a device reset and WATCH: MRAM_STORE of a waiting 8-byte store with a quiet supply begins it, and the room it
leaves among the eight that wait is taken by stores withheld until then. MRAM_STORE_COMPLETE after 400 ns puts its bytes
into the array and no others, counts the store and drops it from the queue, and the access whose last part it was is in
flight no more, and answered where no other access or response of its master stands in its way. MRAM_READ of a word that the
gate admits: a sound word that no earlier store of the master waits for answers its bytes, with one bit in error the same,
counted and raised as corrected, and with two bits in error it is an error; behind the master's own whole store of the word
it answers that store's bytes. Where a clause follows a choice of the model, the choice is that of log entries 14 and 83. -/
def Obligations.MramStoresAndReads : Prop :=
  ∀ (m : Master) (priv : Bool) (w : Fin 524288) (s : State),
    let a := mramBase + 8 * w.val
    (served s = true →
      (∀ st rest, s.mrm.queue = st :: rest → st.begun = none → supplyQuiet s = true → st.data.length = 8 →
        completes .mramStore s fun t =>
          (∃ more, t.mrm.queue = { st with begun := some s.clk } :: rest ++ more ∧ s.mrm.withheld = more ++ t.mrm.withheld
              ∧ more.length = min s.mrm.withheld.length (8 - (rest.filter fun x => x.begun.isNone).length))
            ∧ t.regs = s.regs ∧ t.mem = s.mem)
      ∧ ∀ st rest c, s.mrm.queue = st :: rest → st.begun = some c → c + 200 ≤ s.clk → st.data.length = 8 →
        st.ofs + 8 ≤ 0x400000 →
        completes .mramStoreComplete s fun t =>
          t.mrm.queue = rest ∧ t.rdBytes (mramBase + st.ofs) 8 = st.data
            ∧ t.reg pMrm 0x050 = satW ((s.reg pMrm 0x050).toNat + 1)
            ∧ (∀ x, x < mramBase + st.ofs ∨ mramBase + st.ofs + 8 ≤ x → t.rdByte x = s.rdByte x)
            ∧ ∀ x, (s.inflight.find? fun y => y.id = st.acc) = some x → x.left = 1 →
                (∀ y ∈ t.inflight, y.id ≠ st.acc)
                  ∧ ((keepsOrder x.m = true → outstanding x.m x.id s = false) → (∀ l ∈ s.late, l.m ≠ x.m) →
                    t.resp = { ok := x.ok, data := 0 }))
    ∧ (admits m priv .read a 8 s → s.testHold pMrm = false →
      (storesBefore m w.val s = [] → w.val ∉ s.mrm.cut →
        (w.val ∉ s.mrm.bad →
          (completes (.mramRead m priv w []) s fun t => t = s.respond true (leNat (s.rdBytes a 8)))
          ∧ ∀ b, completes (.mramRead m priv w [b]) s fun t =>
            t.resp = { ok := true, data := leNat (s.rdBytes a 8) } ∧ t.mem = s.mem ∧ t.rb pMrm 0x010 0 = true
              ∧ t.reg pMrm 0x044 = satW ((s.reg pMrm 0x044).toNat + 1))
        ∧ ∀ b c, b ≠ c → completes (.mramRead m priv w [b, c]) s fun t =>
          t.resp = { ok := false, data := 0 } ∧ t.mem = s.mem ∧ t.rb pMrm 0x010 1 = true ∧ w.val ∈ t.mrm.bad)
      ∧ ∀ st, s.mrm.queue = [st] → s.mrm.withheld = [] → st.m = m → st.ofs = 8 * w.val → st.data.length = 8 →
        st.spoilt = false → completes (.mramRead m priv w []) s fun t => t = s.respond true (leNat st.data))

/-- POWER_ON, SUPPLY_RESET of a rail that has been below its reset level for 500 ns, DEBUG_RESET of an unlocked debug access
in a served device, RESET_PIN when RESET_N has been low for 1 µs, and SOFTWARE_RESET by GP0 or GP1 with the key 0xA5C3,
where its write is issued and admitted, each assert a device reset with the cause of R435: registers at reset values, memory
other than MRAM reading 0 (the model's choice), the queue and the fuses kept. A RESET_N pulse below 100 ns, a shorter or
shallower dip of a rail and a debug reset while locked change nothing. Where a clause follows a choice of the model, the
choice is that of log entries 5, 77, 78 and 79. -/
def Obligations.DeviceResets : Prop :=
  ∀ s : State,
    (completes .powerOn s fun t => inDeviceReset 1 s t ∧ t.pwr.prevDev = 0)
    ∧ (∀ (rail : Rail) (mv ns : Nat),
        (mv < resetLevel rail → 500 ≤ ns → completes (.supplyReset rail mv ns) s fun t =>
          inDeviceReset (if rail = .core ∨ rail = .aon then 2 else 3) s t)
        ∧ (resetLevel rail ≤ mv ∨ ns < 500 → completes (.supplyReset rail mv ns) s fun t => t = s))
    ∧ (∀ ns, 1000 ≤ ns → completes (.resetPin ns) s fun t => inDeviceReset 4 s t)
    ∧ (∀ ns, ns < 100 → completes (.resetPin ns) s fun t => t = s)
    ∧ (served s = true → debugUnlocked s = true → completes .debugReset s fun t => inDeviceReset 6 s t)
    ∧ (debugUnlocked s = false → completes .debugReset s fun t => t = s)
    ∧ (∀ (m : Master) (key : Word), isGuard m = true → key.toNat % 2 ^ 16 = 0xA5C3 → admitted m pSys 0x054 key s →
        completes (.softwareReset m key) s fun t => inDeviceReset 5 s t ∧ t.resp.ok = true)

/-- DEVICE_RESET_RELEASE while a reset is asserted: the device is in BOOT with PREV the state before the reset, STATE_CHANGE
is raised, and the network time is loaded from a valid VBAT domain with a new epoch, or stands at its reset value with epoch
1 kept. WATCH_WAKE by an enabled source in WATCH: BOOT with PREV WATCH, the source in PMU_WAKE_STAT, a pulse on WAKE, and
DRAM with its channels as it was.
Where a clause follows a choice of the model, the choice is that of log entries 77 and 80. -/
def Obligations.ReleaseAndWake : Prop :=
  ∀ s : State,
    (∀ x : Bool, s.pwr.inReset = true → s.pwr.prevDev < 8 →
      completes (.deviceResetRelease x) s fun t =>
        t.pwr.inReset = false ∧ t.dev = devBoot ∧ t.rf pSys 0x040 10 8 = s.pwr.prevDev ∧ t.pwr.bootXspi = x
          ∧ t.rb pSys 0x010 0 = true ∧ t.pending = s.pending
          ∧ (s.vbt.valid = true → t.tm.vbtLoaded = true ∧ t.tm.epoch = (s.vbt.epoch + 1) % 256
              ∧ t.vbt.epoch = (s.vbt.epoch + 1) % 256 ∧ t.rb pPtp 0x010 2 = true)
          ∧ (s.vbt.valid = false → t.tm = {} ∧ t.vbt.epoch = 1))
    ∧ ∀ src : WakeSource, wakes src s = true →
      completes (.watchWake src) s fun t =>
        t.dev = devBoot ∧ t.rf pSys 0x040 10 8 = devWatch ∧ t.rf pPmu 0x05C 1 0 = wakeBit src + 1
          ∧ t.rb pSys 0x010 0 = true ∧ t.outbox = s.outbox ++ [.wakePulse] ∧ t.pending = s.pending
          ∧ t.tch.resync = true ∧ t.dmc = s.dmc ∧ ∀ a, region a = .dram → t.rdByte a = s.rdByte a

/-- BROWNOUT_WARNING of a monitored rail that is below its warning level, for 200 ns or within its warning: outside a
warning it counts, starts the warning with event 0 of the PMU and keeps the lower of the levels; during one it only marks
the rail and keeps the level. BROWNOUT_END once every warned rail has recovered for 10 µs ends the warning, keeps the longer
duration and raises event 1. VBAT_MEASURE sets LOW from the level, with event 2 where LOW rises. VBAT_SUPPLY_LOSS while
VDD_AON is not above its reset level loses the time, the records and the secret of the VBAT domain, and nothing else; while
VDD_AON is above it and feeds the domain it changes nothing. Where a clause follows a choice of the model, the choice is
that of log entry 10. -/
def Obligations.SupplyEvents : Prop :=
  ∀ s : State,
    (∀ (rail : Rail) (mv ns : Nat), belowWarning rail mv = true → (200 ≤ ns ∨ railWarned rail s = true) →
      completes (.brownoutWarning rail mv ns) s fun t =>
        t.vbt.boCount = (if warned s then s.vbt.boCount else min (s.vbt.boCount + 1) 0xFFFFFFFF)
          ∧ t.pwr.warnCore = (s.pwr.warnCore || rail = .core) ∧ t.pwr.warnIo = (s.pwr.warnIo || rail = .io33)
          ∧ t.vbt.boMinCore = (if rail = .core then min s.vbt.boMinCore mv else s.vbt.boMinCore)
          ∧ t.vbt.boMinIo = (if rail = .io33 then min s.vbt.boMinIo mv else s.vbt.boMinIo)
          ∧ (warned s = false → t.pwr.warnStart = s.clk ∧ t.pwr.warnBefore = 0 ∧ t.rb pPmu 0x010 0 = true)
          ∧ t.mem = s.mem ∧ t.pending = s.pending)
    ∧ (∀ core io ns, recovered core io ns s = true → completes (.brownoutEnd core io ns) s fun t =>
        warned t = false ∧ t.pwr.recovery = some s.clk
          ∧ t.vbt.boDur = max s.vbt.boDur (min (warningUs s) 0xFFFFFFFF) ∧ t.rb pPmu 0x010 1 = true ∧ t.mem = s.mem)
    ∧ (∀ mv : Nat, completes (.vbatMeasure mv) s fun t =>
        t.vbt = { s.vbt with low := mv < 2400 } ∧ t.mem = s.mem
          ∧ (mv < 2400 → s.vbt.low = false → t.rb pPmu 0x010 2 = true)
          ∧ (2400 ≤ mv ∨ s.vbt.low = true → t.regs = s.regs))
    ∧ ∀ aonMv : Nat, completes (.vbatSupplyLoss aonMv) s fun t =>
        t = if resetLevel .aon < aonMv then s else { s with vbt := { low := s.vbt.low } }

/-- BOOT_IMAGE_VERIFY of the copy that is due, in a clocked device: the checks go in their order (a header that cannot be
read, its magic and version, the key's hash and revocation, the security version, the signature, then the image's read and
its hash), and the first that fails is the verdict. A copy that passes records PASS in KEY_BOOT_STAT, its entry addresses
are kept, and GP0 and GP1 start at its entry (its image going to memory, where no access waits or is made again). When copy
0 fails nothing but the verdict changes; when copy 1 fails the device is WITHDRAWN. The copy's header is read from the flash
at 0 or 0x1000000, as BOOT_XSPI selects, and behind an accepted header the image. APC_RUN by GP0 or GP1 in BOOT or RUN,
where its write is issued and admitted, sets the bits and starts each APC newly selected at ENTRY_APC. BOOT_DONE by GP0 or
GP1 in BOOT, likewise: when the conditions of R446 hold (bootReady), it puts the device in RUN with PREV BOOT; when one
fails the write is refused and BOOT_REFUSED is raised. Where a clause follows a choice of the model, the choice is that of
log entries 81 and 82. -/
def Obligations.BootCommands : Prop :=
  ∀ s : State,
    (∀ (copy : Fin 2) (h image : List Byte) (ok : Bool), clocked s = true → copyDue s = some copy.val →
      completes (.bootImageVerify copy h image ok) s fun t =>
        let v := bootVerdict h image ok s
        let pub := hdrBytes h 0x90 97
        let at_ := 0x1000000 * copy.val
        let read := fun (a n : Nat) => Emit.flashRead s.pwr.bootXspi (if s.pwr.bootXspi = true then 0xEE11 else 0x0C)
          (if s.pwr.bootXspi = true then 20 else 8) a n
        (v = if h.length ≠ 512 then 8
          else if hdrNat h 0 4 ≠ 0x4D49575A ∨ hdrNat h 4 2 ≠ 1 then 2
          else if 3 < hdrNat h 6 1 ∨ sha384 pub ≠ Config.fusedHash (hdrNat h 6 1)
              ∨ Config.fusedRevoked (hdrNat h 6 1) = true then 3
          else if hdrNat h 8 4 < fusedSv s then 4
          else if ecdsaP384 pub (sha384 (h.take 0x100)) (hdrBytes h 0x100 96) = false then 5
          else if ok = false ∨ image.length ≠ hdrNat h 0xC 4 then 8
          else if sha384 image ≠ hdrBytes h 0x30 48 then 6 else 1)
          ∧ (v = 1 → noneWaits s → inMemory (hdrNat h 0x10 8) image.length →
            t.rf pKey 0x05C 3 0 = 1 ∧ t.key.entryGp = hdrNat h 0x18 8 ∧ t.key.entryApc = hdrNat h 0x20 8
            ∧ t.outbox.getLast? = some (.run (.gp 1) (hdrNat h 0x18 8))
            ∧ .run (.gp 0) (hdrNat h 0x18 8) ∈ t.outbox)
          ∧ (v ≠ 1 → copy.val = 0 →
              t = { s.setFld pKey 0x05C 3 0 v with outbox := s.outbox
                ++ (read at_ 0x200 :: (if headerVerdict h s = 1 then [read (at_ + 0x200) (imageLen h)] else [])) })
          ∧ (v ≠ 1 → copy.val = 1 → t.dev = devWithdrawn ∧ t.rf pSys 0x050 15 12 = 9
              ∧ read at_ 0x200 ∈ t.outbox))
    ∧ (∀ (m : Master) (mask : BitVec 8), isGuard m = true → bootOrRun s = true →
        admitted m pSys 0x044 (mask.setWidth 32 <<< 8) s →
        completes (.apcRun m mask) s fun t =>
          t.resp.ok = true ∧ t.reg pSys 0x044 = s.reg pSys 0x044 ||| (mask.setWidth 32 <<< 8)
            ∧ (∀ k : Fin 8, mask.getLsbD k.val = true → s.rb pSys 0x044 (8 + k.val) = false →
                Emit.run (.apc k) s.key.entryApc ∈ t.outbox)
            ∧ t.mem = s.mem)
    ∧ (∀ m : Master, isGuard m = true → s.dev = devBoot → admitted m pSys 0x044 1 s →
        (bootReady s = true → completes (.bootDone m) s fun t =>
          t.resp.ok = true ∧ t.dev = devRun ∧ t.rf pSys 0x040 10 8 = devBoot ∧ t.mem = s.mem)
        ∧ (bootReady s = false → completes (.bootDone m) s fun t =>
          t.dev = devBoot ∧ t.rb pSys 0x010 1 = true ∧ t.mem = s.mem))

/-- SYS_WITHDRAW with the key 0x5A96 by GP0, GP1 or a privileged APC in BOOT or RUN, where its write is issued and admitted:
the device is WITHDRAWN, SYS_WD_CAUSE holds class 1 and the master, no engine and no output runs, and WITHDRAWN_N is low. A
withdrawal cause that comes later changes nothing (R439). WATCH_ENTRY by GP0 or GP1 in RUN with no channel migrating, where
its write is issued and admitted: the request is accepted, the DDR5 channels and TCH are asked, and outputs, engines and
mirror channels stop.
Where a clause follows a choice of the model, the choice is that of log entries 76 and 88. -/
def Obligations.WithdrawAndWatch : Prop :=
  ∀ (m : Master) (s : State),
    (∀ (priv : Bool) (key : Word), (isGuard m = true ∨ (isApc m = true ∧ priv = true)) →
      key.toNat % 2 ^ 16 = 0x5A96 → bootOrRun s = true →
      admits m priv .write (pageAddr pSys 0x04C) 4 s → admitWrite m pSys 0x04C key s = none →
      completes (.sysWithdraw m priv key) s fun t =>
        t.dev = devWithdrawn ∧ t.reg pSys 0x050 = BitVec.ofNat 32 (0x1000 + masterId m) ∧ t.eng = [] ∧ t.out = []
          ∧ withdrawnN t = false ∧ t.resp.ok = true ∧ t.mem = s.mem ∧ t.pending = s.pending)
    ∧ (∀ cls inst, bootOrRun s = false → withdraw cls inst s = s)
    ∧ (watchAdmitted m s = true → watchPending s = false → admitted m pPmu 0x054 1 s →
      completes (.watchEntry m) s fun t =>
        t = (watchStart (setPwr (fun p => { p with watchAck := false }) (storeReg m pPmu 0x054 1 s))).respond true 0
          ∧ watchPending t = true ∧ t.pwr.watchAck = false)

/-- PCI_LINK_ENABLE, issued, admitted and taken with an identifier, sets LINK_EN. In a clocked device: PCIE_LINK_UP of an
enabled endpoint at a defined width and speed brings the link to L0 with its event; PCIE_LINK_DOWN takes a live link down
with its event. PERST_ASSERT does so with the configuration and the MSI-X table, while queues and held posts stay;
PERST_RELEASE lets PERST_N rise and ends a drive of WAKE. HOST_D3HOT and ASPM_L1_ENTRY bring the link to L1, HOST_D0 the
function to D0 and, with bus mastering, empties the hold; the first and the last write PME_En and clear PME_Status where the
host says so. FUNCTION_LEVEL_RESET disables every queue pair and drops and counts the held posts. HOST_BAR_ACCESS through
BAR0 or BAR2 is an unprivileged access of the PCI master, behind its earlier ones to the same memory; in BAR4 it reads and
writes the entries of the MSI-X table; it is an error where the function does not serve it. Where a clause follows a choice
of the model, the choice is that of log entry 84. -/
def Obligations.PcieLinkAndPower : Prop :=
  ∀ (m : Master) (s : State),
    (admitted m pPci 0x054 1 s → pciCheck m 0x054 1 s = .ok →
      completes (.pciLinkEnable m) s fun t =>
        t.rb pPci 0x054 0 = true ∧ t.pci = s.pci ∧ t.resp = { ok := true, data := 0 } ∧ t.mem = s.mem)
    ∧ (clocked s = true →
      (∀ width speed, s.enabled pPci = true → s.rb pPci 0x054 0 = true → s.pins.perstLow = false → s.pci.link = 0 →
        width ∈ [1, 2, 4, 8] → 1 ≤ speed → speed ≤ 5 →
        completes (.pcieLinkUp width speed) s fun t =>
          t.pci = { s.pci with link := 1, width, speed } ∧ t.rb pPci 0x010 19 = true ∧ t.mem = s.mem)
      ∧ (s.pci.link ≠ 0 → completes .pcieLinkDown s fun t =>
          t.pci = { s.pci with link := 0, width := 0, speed := 0 } ∧ t.rb pPci 0x010 20 = true ∧ t.mem = s.mem)
      ∧ (s.pci.link = 1 → s.pins.perstLow = false → completes .aspmL1Entry s fun t =>
          t.pci.link = 2 ∧ t.regs = s.regs ∧ t.mem = s.mem)
      ∧ (linkLive s = true →
        (s.pci.d3 = false → ∀ en clear, completes (.hostD3hot en clear) s fun t =>
          t.pci.pmeEn = en ∧ t.pci.pme = (s.pci.pme && !clear)
            ∧ t.pci.d3 = true ∧ t.pci.link = 2 ∧ t.rb pPci 0x010 21 = true ∧ t.mem = s.mem)
        ∧ (∀ b en clear, completes (.hostD0 b en clear) s fun t =>
          t.pci.pmeEn = en ∧ t.pci.pme = (s.pci.pme && !clear)
            ∧ t.pci.d3 = false ∧ t.mem = s.mem ∧ (s.pci.d3 = true → t.rb pPci 0x010 21 = true) ∧ (b = true → t.pci.hold = []))
        ∧ completes .functionLevelReset s fun t =>
          (∀ q, q < 16 → qpEn q t = false) ∧ t.pci.hold = [] ∧ t.pci.pba = [] ∧ t.mem = s.mem
            ∧ t.reg pPci 0x0D4 = satW ((s.reg pPci 0x0D4).toNat + s.pci.hold.length)))
    ∧ (s.pins.perstLow = false → completes .perstAssert s fun t =>
        t.pins.perstLow = true ∧ t.pci.d3 = false ∧ t.pci.pme = false ∧ t.pci.pmeEn = false ∧ t.pci.unmasked = []
          ∧ t.pci.vecs = [] ∧ t.pci.pba = [] ∧ t.pci.aer = none ∧ t.pci.armed = s.pci.unmasked
          ∧ t.pci.qps = s.pci.qps ∧ t.pci.hold = s.pci.hold ∧ t.mem = s.mem
          ∧ (clocked s = true → t.pci.link = 0 ∧ (s.pci.link ≠ 0 → t.rb pPci 0x010 20 = true)))
    ∧ (completes .perstRelease s fun t =>
        t.pins.perstLow = false ∧ t.pwr.wakeLow = false ∧ t.pci = s.pci ∧ t.regs = s.regs ∧ t.mem = s.mem
          ∧ t.outbox = s.outbox ++ if s.pwr.wakeLow = true then [.wake false] else [])
    ∧ let served := clocked s = true ∧ s.enabled pPci = true ∧ linkLive s = true ∧ s.pci.d3 = false
      (∀ b o a, (∃ n, 0 < n ∧ a = .read n) ∨ (∃ bs, bs ≠ [] ∧ a = .write bs) →
        (∀ x, served → barAddr b o s = some x →
          completes (.hostBarAccess b o a) s fun t =>
            t = accessAt ownBus .pci false x a (linkWake s))
        ∧ (¬served ∨ (b ≠ .bar4 ∧ barAddr b o s = none) →
          completes (.hostBarAccess b o a) s fun t => t = s.respond false 0))
      ∧ (served → ∀ v : Fin 32,
        (completes (.hostBarAccess .bar4 (16 * v.val) (.read 16)) s fun t =>
          t = (linkWake s).respond true (leNat (msixEntry v.val s)))
        ∧ ∀ e : List Byte, e.length = 16 → completes (.hostBarAccess .bar4 (16 * v.val) (.write e)) s fun t =>
          let masked := leNat ((e.drop 12).take 1) % 2 = 1
          t.resp = { ok := true, data := 0 } ∧ t.mem = s.mem ∧ t.regs = s.regs
            ∧ smAt v.val t.pci.vecs = { addr := leNat (e.take 8), data := leNat ((e.drop 8).take 4) }
            ∧ (masked → t.pci.unmasked = s.pci.unmasked.erase v.val ∧ t.outbox = s.outbox)
            ∧ (¬masked → v.val ∈ t.pci.unmasked))

/-- In a clocked device: PCI_CMD_FETCH that is due: the command is read from the host at QP_HSQ; the positions advance with
the event of the pair, and the command is stored at the local tail where that lies in SRAM and GTE24 admits the write; an
error disables the pair, counted and raised. HOST_DOORBELL that the function serves is kept for an enabled pair within its
ring, and nothing else changes; otherwise it only raises its event. MSIX_MESSAGE_DUE of a due pair sends its vector, and
sets its PBA bit while it is masked. MSIX_VECTOR_UNMASK unmasks the vector and sends what its PBA bit owes. PCI_CPL_POST,
issued, admitted and refused by no code, is held while posts are held, and is otherwise written at the completion tail,
which advances. Where a clause follows a choice of the model, the choice is that of log entry 85. -/
def Obligations.PcieQueues : Prop :=
  ∀ (m : Master) (q : Fin 16) (v : Word) (s : State),
    let k := fld v 3 0
    (clocked s = true →
      (fetchDue q.val s = true →
        (∀ d, d.length = 64 → noneWaits s → completes (.pciCmdFetch q (.data d)) s fun t =>
          (qp q.val t).fetch = ((qp q.val s).fetch + 1) % sqEntries q.val s ∧ t.rb pPci 0x010 q.val = true
            ∧ lsqTail q.val t = (lsqTail q.val s + 1) % sqEntries q.val s
            ∧ ∀ a, a = s.pairAt pPci 0x090 q.val + 64 * (lsqTail q.val s % sqEntries q.val s) → region a = .sram →
                a % 64 = 0 → admits .pci false .write a 64 s →
                t.rdBytes a 64 = d ∧ (∀ b, b < a ∨ a + 64 ≤ b → t.rdByte b = s.rdByte b)
                  ∧ t.outbox = s.outbox ++ [.hostRead (s.pairAt pPci 0x080 q.val
                      + 64 * ((qp q.val s).fetch % sqEntries q.val s)) 64])
        ∧ completes (.pciCmdFetch q .error) s fun t =>
          qpEn q.val t = false ∧ t.rb pPci 0x010 17 = true ∧ t.mem = s.mem
            ∧ t.reg pPci 0x0D0 = satW ((s.reg pPci 0x0D0).toNat + 1)
            ∧ t.outbox = s.outbox ++ [.hostRead (s.pairAt pPci 0x080 q.val
                + 64 * ((qp q.val s).fetch % sqEntries q.val s)) 64])
      ∧ (s.enabled pPci = true → linkLive s = true → s.pci.d3 = false → ∀ c,
        completes (.hostDoorbell q c v) s fun t =>
          let size := if c = true then cqEntries q.val s else sqEntries q.val s
          t.mem = s.mem
            ∧ (qpEn q.val s = true → v.toNat < size →
                (if c = true then cqDoorbell q.val t else sqDoorbell q.val t) = v.toNat
                  ∧ (if c = true then sqDoorbell q.val t = sqDoorbell q.val s else cqDoorbell q.val t = cqDoorbell q.val s)
                  ∧ t.pci = (linkWake s).pci
                  ∧ ∀ p o i, isReg p o i → (p ≠ pPci ∨ o ≠ 0x0A8 ∨ i ≠ q.val) → t.regAt p o i = s.regAt p o i)
            ∧ ((qpEn q.val s = false ∨ size ≤ v.toNat) → t = raiseBit pPci 18 (linkWake s) ∧ t.rb pPci 0x010 18 = true))
      ∧ (s.pci.d3 = false → s.pins.perstLow = false → msgDue q.val s = true →
        completes (.msixMessageDue q) s fun t =>
          t.regs = s.regs ∧ t.mem = s.mem
            ∧ (qpVector q.val s ∈ s.pci.unmasked →
                (qp q.val t).p = 0 ∧ t.outbox = s.outbox ++ [.msix (qpVector q.val s)
                  (smAt (qpVector q.val s) s.pci.vecs).addr (smAt (qpVector q.val s) s.pci.vecs).data])
            ∧ (qpVector q.val s ∉ s.pci.unmasked → qpVector q.val s ∈ t.pci.pba ∧ t.outbox = s.outbox))
      ∧ ∀ x : Fin 32, linkLive s = true → s.pci.d3 = false →
        completes (.msixVectorUnmask x) s fun t =>
          x.val ∈ t.pci.unmasked ∧ t.regs = s.regs ∧ t.mem = s.mem
            ∧ (x.val ∈ s.pci.pba → t.pci.pba = s.pci.pba.erase x.val ∧ t.outbox = s.outbox
                ++ [.msix x.val (smAt x.val s.pci.vecs).addr (smAt x.val s.pci.vecs).data])
            ∧ (x.val ∉ s.pci.pba → t.pci.pba = s.pci.pba ∧ t.outbox = s.outbox))
    ∧ (admitted m pPci 0x0CC v s → postCode k s = none →
      completes (.pciCplPost m v) s fun t =>
        t.resp = { ok := true, data := 0 } ∧ t.mem = s.mem
          ∧ (holding s = true → t.pci.hold = s.pci.hold ++ [postEntry m k s] ∧ t.outbox = s.outbox)
          ∧ (holding s = false → t.pci.hold = s.pci.hold ∧ (qp k t).cqTail = ((qp k s).cqTail + 1) % cqEntries k s
              ∧ .hostWrite (s.pairAt pPci 0x088 k + 16 * (qp k s).cqTail)
                  ((postEntry m k s).head
                    ++ leBytes 2 (b2n (qp k s).phase * 0x8000 + (postEntry m k s).status)) ∈ t.outbox))

/-- Where the access to the MGE page is issued and admitted and the page's check takes a write: MDIO_READ and MDIO_WRITE
start one transaction, I2C_GO one on an enabled controller, UART_TX queues its byte, UART_RX_POP answers the oldest byte and
removes it. In a clocked device: MDIO_DONE and I2C_DONE end a transaction under way with its event; UART_RX_BYTE of a
working UART queues the byte, or counts an overrun; UART_TX_EMPTY ends the last byte once its time has passed. GPIO_EDGE
sets the level, and in a clocked device a selected edge of an input sets its event bit. DBG_CHALLENGE_READ gives a nonce
that DBG_RESPONSE consumes: a response that verifies unlocks its level, any other counts as a failure; the third locks
debug. From level 2 on a debugger halts an application core, which then issues no access, and lets it go on; below it halts
none. Where a clause follows a choice of the model, the choice is that of log entries 86 and 87. -/
def Obligations.ManagementPage : Prop :=
  ∀ (m : Master) (s : State),
    let done := fun (t : State) => t.resp = { ok := true, data := 0 } ∧ t.mem = s.mem
    (∀ (phy reg : BitVec 5) (data : BitVec 16),
      let v := BitVec.ofNat 32 (0x80000000 + phy.toNat * 2 ^ 21 + reg.toNat * 2 ^ 16 + data.toNat)
      let w := BitVec.ofNat 32 (0xC0000000 + phy.toNat * 2 ^ 21 + reg.toNat * 2 ^ 16)
      (admitted m pMge 0x090 w s → mgeCheck m 0x090 w s = .ok →
        completes (.mdioRead m phy reg) s fun t =>
          mdioBusy t = true ∧ t.outbox = s.outbox ++ [.mdio true phy.toNat reg.toNat 0] ∧ done t)
      ∧ (admitted m pMge 0x090 v s → mgeCheck m 0x090 v s = .ok →
        completes (.mdioWrite m phy reg data) s fun t =>
          mdioBusy t = true ∧ t.outbox = s.outbox ++ [.mdio false phy.toNat reg.toNat data.toNat] ∧ done t))
    ∧ (∀ (i : Fin 4) cmd, let v := cmd ||| 0x80000000#32;
      admitted m pMge (i2cOff i.val 4) v s → mgeCheck m (i2cOff i.val 4) v s = .ok →
      completes (.i2cGo m i cmd) s fun t =>
        i2cBusy i.val t = s.rb pMge (i2cOff i.val 0) 0 ∧ done t
          ∧ t.outbox = s.outbox ++ (if s.rb pMge (i2cOff i.val 0) 0 = true then
              [.i2c i.val (fld cmd 6 0) (i2cTx i.val (fld cmd 12 8) s) (fld cmd 20 16)] else []))
    ∧ (∀ (u : Fin 2), let x := smAt u.val s.uart;
      (∀ v, admitted m pMge (uartOff u.val 4) v s → mgeCheck m (uartOff u.val 4) v s = .ok →
        completes (.uartTx m u v) s fun t =>
          (smAt u.val t.uart).tx = x.tx ++ [v.setWidth 8] ∧ (smAt u.val t.uart).rx = x.rx ∧ done t)
      ∧ (admittedRead m pMge (uartOff u.val 8) s → completes (.uartRxPop m u) s fun t =>
          t.resp = { ok := true, data := match x.rx with | [] => 0 | b :: _ => 2 ^ 31 + b.toNat }
            ∧ (smAt u.val t.uart).rx = x.rx.tail ∧ t.regs = s.regs)
      ∧ (∀ b, clocked s = true → uartOn u.val s = true → completes (.uartRxByte u b) s fun t =>
          t.rb pMge 0x010 (8 + u.val) = true ∧ (x.rx.length < 32 → (smAt u.val t.uart).rx = x.rx ++ [b])
            ∧ (32 ≤ x.rx.length → t.uart = s.uart
                ∧ t.reg pMge (uartOff u.val 0x10) = satW ((s.reg pMge (uartOff u.val 0x10)).toNat + 1)))
      ∧ (clocked s = true → uartSent u.val s = true → x.tx.length = 1 → completes (.uartTxEmpty u) s fun t =>
          (smAt u.val t.uart).tx = [] ∧ t.outbox = s.outbox ++ [.uart u.val x.tx]
            ∧ t.rb pMge 0x010 (10 + u.val) = true))
    ∧ (∀ (p : Fin 32) b, completes (.gpioEdge p b) s fun t =>
        bit t.pins.gpio p.val = b ∧ t.mem = s.mem
          ∧ (clocked s = true → s.rb pMge 0x300 p.val = false → bit s.pins.gpio p.val ≠ b →
              s.rb pMge (if b = true then 0x314 else 0x318) p.val = true →
              t.rb pMge 0x31C p.val = true ∧ t.rb pMge 0x010 12 = true))
    ∧ (clocked s = true →
      (∀ d : BitVec 16, mdioBusy s = true → completes (.mdioDone d) s fun t =>
        mdioBusy t = false ∧ t.rb pMge 0x010 3 = true ∧ t.mem = s.mem
          ∧ (s.rb pMge 0x090 30 = true → t.rf pMge 0x090 15 0 = d.toNat))
      ∧ (∀ (i : Fin 4) (r : Fin 3) d, i2cBusy i.val s = true → completes (.i2cDone i r d) s fun t =>
        i2cBusy i.val t = false ∧ t.rf pMge (i2cOff i.val 8) 2 1 = r.val ∧ t.rb pMge 0x010 (4 + i.val) = true
          ∧ t.mem = s.mem)
      ∧ (completes .dbgChallengeRead s fun t =>
        ∃ w, t.nonce = some w ∧ t.outbox = s.outbox ++ [.challenge deviceId w] ∧ t.regs = s.regs)
      ∧ ∀ level key sig, dbgFails s < 3 → completes (.dbgResponse level key sig) s fun t =>
        t.nonce = none ∧ t.mem = s.mem
          ∧ (∀ w, s.nonce = some w → dbgVerifies w level key sig = true → level.toNat ≤ s.rf pMge 0x380 1 0 →
              t.rf pMge 0x384 1 0 = level.toNat ∧ t.rb pMge 0x010 13 = true ∧ dbgFails t = dbgFails s)
          ∧ ((∀ w, s.nonce = some w → dbgVerifies w level key sig = false ∨ s.rf pMge 0x380 1 0 < level.toNat) →
              dbgFails t = dbgFails s + 1
                ∧ t.rf pMge 0x384 1 0 = if dbgFails s = 2 then 0 else s.rf pMge 0x384 1 0))
    ∧ ∀ (k : Fin 8) (halt : Bool),
      let t := jtagHalt k halt s
      (served s = true → 2 ≤ debugLevel s →
        apcHalted k t = halt ∧ (halt = true → mayIssue (.apc k) t = false) ∧ t.regs = s.regs ∧ t.mem = s.mem)
      ∧ (debugLevel s < 2 → t = s)
end

