-- ==== Sys2Proof/Laws/State.lean ====
section
/-! SUPPORT. What each update of the state leaves alone: one lemma for each field and update. -/

namespace Sys2Proof.Machine

variable (s : State) (p o i : Nat) (v : Word)

/-! ## The register operations are one -/

@[simp] theorem State.setReg_def : s.setReg p o v = s.setRegAt p o 0 v := rfl
@[simp] theorem State.setFldAt_def (hi lo n : Nat) :
    s.setFldAt p o i hi lo n = s.setRegAt p o i (putFld (s.regAt p o i) hi lo n) := rfl
@[simp] theorem State.setFld_def (hi lo n : Nat) :
    s.setFld p o hi lo n = s.setRegAt p o 0 (putFld (s.regAt p o 0) hi lo n) := rfl
@[simp] theorem State.bumpAt_def (n : Nat) :
    s.bumpAt p o i n = s.setRegAt p o i (satW ((s.regAt p o i).toNat + n)) := rfl
@[simp] theorem State.bump_def : s.bump p o = s.setRegAt p o 0 (satW ((s.regAt p o 0).toNat + 1)) := rfl
@[simp] theorem State.bumpFldAt_def (hi lo n : Nat) : s.bumpFldAt p o i hi lo n =
    s.setRegAt p o i (putFld (s.regAt p o i) hi lo (min (s.rfAt p o i hi lo + n) (2 ^ (hi + 1 - lo) - 1))) := rfl
@[simp] theorem State.setPairAt_def (n : Nat) :
    s.setPairAt p o i n = (s.setRegAt p o i (loW n)).setRegAt p (o + 4) i (hiW n) := rfl
@[simp] theorem State.reg_def : s.reg p o = s.regAt p o 0 := rfl
@[simp] theorem State.rfAt_def (hi lo : Nat) : s.rfAt p o i hi lo = fld (s.regAt p o i) hi lo := rfl
@[simp] theorem State.rf_def (hi lo : Nat) : s.rf p o hi lo = fld (s.regAt p o 0) hi lo := rfl
@[simp] theorem State.rb_def (n : Nat) : s.rb p o n = bit (s.regAt p o 0) n := rfl

/-! ## Writing a register -/

@[simp] theorem State.setRegAt_pending : (s.setRegAt p o i v).pending = s.pending := rfl
@[simp] theorem State.setRegAt_ownRegs : (s.setRegAt p o i v).ownRegs = s.ownRegs := rfl
@[simp] theorem State.setRegAt_heldLow : (s.setRegAt p o i v).heldLow = s.heldLow := rfl
@[simp] theorem State.setRegAt_shadow : (s.setRegAt p o i v).shadow = s.shadow := rfl
@[simp] theorem State.setRegAt_pix : (s.setRegAt p o i v).pix = s.pix := rfl
@[simp] theorem State.setRegAt_latched : (s.setRegAt p o i v).latched = s.latched := rfl
@[simp] theorem State.setRegAt_xq : (s.setRegAt p o i v).xq = s.xq := rfl
@[simp] theorem State.setRegAt_mem : (s.setRegAt p o i v).mem = s.mem := rfl
@[simp] theorem State.setRegAt_poison : (s.setRegAt p o i v).poison = s.poison := rfl
@[simp] theorem State.setRegAt_resp : (s.setRegAt p o i v).resp = s.resp := rfl
@[simp] theorem State.setRegAt_outbox : (s.setRegAt p o i v).outbox = s.outbox := rfl
@[simp] theorem State.setRegAt_free : (s.setRegAt p o i v).free = s.free := rfl
@[simp] theorem State.setRegAt_clk : (s.setRegAt p o i v).clk = s.clk := rfl
@[simp] theorem State.setRegAt_pwr : (s.setRegAt p o i v).pwr = s.pwr := rfl
@[simp] theorem State.setRegAt_vbt : (s.setRegAt p o i v).vbt = s.vbt := rfl
@[simp] theorem State.setRegAt_tm : (s.setRegAt p o i v).tm = s.tm := rfl
@[simp] theorem State.setRegAt_ttu : (s.setRegAt p o i v).ttu = s.ttu := rfl
@[simp] theorem State.setRegAt_caps : (s.setRegAt p o i v).caps = s.caps := rfl
@[simp] theorem State.setRegAt_ic : (s.setRegAt p o i v).ic = s.ic := rfl
@[simp] theorem State.setRegAt_resv : (s.setRegAt p o i v).resv = s.resv := rfl
@[simp] theorem State.setRegAt_mrm : (s.setRegAt p o i v).mrm = s.mrm := rfl
@[simp] theorem State.setRegAt_dmc : (s.setRegAt p o i v).dmc = s.dmc := rfl
@[simp] theorem State.setRegAt_drains : (s.setRegAt p o i v).drains = s.drains := rfl
@[simp] theorem State.setRegAt_frozen : (s.setRegAt p o i v).frozen = s.frozen := rfl
@[simp] theorem State.setRegAt_behind : (s.setRegAt p o i v).behind = s.behind := rfl
@[simp] theorem State.setRegAt_late : (s.setRegAt p o i v).late = s.late := rfl
@[simp] theorem State.setRegAt_inflight : (s.setRegAt p o i v).inflight = s.inflight := rfl
@[simp] theorem State.setRegAt_accId : (s.setRegAt p o i v).accId = s.accId := rfl
@[simp] theorem State.setRegAt_ctx : (s.setRegAt p o i v).ctx = s.ctx := rfl
@[simp] theorem State.setRegAt_buf : (s.setRegAt p o i v).buf = s.buf := rfl
@[simp] theorem State.setRegAt_dsp : (s.setRegAt p o i v).dsp = s.dsp := rfl
@[simp] theorem State.setRegAt_placed : (s.setRegAt p o i v).placed = s.placed := rfl
@[simp] theorem State.setRegAt_eng : (s.setRegAt p o i v).eng = s.eng := rfl
@[simp] theorem State.setRegAt_auNo : (s.setRegAt p o i v).auNo = s.auNo := rfl
@[simp] theorem State.setRegAt_dpi : (s.setRegAt p o i v).dpi = s.dpi := rfl
@[simp] theorem State.setRegAt_net : (s.setRegAt p o i v).net = s.net := rfl
@[simp] theorem State.setRegAt_arrived : (s.setRegAt p o i v).arrived = s.arrived := rfl
@[simp] theorem State.setRegAt_cmp : (s.setRegAt p o i v).cmp = s.cmp := rfl
@[simp] theorem State.setRegAt_grd : (s.setRegAt p o i v).grd = s.grd := rfl
@[simp] theorem State.setRegAt_out : (s.setRegAt p o i v).out = s.out := rfl
@[simp] theorem State.setRegAt_key : (s.setRegAt p o i v).key = s.key := rfl
@[simp] theorem State.setRegAt_fuseSv : (s.setRegAt p o i v).fuseSv = s.fuseSv := rfl
@[simp] theorem State.setRegAt_keyStuck : (s.setRegAt p o i v).keyStuck = s.keyStuck := rfl
@[simp] theorem State.setRegAt_enc : (s.setRegAt p o i v).enc = s.enc := rfl
@[simp] theorem State.setRegAt_ng : (s.setRegAt p o i v).ng = s.ng := rfl
@[simp] theorem State.setRegAt_rx : (s.setRegAt p o i v).rx = s.rx := rfl
@[simp] theorem State.setRegAt_hist : (s.setRegAt p o i v).hist = s.hist := rfl
@[simp] theorem State.setRegAt_gate : (s.setRegAt p o i v).gate = s.gate := rfl
@[simp] theorem State.setRegAt_duty : (s.setRegAt p o i v).duty = s.duty := rfl
@[simp] theorem State.setRegAt_kib : (s.setRegAt p o i v).kib = s.kib := rfl
@[simp] theorem State.setRegAt_dma : (s.setRegAt p o i v).dma = s.dma := rfl
@[simp] theorem State.setRegAt_tch : (s.setRegAt p o i v).tch = s.tch := rfl
@[simp] theorem State.setRegAt_srcGrid : (s.setRegAt p o i v).srcGrid = s.srcGrid := rfl
@[simp] theorem State.setRegAt_bst : (s.setRegAt p o i v).bst = s.bst := rfl
@[simp] theorem State.setRegAt_lvWrites : (s.setRegAt p o i v).lvWrites = s.lvWrites := rfl
@[simp] theorem State.setRegAt_pci : (s.setRegAt p o i v).pci = s.pci := rfl
@[simp] theorem State.setRegAt_uart : (s.setRegAt p o i v).uart = s.uart := rfl
@[simp] theorem State.setRegAt_nonce : (s.setRegAt p o i v).nonce = s.nonce := rfl
@[simp] theorem State.setRegAt_jtag : (s.setRegAt p o i v).jtag = s.jtag := rfl
@[simp] theorem State.setRegAt_pins : (s.setRegAt p o i v).pins = s.pins := rfl

/-! ## Responding -/

@[simp] theorem State.respond_pending (ok : Bool) (d : Nat) : (s.respond ok d).pending = s.pending := rfl
@[simp] theorem State.respond_regs (ok : Bool) (d : Nat) : (s.respond ok d).regs = s.regs := rfl
@[simp] theorem State.respond_ownRegs (ok : Bool) (d : Nat) : (s.respond ok d).ownRegs = s.ownRegs := rfl
@[simp] theorem State.respond_heldLow (ok : Bool) (d : Nat) : (s.respond ok d).heldLow = s.heldLow := rfl
@[simp] theorem State.respond_shadow (ok : Bool) (d : Nat) : (s.respond ok d).shadow = s.shadow := rfl
@[simp] theorem State.respond_pix (ok : Bool) (d : Nat) : (s.respond ok d).pix = s.pix := rfl
@[simp] theorem State.respond_latched (ok : Bool) (d : Nat) : (s.respond ok d).latched = s.latched := rfl
@[simp] theorem State.respond_xq (ok : Bool) (d : Nat) : (s.respond ok d).xq = s.xq := rfl
@[simp] theorem State.respond_mem (ok : Bool) (d : Nat) : (s.respond ok d).mem = s.mem := rfl
@[simp] theorem State.respond_poison (ok : Bool) (d : Nat) : (s.respond ok d).poison = s.poison := rfl
@[simp] theorem State.respond_outbox (ok : Bool) (d : Nat) : (s.respond ok d).outbox = s.outbox := rfl
@[simp] theorem State.respond_free (ok : Bool) (d : Nat) : (s.respond ok d).free = s.free := rfl
@[simp] theorem State.respond_clk (ok : Bool) (d : Nat) : (s.respond ok d).clk = s.clk := rfl
@[simp] theorem State.respond_pwr (ok : Bool) (d : Nat) : (s.respond ok d).pwr = s.pwr := rfl
@[simp] theorem State.respond_vbt (ok : Bool) (d : Nat) : (s.respond ok d).vbt = s.vbt := rfl
@[simp] theorem State.respond_tm (ok : Bool) (d : Nat) : (s.respond ok d).tm = s.tm := rfl
@[simp] theorem State.respond_ttu (ok : Bool) (d : Nat) : (s.respond ok d).ttu = s.ttu := rfl
@[simp] theorem State.respond_caps (ok : Bool) (d : Nat) : (s.respond ok d).caps = s.caps := rfl
@[simp] theorem State.respond_ic (ok : Bool) (d : Nat) : (s.respond ok d).ic = s.ic := rfl
@[simp] theorem State.respond_resv (ok : Bool) (d : Nat) : (s.respond ok d).resv = s.resv := rfl
@[simp] theorem State.respond_mrm (ok : Bool) (d : Nat) : (s.respond ok d).mrm = s.mrm := rfl
@[simp] theorem State.respond_dmc (ok : Bool) (d : Nat) : (s.respond ok d).dmc = s.dmc := rfl
@[simp] theorem State.respond_drains (ok : Bool) (d : Nat) : (s.respond ok d).drains = s.drains := rfl
@[simp] theorem State.respond_frozen (ok : Bool) (d : Nat) : (s.respond ok d).frozen = s.frozen := rfl
@[simp] theorem State.respond_behind (ok : Bool) (d : Nat) : (s.respond ok d).behind = s.behind := rfl
@[simp] theorem State.respond_late (ok : Bool) (d : Nat) : (s.respond ok d).late = s.late := rfl
@[simp] theorem State.respond_inflight (ok : Bool) (d : Nat) : (s.respond ok d).inflight = s.inflight := rfl
@[simp] theorem State.respond_accId (ok : Bool) (d : Nat) : (s.respond ok d).accId = s.accId := rfl
@[simp] theorem State.respond_ctx (ok : Bool) (d : Nat) : (s.respond ok d).ctx = s.ctx := rfl
@[simp] theorem State.respond_buf (ok : Bool) (d : Nat) : (s.respond ok d).buf = s.buf := rfl
@[simp] theorem State.respond_dsp (ok : Bool) (d : Nat) : (s.respond ok d).dsp = s.dsp := rfl
@[simp] theorem State.respond_placed (ok : Bool) (d : Nat) : (s.respond ok d).placed = s.placed := rfl
@[simp] theorem State.respond_eng (ok : Bool) (d : Nat) : (s.respond ok d).eng = s.eng := rfl
@[simp] theorem State.respond_auNo (ok : Bool) (d : Nat) : (s.respond ok d).auNo = s.auNo := rfl
@[simp] theorem State.respond_dpi (ok : Bool) (d : Nat) : (s.respond ok d).dpi = s.dpi := rfl
@[simp] theorem State.respond_net (ok : Bool) (d : Nat) : (s.respond ok d).net = s.net := rfl
@[simp] theorem State.respond_arrived (ok : Bool) (d : Nat) : (s.respond ok d).arrived = s.arrived := rfl
@[simp] theorem State.respond_cmp (ok : Bool) (d : Nat) : (s.respond ok d).cmp = s.cmp := rfl
@[simp] theorem State.respond_grd (ok : Bool) (d : Nat) : (s.respond ok d).grd = s.grd := rfl
@[simp] theorem State.respond_out (ok : Bool) (d : Nat) : (s.respond ok d).out = s.out := rfl
@[simp] theorem State.respond_key (ok : Bool) (d : Nat) : (s.respond ok d).key = s.key := rfl
@[simp] theorem State.respond_fuseSv (ok : Bool) (d : Nat) : (s.respond ok d).fuseSv = s.fuseSv := rfl
@[simp] theorem State.respond_keyStuck (ok : Bool) (d : Nat) : (s.respond ok d).keyStuck = s.keyStuck := rfl
@[simp] theorem State.respond_enc (ok : Bool) (d : Nat) : (s.respond ok d).enc = s.enc := rfl
@[simp] theorem State.respond_ng (ok : Bool) (d : Nat) : (s.respond ok d).ng = s.ng := rfl
@[simp] theorem State.respond_rx (ok : Bool) (d : Nat) : (s.respond ok d).rx = s.rx := rfl
@[simp] theorem State.respond_hist (ok : Bool) (d : Nat) : (s.respond ok d).hist = s.hist := rfl
@[simp] theorem State.respond_gate (ok : Bool) (d : Nat) : (s.respond ok d).gate = s.gate := rfl
@[simp] theorem State.respond_duty (ok : Bool) (d : Nat) : (s.respond ok d).duty = s.duty := rfl
@[simp] theorem State.respond_kib (ok : Bool) (d : Nat) : (s.respond ok d).kib = s.kib := rfl
@[simp] theorem State.respond_dma (ok : Bool) (d : Nat) : (s.respond ok d).dma = s.dma := rfl
@[simp] theorem State.respond_tch (ok : Bool) (d : Nat) : (s.respond ok d).tch = s.tch := rfl
@[simp] theorem State.respond_srcGrid (ok : Bool) (d : Nat) : (s.respond ok d).srcGrid = s.srcGrid := rfl
@[simp] theorem State.respond_bst (ok : Bool) (d : Nat) : (s.respond ok d).bst = s.bst := rfl
@[simp] theorem State.respond_lvWrites (ok : Bool) (d : Nat) : (s.respond ok d).lvWrites = s.lvWrites := rfl
@[simp] theorem State.respond_pci (ok : Bool) (d : Nat) : (s.respond ok d).pci = s.pci := rfl
@[simp] theorem State.respond_uart (ok : Bool) (d : Nat) : (s.respond ok d).uart = s.uart := rfl
@[simp] theorem State.respond_nonce (ok : Bool) (d : Nat) : (s.respond ok d).nonce = s.nonce := rfl
@[simp] theorem State.respond_jtag (ok : Bool) (d : Nat) : (s.respond ok d).jtag = s.jtag := rfl
@[simp] theorem State.respond_pins (ok : Bool) (d : Nat) : (s.respond ok d).pins = s.pins := rfl
@[simp] theorem State.respond_resp (ok : Bool) (d : Nat) : (s.respond ok d).resp = { ok, data := d } := rfl
@[simp] theorem State.respond_regAt (ok : Bool) (d : Nat) : (s.respond ok d).regAt p o i = s.regAt p o i := rfl

/-! ## Sending -/

@[simp] theorem State.emit_pending (e : Emit) : (s.emit e).pending = s.pending := rfl
@[simp] theorem State.emit_regs (e : Emit) : (s.emit e).regs = s.regs := rfl
@[simp] theorem State.emit_ownRegs (e : Emit) : (s.emit e).ownRegs = s.ownRegs := rfl
@[simp] theorem State.emit_heldLow (e : Emit) : (s.emit e).heldLow = s.heldLow := rfl
@[simp] theorem State.emit_shadow (e : Emit) : (s.emit e).shadow = s.shadow := rfl
@[simp] theorem State.emit_pix (e : Emit) : (s.emit e).pix = s.pix := rfl
@[simp] theorem State.emit_latched (e : Emit) : (s.emit e).latched = s.latched := rfl
@[simp] theorem State.emit_xq (e : Emit) : (s.emit e).xq = s.xq := rfl
@[simp] theorem State.emit_mem (e : Emit) : (s.emit e).mem = s.mem := rfl
@[simp] theorem State.emit_poison (e : Emit) : (s.emit e).poison = s.poison := rfl
@[simp] theorem State.emit_resp (e : Emit) : (s.emit e).resp = s.resp := rfl
@[simp] theorem State.emit_free (e : Emit) : (s.emit e).free = s.free := rfl
@[simp] theorem State.emit_clk (e : Emit) : (s.emit e).clk = s.clk := rfl
@[simp] theorem State.emit_pwr (e : Emit) : (s.emit e).pwr = s.pwr := rfl
@[simp] theorem State.emit_vbt (e : Emit) : (s.emit e).vbt = s.vbt := rfl
@[simp] theorem State.emit_tm (e : Emit) : (s.emit e).tm = s.tm := rfl
@[simp] theorem State.emit_ttu (e : Emit) : (s.emit e).ttu = s.ttu := rfl
@[simp] theorem State.emit_caps (e : Emit) : (s.emit e).caps = s.caps := rfl
@[simp] theorem State.emit_ic (e : Emit) : (s.emit e).ic = s.ic := rfl
@[simp] theorem State.emit_resv (e : Emit) : (s.emit e).resv = s.resv := rfl
@[simp] theorem State.emit_mrm (e : Emit) : (s.emit e).mrm = s.mrm := rfl
@[simp] theorem State.emit_dmc (e : Emit) : (s.emit e).dmc = s.dmc := rfl
@[simp] theorem State.emit_drains (e : Emit) : (s.emit e).drains = s.drains := rfl
@[simp] theorem State.emit_frozen (e : Emit) : (s.emit e).frozen = s.frozen := rfl
@[simp] theorem State.emit_behind (e : Emit) : (s.emit e).behind = s.behind := rfl
@[simp] theorem State.emit_late (e : Emit) : (s.emit e).late = s.late := rfl
@[simp] theorem State.emit_inflight (e : Emit) : (s.emit e).inflight = s.inflight := rfl
@[simp] theorem State.emit_accId (e : Emit) : (s.emit e).accId = s.accId := rfl
@[simp] theorem State.emit_ctx (e : Emit) : (s.emit e).ctx = s.ctx := rfl
@[simp] theorem State.emit_buf (e : Emit) : (s.emit e).buf = s.buf := rfl
@[simp] theorem State.emit_dsp (e : Emit) : (s.emit e).dsp = s.dsp := rfl
@[simp] theorem State.emit_placed (e : Emit) : (s.emit e).placed = s.placed := rfl
@[simp] theorem State.emit_eng (e : Emit) : (s.emit e).eng = s.eng := rfl
@[simp] theorem State.emit_auNo (e : Emit) : (s.emit e).auNo = s.auNo := rfl
@[simp] theorem State.emit_dpi (e : Emit) : (s.emit e).dpi = s.dpi := rfl
@[simp] theorem State.emit_net (e : Emit) : (s.emit e).net = s.net := rfl
@[simp] theorem State.emit_arrived (e : Emit) : (s.emit e).arrived = s.arrived := rfl
@[simp] theorem State.emit_cmp (e : Emit) : (s.emit e).cmp = s.cmp := rfl
@[simp] theorem State.emit_grd (e : Emit) : (s.emit e).grd = s.grd := rfl
@[simp] theorem State.emit_out (e : Emit) : (s.emit e).out = s.out := rfl
@[simp] theorem State.emit_key (e : Emit) : (s.emit e).key = s.key := rfl
@[simp] theorem State.emit_fuseSv (e : Emit) : (s.emit e).fuseSv = s.fuseSv := rfl
@[simp] theorem State.emit_keyStuck (e : Emit) : (s.emit e).keyStuck = s.keyStuck := rfl
@[simp] theorem State.emit_enc (e : Emit) : (s.emit e).enc = s.enc := rfl
@[simp] theorem State.emit_ng (e : Emit) : (s.emit e).ng = s.ng := rfl
@[simp] theorem State.emit_rx (e : Emit) : (s.emit e).rx = s.rx := rfl
@[simp] theorem State.emit_hist (e : Emit) : (s.emit e).hist = s.hist := rfl
@[simp] theorem State.emit_gate (e : Emit) : (s.emit e).gate = s.gate := rfl
@[simp] theorem State.emit_duty (e : Emit) : (s.emit e).duty = s.duty := rfl
@[simp] theorem State.emit_kib (e : Emit) : (s.emit e).kib = s.kib := rfl
@[simp] theorem State.emit_dma (e : Emit) : (s.emit e).dma = s.dma := rfl
@[simp] theorem State.emit_tch (e : Emit) : (s.emit e).tch = s.tch := rfl
@[simp] theorem State.emit_srcGrid (e : Emit) : (s.emit e).srcGrid = s.srcGrid := rfl
@[simp] theorem State.emit_bst (e : Emit) : (s.emit e).bst = s.bst := rfl
@[simp] theorem State.emit_lvWrites (e : Emit) : (s.emit e).lvWrites = s.lvWrites := rfl
@[simp] theorem State.emit_pci (e : Emit) : (s.emit e).pci = s.pci := rfl
@[simp] theorem State.emit_uart (e : Emit) : (s.emit e).uart = s.uart := rfl
@[simp] theorem State.emit_nonce (e : Emit) : (s.emit e).nonce = s.nonce := rfl
@[simp] theorem State.emit_jtag (e : Emit) : (s.emit e).jtag = s.jtag := rfl
@[simp] theorem State.emit_pins (e : Emit) : (s.emit e).pins = s.pins := rfl
@[simp] theorem State.emit_outbox (e : Emit) : (s.emit e).outbox = s.outbox ++ [e] := rfl
@[simp] theorem State.emit_regAt (e : Emit) : (s.emit e).regAt p o i = s.regAt p o i := rfl

/-! ## Writing a byte -/

@[simp] theorem State.wrByte_pending (a : Nat) (b : Byte) : (s.wrByte a b).pending = s.pending := rfl
@[simp] theorem State.wrByte_regs (a : Nat) (b : Byte) : (s.wrByte a b).regs = s.regs := rfl
@[simp] theorem State.wrByte_ownRegs (a : Nat) (b : Byte) : (s.wrByte a b).ownRegs = s.ownRegs := rfl
@[simp] theorem State.wrByte_heldLow (a : Nat) (b : Byte) : (s.wrByte a b).heldLow = s.heldLow := rfl
@[simp] theorem State.wrByte_shadow (a : Nat) (b : Byte) : (s.wrByte a b).shadow = s.shadow := rfl
@[simp] theorem State.wrByte_pix (a : Nat) (b : Byte) : (s.wrByte a b).pix = s.pix := rfl
@[simp] theorem State.wrByte_latched (a : Nat) (b : Byte) : (s.wrByte a b).latched = s.latched := rfl
@[simp] theorem State.wrByte_xq (a : Nat) (b : Byte) : (s.wrByte a b).xq = s.xq := rfl
@[simp] theorem State.wrByte_poison (a : Nat) (b : Byte) : (s.wrByte a b).poison = s.poison := rfl
@[simp] theorem State.wrByte_resp (a : Nat) (b : Byte) : (s.wrByte a b).resp = s.resp := rfl
@[simp] theorem State.wrByte_outbox (a : Nat) (b : Byte) : (s.wrByte a b).outbox = s.outbox := rfl
@[simp] theorem State.wrByte_free (a : Nat) (b : Byte) : (s.wrByte a b).free = s.free := rfl
@[simp] theorem State.wrByte_clk (a : Nat) (b : Byte) : (s.wrByte a b).clk = s.clk := rfl
@[simp] theorem State.wrByte_pwr (a : Nat) (b : Byte) : (s.wrByte a b).pwr = s.pwr := rfl
@[simp] theorem State.wrByte_vbt (a : Nat) (b : Byte) : (s.wrByte a b).vbt = s.vbt := rfl
@[simp] theorem State.wrByte_tm (a : Nat) (b : Byte) : (s.wrByte a b).tm = s.tm := rfl
@[simp] theorem State.wrByte_ttu (a : Nat) (b : Byte) : (s.wrByte a b).ttu = s.ttu := rfl
@[simp] theorem State.wrByte_caps (a : Nat) (b : Byte) : (s.wrByte a b).caps = s.caps := rfl
@[simp] theorem State.wrByte_ic (a : Nat) (b : Byte) : (s.wrByte a b).ic = s.ic := rfl
@[simp] theorem State.wrByte_resv (a : Nat) (b : Byte) : (s.wrByte a b).resv = s.resv := rfl
@[simp] theorem State.wrByte_mrm (a : Nat) (b : Byte) : (s.wrByte a b).mrm = s.mrm := rfl
@[simp] theorem State.wrByte_dmc (a : Nat) (b : Byte) : (s.wrByte a b).dmc = s.dmc := rfl
@[simp] theorem State.wrByte_drains (a : Nat) (b : Byte) : (s.wrByte a b).drains = s.drains := rfl
@[simp] theorem State.wrByte_frozen (a : Nat) (b : Byte) : (s.wrByte a b).frozen = s.frozen := rfl
@[simp] theorem State.wrByte_behind (a : Nat) (b : Byte) : (s.wrByte a b).behind = s.behind := rfl
@[simp] theorem State.wrByte_late (a : Nat) (b : Byte) : (s.wrByte a b).late = s.late := rfl
@[simp] theorem State.wrByte_inflight (a : Nat) (b : Byte) : (s.wrByte a b).inflight = s.inflight := rfl
@[simp] theorem State.wrByte_accId (a : Nat) (b : Byte) : (s.wrByte a b).accId = s.accId := rfl
@[simp] theorem State.wrByte_ctx (a : Nat) (b : Byte) : (s.wrByte a b).ctx = s.ctx := rfl
@[simp] theorem State.wrByte_buf (a : Nat) (b : Byte) : (s.wrByte a b).buf = s.buf := rfl
@[simp] theorem State.wrByte_dsp (a : Nat) (b : Byte) : (s.wrByte a b).dsp = s.dsp := rfl
@[simp] theorem State.wrByte_placed (a : Nat) (b : Byte) : (s.wrByte a b).placed = s.placed := rfl
@[simp] theorem State.wrByte_eng (a : Nat) (b : Byte) : (s.wrByte a b).eng = s.eng := rfl
@[simp] theorem State.wrByte_auNo (a : Nat) (b : Byte) : (s.wrByte a b).auNo = s.auNo := rfl
@[simp] theorem State.wrByte_dpi (a : Nat) (b : Byte) : (s.wrByte a b).dpi = s.dpi := rfl
@[simp] theorem State.wrByte_net (a : Nat) (b : Byte) : (s.wrByte a b).net = s.net := rfl
@[simp] theorem State.wrByte_arrived (a : Nat) (b : Byte) : (s.wrByte a b).arrived = s.arrived := rfl
@[simp] theorem State.wrByte_cmp (a : Nat) (b : Byte) : (s.wrByte a b).cmp = s.cmp := rfl
@[simp] theorem State.wrByte_grd (a : Nat) (b : Byte) : (s.wrByte a b).grd = s.grd := rfl
@[simp] theorem State.wrByte_out (a : Nat) (b : Byte) : (s.wrByte a b).out = s.out := rfl
@[simp] theorem State.wrByte_key (a : Nat) (b : Byte) : (s.wrByte a b).key = s.key := rfl
@[simp] theorem State.wrByte_fuseSv (a : Nat) (b : Byte) : (s.wrByte a b).fuseSv = s.fuseSv := rfl
@[simp] theorem State.wrByte_keyStuck (a : Nat) (b : Byte) : (s.wrByte a b).keyStuck = s.keyStuck := rfl
@[simp] theorem State.wrByte_enc (a : Nat) (b : Byte) : (s.wrByte a b).enc = s.enc := rfl
@[simp] theorem State.wrByte_ng (a : Nat) (b : Byte) : (s.wrByte a b).ng = s.ng := rfl
@[simp] theorem State.wrByte_rx (a : Nat) (b : Byte) : (s.wrByte a b).rx = s.rx := rfl
@[simp] theorem State.wrByte_hist (a : Nat) (b : Byte) : (s.wrByte a b).hist = s.hist := rfl
@[simp] theorem State.wrByte_gate (a : Nat) (b : Byte) : (s.wrByte a b).gate = s.gate := rfl
@[simp] theorem State.wrByte_duty (a : Nat) (b : Byte) : (s.wrByte a b).duty = s.duty := rfl
@[simp] theorem State.wrByte_kib (a : Nat) (b : Byte) : (s.wrByte a b).kib = s.kib := rfl
@[simp] theorem State.wrByte_dma (a : Nat) (b : Byte) : (s.wrByte a b).dma = s.dma := rfl
@[simp] theorem State.wrByte_tch (a : Nat) (b : Byte) : (s.wrByte a b).tch = s.tch := rfl
@[simp] theorem State.wrByte_srcGrid (a : Nat) (b : Byte) : (s.wrByte a b).srcGrid = s.srcGrid := rfl
@[simp] theorem State.wrByte_bst (a : Nat) (b : Byte) : (s.wrByte a b).bst = s.bst := rfl
@[simp] theorem State.wrByte_lvWrites (a : Nat) (b : Byte) : (s.wrByte a b).lvWrites = s.lvWrites := rfl
@[simp] theorem State.wrByte_pci (a : Nat) (b : Byte) : (s.wrByte a b).pci = s.pci := rfl
@[simp] theorem State.wrByte_uart (a : Nat) (b : Byte) : (s.wrByte a b).uart = s.uart := rfl
@[simp] theorem State.wrByte_nonce (a : Nat) (b : Byte) : (s.wrByte a b).nonce = s.nonce := rfl
@[simp] theorem State.wrByte_jtag (a : Nat) (b : Byte) : (s.wrByte a b).jtag = s.jtag := rfl
@[simp] theorem State.wrByte_pins (a : Nat) (b : Byte) : (s.wrByte a b).pins = s.pins := rfl
@[simp] theorem State.wrByte_regAt (a : Nat) (b : Byte) : (s.wrByte a b).regAt p o i = s.regAt p o i := rfl

/-! ## Using a free value -/

@[simp] theorem State.takeFree_pending : (s.takeFree).2.pending = s.pending := rfl
@[simp] theorem State.takeBool_pending : (s.takeBool).2.pending = s.pending := rfl
@[simp] theorem State.takeFree_regs : (s.takeFree).2.regs = s.regs := rfl
@[simp] theorem State.takeBool_regs : (s.takeBool).2.regs = s.regs := rfl
@[simp] theorem State.takeFree_ownRegs : (s.takeFree).2.ownRegs = s.ownRegs := rfl
@[simp] theorem State.takeBool_ownRegs : (s.takeBool).2.ownRegs = s.ownRegs := rfl
@[simp] theorem State.takeFree_heldLow : (s.takeFree).2.heldLow = s.heldLow := rfl
@[simp] theorem State.takeBool_heldLow : (s.takeBool).2.heldLow = s.heldLow := rfl
@[simp] theorem State.takeFree_shadow : (s.takeFree).2.shadow = s.shadow := rfl
@[simp] theorem State.takeBool_shadow : (s.takeBool).2.shadow = s.shadow := rfl
@[simp] theorem State.takeFree_pix : (s.takeFree).2.pix = s.pix := rfl
@[simp] theorem State.takeBool_pix : (s.takeBool).2.pix = s.pix := rfl
@[simp] theorem State.takeFree_latched : (s.takeFree).2.latched = s.latched := rfl
@[simp] theorem State.takeBool_latched : (s.takeBool).2.latched = s.latched := rfl
@[simp] theorem State.takeFree_xq : (s.takeFree).2.xq = s.xq := rfl
@[simp] theorem State.takeBool_xq : (s.takeBool).2.xq = s.xq := rfl
@[simp] theorem State.takeFree_mem : (s.takeFree).2.mem = s.mem := rfl
@[simp] theorem State.takeBool_mem : (s.takeBool).2.mem = s.mem := rfl
@[simp] theorem State.takeFree_poison : (s.takeFree).2.poison = s.poison := rfl
@[simp] theorem State.takeBool_poison : (s.takeBool).2.poison = s.poison := rfl
@[simp] theorem State.takeFree_resp : (s.takeFree).2.resp = s.resp := rfl
@[simp] theorem State.takeBool_resp : (s.takeBool).2.resp = s.resp := rfl
@[simp] theorem State.takeFree_outbox : (s.takeFree).2.outbox = s.outbox := rfl
@[simp] theorem State.takeBool_outbox : (s.takeBool).2.outbox = s.outbox := rfl
@[simp] theorem State.takeFree_clk : (s.takeFree).2.clk = s.clk := rfl
@[simp] theorem State.takeBool_clk : (s.takeBool).2.clk = s.clk := rfl
@[simp] theorem State.takeFree_pwr : (s.takeFree).2.pwr = s.pwr := rfl
@[simp] theorem State.takeBool_pwr : (s.takeBool).2.pwr = s.pwr := rfl
@[simp] theorem State.takeFree_vbt : (s.takeFree).2.vbt = s.vbt := rfl
@[simp] theorem State.takeBool_vbt : (s.takeBool).2.vbt = s.vbt := rfl
@[simp] theorem State.takeFree_tm : (s.takeFree).2.tm = s.tm := rfl
@[simp] theorem State.takeBool_tm : (s.takeBool).2.tm = s.tm := rfl
@[simp] theorem State.takeFree_ttu : (s.takeFree).2.ttu = s.ttu := rfl
@[simp] theorem State.takeBool_ttu : (s.takeBool).2.ttu = s.ttu := rfl
@[simp] theorem State.takeFree_caps : (s.takeFree).2.caps = s.caps := rfl
@[simp] theorem State.takeBool_caps : (s.takeBool).2.caps = s.caps := rfl
@[simp] theorem State.takeFree_ic : (s.takeFree).2.ic = s.ic := rfl
@[simp] theorem State.takeBool_ic : (s.takeBool).2.ic = s.ic := rfl
@[simp] theorem State.takeFree_resv : (s.takeFree).2.resv = s.resv := rfl
@[simp] theorem State.takeBool_resv : (s.takeBool).2.resv = s.resv := rfl
@[simp] theorem State.takeFree_mrm : (s.takeFree).2.mrm = s.mrm := rfl
@[simp] theorem State.takeBool_mrm : (s.takeBool).2.mrm = s.mrm := rfl
@[simp] theorem State.takeFree_dmc : (s.takeFree).2.dmc = s.dmc := rfl
@[simp] theorem State.takeBool_dmc : (s.takeBool).2.dmc = s.dmc := rfl
@[simp] theorem State.takeFree_drains : (s.takeFree).2.drains = s.drains := rfl
@[simp] theorem State.takeBool_drains : (s.takeBool).2.drains = s.drains := rfl
@[simp] theorem State.takeFree_frozen : (s.takeFree).2.frozen = s.frozen := rfl
@[simp] theorem State.takeBool_frozen : (s.takeBool).2.frozen = s.frozen := rfl
@[simp] theorem State.takeFree_behind : (s.takeFree).2.behind = s.behind := rfl
@[simp] theorem State.takeBool_behind : (s.takeBool).2.behind = s.behind := rfl
@[simp] theorem State.takeFree_late : (s.takeFree).2.late = s.late := rfl
@[simp] theorem State.takeBool_late : (s.takeBool).2.late = s.late := rfl
@[simp] theorem State.takeFree_inflight : (s.takeFree).2.inflight = s.inflight := rfl
@[simp] theorem State.takeBool_inflight : (s.takeBool).2.inflight = s.inflight := rfl
@[simp] theorem State.takeFree_accId : (s.takeFree).2.accId = s.accId := rfl
@[simp] theorem State.takeBool_accId : (s.takeBool).2.accId = s.accId := rfl
@[simp] theorem State.takeFree_ctx : (s.takeFree).2.ctx = s.ctx := rfl
@[simp] theorem State.takeBool_ctx : (s.takeBool).2.ctx = s.ctx := rfl
@[simp] theorem State.takeFree_buf : (s.takeFree).2.buf = s.buf := rfl
@[simp] theorem State.takeBool_buf : (s.takeBool).2.buf = s.buf := rfl
@[simp] theorem State.takeFree_dsp : (s.takeFree).2.dsp = s.dsp := rfl
@[simp] theorem State.takeBool_dsp : (s.takeBool).2.dsp = s.dsp := rfl
@[simp] theorem State.takeFree_placed : (s.takeFree).2.placed = s.placed := rfl
@[simp] theorem State.takeBool_placed : (s.takeBool).2.placed = s.placed := rfl
@[simp] theorem State.takeFree_eng : (s.takeFree).2.eng = s.eng := rfl
@[simp] theorem State.takeBool_eng : (s.takeBool).2.eng = s.eng := rfl
@[simp] theorem State.takeFree_auNo : (s.takeFree).2.auNo = s.auNo := rfl
@[simp] theorem State.takeBool_auNo : (s.takeBool).2.auNo = s.auNo := rfl
@[simp] theorem State.takeFree_dpi : (s.takeFree).2.dpi = s.dpi := rfl
@[simp] theorem State.takeBool_dpi : (s.takeBool).2.dpi = s.dpi := rfl
@[simp] theorem State.takeFree_net : (s.takeFree).2.net = s.net := rfl
@[simp] theorem State.takeBool_net : (s.takeBool).2.net = s.net := rfl
@[simp] theorem State.takeFree_arrived : (s.takeFree).2.arrived = s.arrived := rfl
@[simp] theorem State.takeBool_arrived : (s.takeBool).2.arrived = s.arrived := rfl
@[simp] theorem State.takeFree_cmp : (s.takeFree).2.cmp = s.cmp := rfl
@[simp] theorem State.takeBool_cmp : (s.takeBool).2.cmp = s.cmp := rfl
@[simp] theorem State.takeFree_grd : (s.takeFree).2.grd = s.grd := rfl
@[simp] theorem State.takeBool_grd : (s.takeBool).2.grd = s.grd := rfl
@[simp] theorem State.takeFree_out : (s.takeFree).2.out = s.out := rfl
@[simp] theorem State.takeBool_out : (s.takeBool).2.out = s.out := rfl
@[simp] theorem State.takeFree_key : (s.takeFree).2.key = s.key := rfl
@[simp] theorem State.takeBool_key : (s.takeBool).2.key = s.key := rfl
@[simp] theorem State.takeFree_fuseSv : (s.takeFree).2.fuseSv = s.fuseSv := rfl
@[simp] theorem State.takeBool_fuseSv : (s.takeBool).2.fuseSv = s.fuseSv := rfl
@[simp] theorem State.takeFree_keyStuck : (s.takeFree).2.keyStuck = s.keyStuck := rfl
@[simp] theorem State.takeBool_keyStuck : (s.takeBool).2.keyStuck = s.keyStuck := rfl
@[simp] theorem State.takeFree_enc : (s.takeFree).2.enc = s.enc := rfl
@[simp] theorem State.takeBool_enc : (s.takeBool).2.enc = s.enc := rfl
@[simp] theorem State.takeFree_ng : (s.takeFree).2.ng = s.ng := rfl
@[simp] theorem State.takeBool_ng : (s.takeBool).2.ng = s.ng := rfl
@[simp] theorem State.takeFree_rx : (s.takeFree).2.rx = s.rx := rfl
@[simp] theorem State.takeBool_rx : (s.takeBool).2.rx = s.rx := rfl
@[simp] theorem State.takeFree_hist : (s.takeFree).2.hist = s.hist := rfl
@[simp] theorem State.takeBool_hist : (s.takeBool).2.hist = s.hist := rfl
@[simp] theorem State.takeFree_gate : (s.takeFree).2.gate = s.gate := rfl
@[simp] theorem State.takeBool_gate : (s.takeBool).2.gate = s.gate := rfl
@[simp] theorem State.takeFree_duty : (s.takeFree).2.duty = s.duty := rfl
@[simp] theorem State.takeBool_duty : (s.takeBool).2.duty = s.duty := rfl
@[simp] theorem State.takeFree_kib : (s.takeFree).2.kib = s.kib := rfl
@[simp] theorem State.takeBool_kib : (s.takeBool).2.kib = s.kib := rfl
@[simp] theorem State.takeFree_dma : (s.takeFree).2.dma = s.dma := rfl
@[simp] theorem State.takeBool_dma : (s.takeBool).2.dma = s.dma := rfl
@[simp] theorem State.takeFree_tch : (s.takeFree).2.tch = s.tch := rfl
@[simp] theorem State.takeBool_tch : (s.takeBool).2.tch = s.tch := rfl
@[simp] theorem State.takeFree_srcGrid : (s.takeFree).2.srcGrid = s.srcGrid := rfl
@[simp] theorem State.takeBool_srcGrid : (s.takeBool).2.srcGrid = s.srcGrid := rfl
@[simp] theorem State.takeFree_bst : (s.takeFree).2.bst = s.bst := rfl
@[simp] theorem State.takeBool_bst : (s.takeBool).2.bst = s.bst := rfl
@[simp] theorem State.takeFree_lvWrites : (s.takeFree).2.lvWrites = s.lvWrites := rfl
@[simp] theorem State.takeBool_lvWrites : (s.takeBool).2.lvWrites = s.lvWrites := rfl
@[simp] theorem State.takeFree_pci : (s.takeFree).2.pci = s.pci := rfl
@[simp] theorem State.takeBool_pci : (s.takeBool).2.pci = s.pci := rfl
@[simp] theorem State.takeFree_uart : (s.takeFree).2.uart = s.uart := rfl
@[simp] theorem State.takeBool_uart : (s.takeBool).2.uart = s.uart := rfl
@[simp] theorem State.takeFree_nonce : (s.takeFree).2.nonce = s.nonce := rfl
@[simp] theorem State.takeBool_nonce : (s.takeBool).2.nonce = s.nonce := rfl
@[simp] theorem State.takeFree_jtag : (s.takeFree).2.jtag = s.jtag := rfl
@[simp] theorem State.takeBool_jtag : (s.takeBool).2.jtag = s.jtag := rfl
@[simp] theorem State.takeFree_pins : (s.takeFree).2.pins = s.pins := rfl
@[simp] theorem State.takeBool_pins : (s.takeBool).2.pins = s.pins := rfl

/-! ## Recording an error -/

@[simp] theorem State.recordErr_pending (c m a : Nat) : (s.recordErr p c m a).pending = s.pending := by
  simp only [State.recordErr]; split <;> simp only [State.setReg_def, State.setRegAt_pending]
@[simp] theorem State.recordErr_ownRegs (c m a : Nat) : (s.recordErr p c m a).ownRegs = s.ownRegs := by
  simp only [State.recordErr]; split <;> simp only [State.setReg_def, State.setRegAt_ownRegs]
@[simp] theorem State.recordErr_heldLow (c m a : Nat) : (s.recordErr p c m a).heldLow = s.heldLow := by
  simp only [State.recordErr]; split <;> simp only [State.setReg_def, State.setRegAt_heldLow]
@[simp] theorem State.recordErr_shadow (c m a : Nat) : (s.recordErr p c m a).shadow = s.shadow := by
  simp only [State.recordErr]; split <;> simp only [State.setReg_def, State.setRegAt_shadow]
@[simp] theorem State.recordErr_pix (c m a : Nat) : (s.recordErr p c m a).pix = s.pix := by
  simp only [State.recordErr]; split <;> simp only [State.setReg_def, State.setRegAt_pix]
@[simp] theorem State.recordErr_latched (c m a : Nat) : (s.recordErr p c m a).latched = s.latched := by
  simp only [State.recordErr]; split <;> simp only [State.setReg_def, State.setRegAt_latched]
@[simp] theorem State.recordErr_xq (c m a : Nat) : (s.recordErr p c m a).xq = s.xq := by
  simp only [State.recordErr]; split <;> simp only [State.setReg_def, State.setRegAt_xq]
@[simp] theorem State.recordErr_mem (c m a : Nat) : (s.recordErr p c m a).mem = s.mem := by
  simp only [State.recordErr]; split <;> simp only [State.setReg_def, State.setRegAt_mem]
@[simp] theorem State.recordErr_poison (c m a : Nat) : (s.recordErr p c m a).poison = s.poison := by
  simp only [State.recordErr]; split <;> simp only [State.setReg_def, State.setRegAt_poison]
@[simp] theorem State.recordErr_resp (c m a : Nat) : (s.recordErr p c m a).resp = s.resp := by
  simp only [State.recordErr]; split <;> simp only [State.setReg_def, State.setRegAt_resp]
@[simp] theorem State.recordErr_outbox (c m a : Nat) : (s.recordErr p c m a).outbox = s.outbox := by
  simp only [State.recordErr]; split <;> simp only [State.setReg_def, State.setRegAt_outbox]
@[simp] theorem State.recordErr_free (c m a : Nat) : (s.recordErr p c m a).free = s.free := by
  simp only [State.recordErr]; split <;> simp only [State.setReg_def, State.setRegAt_free]
@[simp] theorem State.recordErr_clk (c m a : Nat) : (s.recordErr p c m a).clk = s.clk := by
  simp only [State.recordErr]; split <;> simp only [State.setReg_def, State.setRegAt_clk]
@[simp] theorem State.recordErr_pwr (c m a : Nat) : (s.recordErr p c m a).pwr = s.pwr := by
  simp only [State.recordErr]; split <;> simp only [State.setReg_def, State.setRegAt_pwr]
@[simp] theorem State.recordErr_vbt (c m a : Nat) : (s.recordErr p c m a).vbt = s.vbt := by
  simp only [State.recordErr]; split <;> simp only [State.setReg_def, State.setRegAt_vbt]
@[simp] theorem State.recordErr_tm (c m a : Nat) : (s.recordErr p c m a).tm = s.tm := by
  simp only [State.recordErr]; split <;> simp only [State.setReg_def, State.setRegAt_tm]
@[simp] theorem State.recordErr_ttu (c m a : Nat) : (s.recordErr p c m a).ttu = s.ttu := by
  simp only [State.recordErr]; split <;> simp only [State.setReg_def, State.setRegAt_ttu]
@[simp] theorem State.recordErr_caps (c m a : Nat) : (s.recordErr p c m a).caps = s.caps := by
  simp only [State.recordErr]; split <;> simp only [State.setReg_def, State.setRegAt_caps]
@[simp] theorem State.recordErr_ic (c m a : Nat) : (s.recordErr p c m a).ic = s.ic := by
  simp only [State.recordErr]; split <;> simp only [State.setReg_def, State.setRegAt_ic]
@[simp] theorem State.recordErr_resv (c m a : Nat) : (s.recordErr p c m a).resv = s.resv := by
  simp only [State.recordErr]; split <;> simp only [State.setReg_def, State.setRegAt_resv]
@[simp] theorem State.recordErr_mrm (c m a : Nat) : (s.recordErr p c m a).mrm = s.mrm := by
  simp only [State.recordErr]; split <;> simp only [State.setReg_def, State.setRegAt_mrm]
@[simp] theorem State.recordErr_dmc (c m a : Nat) : (s.recordErr p c m a).dmc = s.dmc := by
  simp only [State.recordErr]; split <;> simp only [State.setReg_def, State.setRegAt_dmc]
@[simp] theorem State.recordErr_drains (c m a : Nat) : (s.recordErr p c m a).drains = s.drains := by
  simp only [State.recordErr]; split <;> simp only [State.setReg_def, State.setRegAt_drains]
@[simp] theorem State.recordErr_frozen (c m a : Nat) : (s.recordErr p c m a).frozen = s.frozen := by
  simp only [State.recordErr]; split <;> simp only [State.setReg_def, State.setRegAt_frozen]
@[simp] theorem State.recordErr_behind (c m a : Nat) : (s.recordErr p c m a).behind = s.behind := by
  simp only [State.recordErr]; split <;> simp only [State.setReg_def, State.setRegAt_behind]
@[simp] theorem State.recordErr_late (c m a : Nat) : (s.recordErr p c m a).late = s.late := by
  simp only [State.recordErr]; split <;> simp only [State.setReg_def, State.setRegAt_late]
@[simp] theorem State.recordErr_inflight (c m a : Nat) : (s.recordErr p c m a).inflight = s.inflight := by
  simp only [State.recordErr]; split <;> simp only [State.setReg_def, State.setRegAt_inflight]
@[simp] theorem State.recordErr_accId (c m a : Nat) : (s.recordErr p c m a).accId = s.accId := by
  simp only [State.recordErr]; split <;> simp only [State.setReg_def, State.setRegAt_accId]
@[simp] theorem State.recordErr_ctx (c m a : Nat) : (s.recordErr p c m a).ctx = s.ctx := by
  simp only [State.recordErr]; split <;> simp only [State.setReg_def, State.setRegAt_ctx]
@[simp] theorem State.recordErr_buf (c m a : Nat) : (s.recordErr p c m a).buf = s.buf := by
  simp only [State.recordErr]; split <;> simp only [State.setReg_def, State.setRegAt_buf]
@[simp] theorem State.recordErr_dsp (c m a : Nat) : (s.recordErr p c m a).dsp = s.dsp := by
  simp only [State.recordErr]; split <;> simp only [State.setReg_def, State.setRegAt_dsp]
@[simp] theorem State.recordErr_placed (c m a : Nat) : (s.recordErr p c m a).placed = s.placed := by
  simp only [State.recordErr]; split <;> simp only [State.setReg_def, State.setRegAt_placed]
@[simp] theorem State.recordErr_eng (c m a : Nat) : (s.recordErr p c m a).eng = s.eng := by
  simp only [State.recordErr]; split <;> simp only [State.setReg_def, State.setRegAt_eng]
@[simp] theorem State.recordErr_auNo (c m a : Nat) : (s.recordErr p c m a).auNo = s.auNo := by
  simp only [State.recordErr]; split <;> simp only [State.setReg_def, State.setRegAt_auNo]
@[simp] theorem State.recordErr_dpi (c m a : Nat) : (s.recordErr p c m a).dpi = s.dpi := by
  simp only [State.recordErr]; split <;> simp only [State.setReg_def, State.setRegAt_dpi]
@[simp] theorem State.recordErr_net (c m a : Nat) : (s.recordErr p c m a).net = s.net := by
  simp only [State.recordErr]; split <;> simp only [State.setReg_def, State.setRegAt_net]
@[simp] theorem State.recordErr_arrived (c m a : Nat) : (s.recordErr p c m a).arrived = s.arrived := by
  simp only [State.recordErr]; split <;> simp only [State.setReg_def, State.setRegAt_arrived]
@[simp] theorem State.recordErr_cmp (c m a : Nat) : (s.recordErr p c m a).cmp = s.cmp := by
  simp only [State.recordErr]; split <;> simp only [State.setReg_def, State.setRegAt_cmp]
@[simp] theorem State.recordErr_grd (c m a : Nat) : (s.recordErr p c m a).grd = s.grd := by
  simp only [State.recordErr]; split <;> simp only [State.setReg_def, State.setRegAt_grd]
@[simp] theorem State.recordErr_out (c m a : Nat) : (s.recordErr p c m a).out = s.out := by
  simp only [State.recordErr]; split <;> simp only [State.setReg_def, State.setRegAt_out]
@[simp] theorem State.recordErr_key (c m a : Nat) : (s.recordErr p c m a).key = s.key := by
  simp only [State.recordErr]; split <;> simp only [State.setReg_def, State.setRegAt_key]
@[simp] theorem State.recordErr_fuseSv (c m a : Nat) : (s.recordErr p c m a).fuseSv = s.fuseSv := by
  simp only [State.recordErr]; split <;> simp only [State.setReg_def, State.setRegAt_fuseSv]
@[simp] theorem State.recordErr_keyStuck (c m a : Nat) : (s.recordErr p c m a).keyStuck = s.keyStuck := by
  simp only [State.recordErr]; split <;> simp only [State.setReg_def, State.setRegAt_keyStuck]
@[simp] theorem State.recordErr_enc (c m a : Nat) : (s.recordErr p c m a).enc = s.enc := by
  simp only [State.recordErr]; split <;> simp only [State.setReg_def, State.setRegAt_enc]
@[simp] theorem State.recordErr_ng (c m a : Nat) : (s.recordErr p c m a).ng = s.ng := by
  simp only [State.recordErr]; split <;> simp only [State.setReg_def, State.setRegAt_ng]
@[simp] theorem State.recordErr_rx (c m a : Nat) : (s.recordErr p c m a).rx = s.rx := by
  simp only [State.recordErr]; split <;> simp only [State.setReg_def, State.setRegAt_rx]
@[simp] theorem State.recordErr_hist (c m a : Nat) : (s.recordErr p c m a).hist = s.hist := by
  simp only [State.recordErr]; split <;> simp only [State.setReg_def, State.setRegAt_hist]
@[simp] theorem State.recordErr_gate (c m a : Nat) : (s.recordErr p c m a).gate = s.gate := by
  simp only [State.recordErr]; split <;> simp only [State.setReg_def, State.setRegAt_gate]
@[simp] theorem State.recordErr_duty (c m a : Nat) : (s.recordErr p c m a).duty = s.duty := by
  simp only [State.recordErr]; split <;> simp only [State.setReg_def, State.setRegAt_duty]
@[simp] theorem State.recordErr_kib (c m a : Nat) : (s.recordErr p c m a).kib = s.kib := by
  simp only [State.recordErr]; split <;> simp only [State.setReg_def, State.setRegAt_kib]
@[simp] theorem State.recordErr_dma (c m a : Nat) : (s.recordErr p c m a).dma = s.dma := by
  simp only [State.recordErr]; split <;> simp only [State.setReg_def, State.setRegAt_dma]
@[simp] theorem State.recordErr_tch (c m a : Nat) : (s.recordErr p c m a).tch = s.tch := by
  simp only [State.recordErr]; split <;> simp only [State.setReg_def, State.setRegAt_tch]
@[simp] theorem State.recordErr_srcGrid (c m a : Nat) : (s.recordErr p c m a).srcGrid = s.srcGrid := by
  simp only [State.recordErr]; split <;> simp only [State.setReg_def, State.setRegAt_srcGrid]
@[simp] theorem State.recordErr_bst (c m a : Nat) : (s.recordErr p c m a).bst = s.bst := by
  simp only [State.recordErr]; split <;> simp only [State.setReg_def, State.setRegAt_bst]
@[simp] theorem State.recordErr_lvWrites (c m a : Nat) : (s.recordErr p c m a).lvWrites = s.lvWrites := by
  simp only [State.recordErr]; split <;> simp only [State.setReg_def, State.setRegAt_lvWrites]
@[simp] theorem State.recordErr_pci (c m a : Nat) : (s.recordErr p c m a).pci = s.pci := by
  simp only [State.recordErr]; split <;> simp only [State.setReg_def, State.setRegAt_pci]
@[simp] theorem State.recordErr_uart (c m a : Nat) : (s.recordErr p c m a).uart = s.uart := by
  simp only [State.recordErr]; split <;> simp only [State.setReg_def, State.setRegAt_uart]
@[simp] theorem State.recordErr_nonce (c m a : Nat) : (s.recordErr p c m a).nonce = s.nonce := by
  simp only [State.recordErr]; split <;> simp only [State.setReg_def, State.setRegAt_nonce]
@[simp] theorem State.recordErr_jtag (c m a : Nat) : (s.recordErr p c m a).jtag = s.jtag := by
  simp only [State.recordErr]; split <;> simp only [State.setReg_def, State.setRegAt_jtag]
@[simp] theorem State.recordErr_pins (c m a : Nat) : (s.recordErr p c m a).pins = s.pins := by
  simp only [State.recordErr]; split <;> simp only [State.setReg_def, State.setRegAt_pins]

end Sys2Proof.Machine
end

