-- ==== Sys2Proof/Laws/Ops.lean ====
section
/-! SUPPORT. The laws of the sparse tables, of registers, of bytes and of memory: what a read gives after a write,
and that every operation keeps the canonical form. -/

namespace Sys2Proof.Machine

variable {α : Type}

/-! ## Sparse tables: a read after a write -/

theorem smGet_erase_same (k : Nat) (m : SMap α) : smGet k (smErase k m) = none := by
  induction m with
  | nil => rfl
  | cons p m ih =>
    obtain ⟨j, v⟩ := p
    by_cases h : j = k <;> simp [smErase, smGet, h, ih]

theorem smGet_erase_ne {k j : Nat} (h : j ≠ k) (m : SMap α) : smGet j (smErase k m) = smGet j m := by
  induction m with
  | nil => rfl
  | cons p m ih =>
    obtain ⟨i, v⟩ := p
    by_cases hk : i = k
    · subst hk; simp [smErase, smGet, ih, Ne.symm h]
    · simp only [smErase, hk, if_false, smGet, ih]

theorem smGet_insert_same (k : Nat) (v : α) (m : SMap α) : smGet k (smInsert k v m) = some v := by
  induction m with
  | nil => simp [smInsert, smGet]
  | cons p m ih =>
    obtain ⟨j, w⟩ := p
    simp only [smInsert]
    split
    · simp [smGet]
    · split
      · simp [smGet]
      · simp [smGet, *]

theorem smGet_insert_ne {k j : Nat} (h : j ≠ k) (v : α) (m : SMap α) :
    smGet j (smInsert k v m) = smGet j m := by
  induction m with
  | nil => simp [smInsert, smGet, Ne.symm h]
  | cons p m ih =>
    obtain ⟨i, w⟩ := p
    simp only [smInsert]
    split
    · simp [smGet, Ne.symm h]
    · split
      · next hk => subst hk; simp [smGet, Ne.symm h]
      · simp only [smGet]; split <;> simp [ih]

theorem smPut_eq [DecidableEq α] (d : Nat → α) (k : Nat) (v : α) (m : SMap α) :
    smPut d k v m = if v = d k then smErase k m else smInsert k v m := by
  cases m <;> rfl

/-- A read of the key written gives the value written. -/
@[simp] theorem smRead_put_same [DecidableEq α] (d : Nat → α) (k : Nat) (v : α) (m : SMap α) :
    smRead d k (smPut d k v m) = v := by
  rw [smPut_eq]; unfold smRead
  split
  · next h => simp [smGet_erase_same, h]
  · simp [smGet_insert_same]

/-- A write leaves every other key alone. -/
theorem smRead_put_ne [DecidableEq α] (d : Nat → α) {k j : Nat} (h : j ≠ k) (v : α) (m : SMap α) :
    smRead d j (smPut d k v m) = smRead d j m := by
  rw [smPut_eq]; unfold smRead
  split
  · rw [smGet_erase_ne h]
  · rw [smGet_insert_ne h]

@[simp] theorem smAt_set_same [Inhabited α] [DecidableEq α] (k : Nat) (v : α) (m : SMap α) :
    smAt k (smSet k v m) = v := smRead_put_same _ _ _ _

theorem smAt_set_ne [Inhabited α] [DecidableEq α] {k j : Nat} (h : j ≠ k) (v : α) (m : SMap α) :
    smAt j (smSet k v m) = smAt j m := smRead_put_ne _ h _ _

/-! ## Sparse tables: the canonical form -/

theorem smSorted_mono {a b : Nat} (h : a ≤ b) (m : SMap α) (hm : smSorted b m = true) : smSorted a m = true := by
  cases m with
  | nil => rfl
  | cons p m => simp [smSorted] at hm ⊢; exact ⟨by omega, hm.2⟩

theorem smSorted_erase (k lo : Nat) (m : SMap α) (h : smSorted lo m = true) :
    smSorted lo (smErase k m) = true := by
  induction m generalizing lo with
  | nil => rfl
  | cons p m ih =>
    obtain ⟨j, v⟩ := p
    simp [smSorted] at h
    simp only [smErase]
    split
    · exact ih _ (smSorted_mono (by omega) m h.2)
    · simp [smSorted, h.1, ih _ h.2]

theorem smSorted_insert (k lo : Nat) (v : α) (m : SMap α) (hk : lo ≤ k) (h : smSorted lo m = true) :
    smSorted lo (smInsert k v m) = true := by
  induction m generalizing lo with
  | nil => simp [smInsert, smSorted]; omega
  | cons p m ih =>
    obtain ⟨j, w⟩ := p
    simp [smSorted] at h
    simp only [smInsert]
    split
    · simp [smSorted, h.2]; omega
    · split
      · simp [smSorted]; subst_vars; exact ⟨by omega, h.2⟩
      · simp [smSorted, h.1]; exact ih (j + 1) (by omega) h.2

theorem smErase_all (q : Nat × α → Bool) (k : Nat) (m : SMap α) (h : m.all q = true) :
    (smErase k m).all q = true := by
  induction m with
  | nil => rfl
  | cons p m ih =>
    obtain ⟨j, v⟩ := p
    simp only [List.all_cons, Bool.and_eq_true] at h
    simp only [smErase]
    split
    · exact ih h.2
    · simp only [List.all_cons, Bool.and_eq_true]; exact ⟨h.1, ih h.2⟩

theorem smInsert_all (q : Nat × α → Bool) (k : Nat) (v : α) (m : SMap α) (hv : q (k, v) = true)
    (h : m.all q = true) : (smInsert k v m).all q = true := by
  induction m with
  | nil => simp [smInsert, hv]
  | cons p m ih =>
    obtain ⟨j, w⟩ := p
    have h' := h
    simp only [List.all_cons, Bool.and_eq_true] at h
    simp only [smInsert]
    split
    · simp only [List.all_cons, Bool.and_eq_true]; exact ⟨hv, h⟩
    · split
      · simp only [List.all_cons, Bool.and_eq_true]; exact ⟨hv, h.2⟩
      · simp only [List.all_cons, Bool.and_eq_true]; exact ⟨h.1, ih h.2⟩

/-- Every write keeps the canonical form. -/
theorem smWf_put [DecidableEq α] (d : Nat → α) (k : Nat) (v : α) (m : SMap α) (h : smWf d m = true) :
    smWf d (smPut d k v m) = true := by
  simp only [smWf, Bool.and_eq_true] at h ⊢
  rw [smPut_eq]
  split
  · exact ⟨smSorted_erase _ _ _ h.1, smErase_all _ _ _ h.2⟩
  · next hv => exact ⟨smSorted_insert _ _ _ _ (Nat.zero_le _) h.1, smInsert_all _ _ _ _ (by simpa using hv) h.2⟩

theorem smSorted_filter (q : Nat × α → Bool) (lo : Nat) (m : SMap α) (h : smSorted lo m = true) :
    smSorted lo (m.filter q) = true := by
  induction m generalizing lo with
  | nil => rfl
  | cons p m ih =>
    simp [smSorted] at h
    simp only [List.filter_cons]
    split
    · simp [smSorted, h.1, ih _ h.2]
    · exact ih _ (smSorted_mono (by omega) m h.2)

/-- Leaving out entries keeps the canonical form. -/
theorem smWf_filter [DecidableEq α] (d : Nat → α) (q : Nat × α → Bool) (m : SMap α) (h : smWf d m = true) :
    smWf d (m.filter q) = true := by
  simp only [smWf, Bool.and_eq_true, List.all_eq_true] at h ⊢
  exact ⟨smSorted_filter _ _ _ h.1, fun p hp => h.2 p ((List.mem_filter.mp hp).1)⟩

/-! ## Registers -/

variable (s : State)

/-- A register reads as it was written. -/
@[simp] theorem State.regAt_setRegAt_same (p o i : Nat) (v : Word) : (s.setRegAt p o i v).regAt p o i = v :=
  smRead_put_same _ _ _ _

/-- A write of a register leaves every other one alone. -/
theorem State.regAt_setRegAt_ne {p o i p' o' i' : Nat} (h : rkey p' o' i' ≠ rkey p o i) (v : Word) :
    (s.setRegAt p o i v).regAt p' o' i' = s.regAt p' o' i' := smRead_put_ne _ h _ _

/-- Registers have keys of their own: page, offset and instance can be read off a key. -/
theorem rkey_inj {p o i p' o' i' : Nat} (hp : p < 0x100) (ho : o < 0x1000) (hp' : p' < 0x100) (ho' : o' < 0x1000)
    (h : rkey p o i = rkey p' o' i') : p = p' ∧ o = o' ∧ i = i' := by
  unfold rkey at h; omega

theorem State.setRegAt_wf (p o i : Nat) (v : Word) (h : smWf resetOf s.regs = true) :
    smWf resetOf (s.setRegAt p o i v).regs = true := smWf_put _ _ _ _ h

/-! ## Memory -/

/-- A byte of memory outside the boot ROM reads as it was written. -/
theorem State.rdByte_wrByte_same (a : Nat) (b : Byte) (h : ¬(0xF800000000 ≤ a ∧ a < 0xF800040000)) :
    (s.wrByte a b).rdByte a = b := by
  unfold State.rdByte State.wrByte
  rw [if_neg h]
  exact smRead_put_same _ _ _ _

/-- A write of a byte leaves every other byte alone. -/
theorem State.rdByte_wrByte_ne {a a' : Nat} (h : a' ≠ a) (b : Byte) :
    (s.wrByte a b).rdByte a' = s.rdByte a' := by
  unfold State.rdByte State.wrByte
  split
  · rfl
  · exact smRead_put_ne _ h _ _

theorem State.wrByte_wf (a : Nat) (b : Byte) (h : Memory.wf s.mem = true) : Memory.wf (s.wrByte a b).mem = true :=
  smWf_put _ _ _ _ h

/-- Stored bytes leave every byte outside them alone. -/
theorem State.rdByte_wrBytes_ne (bs : List Byte) (s : State) {a a' : Nat} (h : a' < a ∨ a + bs.length ≤ a') :
    (s.wrBytes a bs).rdByte a' = s.rdByte a' := by
  induction bs generalizing s a with
  | nil => rfl
  | cons b bs ih =>
    simp only [List.length_cons] at h
    simp only [State.wrBytes]
    rw [ih _ (by omega), State.rdByte_wrByte_ne _ (by omega)]

theorem State.wrBytes_wf (bs : List Byte) (s : State) (a : Nat) (h : Memory.wf s.mem = true) :
    Memory.wf (s.wrBytes a bs).mem = true := by
  induction bs generalizing s a with
  | nil => exact h
  | cons b bs ih => exact ih _ _ (State.wrByte_wf _ _ _ h)

/-- Stored bytes read back, outside the boot ROM. -/
theorem State.rdBytes_wrBytes (bs : List Byte) (s : State) (a : Nat)
    (h : a + bs.length ≤ 0xF800000000 ∨ 0xF800040000 ≤ a) :
    (s.wrBytes a bs).rdBytes a bs.length = bs := by
  induction bs generalizing s a with
  | nil => rfl
  | cons b bs ih =>
    simp only [List.length_cons] at h
    simp only [State.wrBytes, State.rdBytes, List.length_cons]
    rw [State.rdByte_wrBytes_ne _ _ (by omega), State.rdByte_wrByte_same _ _ _ (by omega), ih _ _ (by omega)]

end Sys2Proof.Machine
end

