-- ==== Sys2Proof/Laws/Sound.lean ====
section
/-! SUPPORT. A state is sound for a queue: its registers and its memory are canonical, and the queue is as given.
One lemma says it of each shared operation. -/

namespace Sys2Proof.Machine

/-- The registers and the memory are in canonical form, and `q` waits. -/
structure Sound (q : List Instr) (s : State) : Prop where
  regs : smWf resetOf s.regs = true
  mem : Memory.wf s.mem = true
  pending : s.pending = q

/-- What a command answers is sound, when it goes on. -/
def OutSound (q : List Instr) : Host.Outcome State Fault Refusal → Prop
  | .next t => Sound q t
  | .fault _ => True
  | .refused _ => True

theorem OutSound.next {q s} (h : Sound q s) : OutSound q (.next s) := h
theorem OutSound.fault {q f} : OutSound q (.fault f) := trivial
theorem OutSound.refused {q r} : OutSound q (.refused r) := trivial

/-- A new state with the registers, memory and queue of a sound one is sound. -/
theorem Sound.record {q s} {a0 a1 a2 a3 a4 a5 a6 a7 a8 a9 a10 a11 a12 a13 a14 a15 a16 a17 a18 a19 a20 a21 a22
    a23 a24 a25 a26 a27 a28 a29 a30 a31 a32 a33 a34 a35 a36 a37 a38 a39 a40 a41 a42 a43 a44 a45 a46 a47 a48 a49
    a50 a51 a52 a53 a54 a55 a56 a57 a58 a59 a60} (h : Sound q s) (e1 : a1 = s.regs) (e2 : a8 = s.mem)
    (e3 : a0 = s.pending) :
    Sound q (State.mk a0 a1 a2 a3 a4 a5 a6 a7 a8 a9 a10 a11 a12 a13 a14 a15 a16 a17 a18 a19 a20 a21 a22 a23 a24 a25
      a26 a27 a28 a29 a30 a31 a32 a33 a34 a35 a36 a37 a38 a39 a40 a41 a42 a43 a44 a45 a46 a47 a48 a49 a50 a51
      a52 a53 a54 a55 a56 a57 a58 a59 a60) :=
  ⟨by subst e1; exact h.regs, by subst e2; exact h.mem, by subst e3; exact h.pending⟩

/-- The same, with new registers in canonical form. -/
theorem Sound.record_regs {q s} {a0 a1 a2 a3 a4 a5 a6 a7 a8 a9 a10 a11 a12 a13 a14 a15 a16 a17 a18 a19 a20 a21
    a22 a23 a24 a25 a26 a27 a28 a29 a30 a31 a32 a33 a34 a35 a36 a37 a38 a39 a40 a41 a42 a43 a44 a45 a46 a47 a48
    a49 a50 a51 a52 a53 a54 a55 a56 a57 a58 a59 a60} (h : Sound q s) (e1 : smWf resetOf a1 = true) (e2 : a8 = s.mem)
    (e3 : a0 = s.pending) :
    Sound q (State.mk a0 a1 a2 a3 a4 a5 a6 a7 a8 a9 a10 a11 a12 a13 a14 a15 a16 a17 a18 a19 a20 a21 a22 a23 a24 a25
      a26 a27 a28 a29 a30 a31 a32 a33 a34 a35 a36 a37 a38 a39 a40 a41 a42 a43 a44 a45 a46 a47 a48 a49 a50 a51
      a52 a53 a54 a55 a56 a57 a58 a59 a60) :=
  ⟨e1, by subst e2; exact h.mem, by subst e3; exact h.pending⟩

/-- The same, with new registers and a new memory in canonical form. -/
theorem Sound.record_both {q s} {a0 a1 a2 a3 a4 a5 a6 a7 a8 a9 a10 a11 a12 a13 a14 a15 a16 a17 a18 a19 a20 a21
    a22 a23 a24 a25 a26 a27 a28 a29 a30 a31 a32 a33 a34 a35 a36 a37 a38 a39 a40 a41 a42 a43 a44 a45 a46 a47 a48
    a49 a50 a51 a52 a53 a54 a55 a56 a57 a58 a59 a60} (h : Sound q s) (e1 : smWf resetOf a1 = true)
    (e2 : Memory.wf a8 = true) (e3 : a0 = s.pending) :
    Sound q (State.mk a0 a1 a2 a3 a4 a5 a6 a7 a8 a9 a10 a11 a12 a13 a14 a15 a16 a17 a18 a19 a20 a21 a22 a23 a24 a25
      a26 a27 a28 a29 a30 a31 a32 a33 a34 a35 a36 a37 a38 a39 a40 a41 a42 a43 a44 a45 a46 a47 a48 a49 a50 a51
      a52 a53 a54 a55 a56 a57 a58 a59 a60) :=
  ⟨e1, e2, by subst e3; exact h.pending⟩

/-- The accesses of blocks keep a state sound. -/
structure BusSound (q : List Instr) (bus : Bus) : Prop where
  read : ∀ m priv a n s, Sound q s → Sound q (bus.readAs m priv a n s).2.2
  write : ∀ m priv a bs s, Sound q s → Sound q (bus.writeAs m priv a bs s).2

theorem proj22 {q : List Instr} {α β : Type} (a : α) (b : β) (c : State) (h : Sound q c) :
    Sound q (a, b, c).2.2 := h

theorem foldl_sound {q} {β : Type} (f : State → β → State) (l : List β) (i : State)
    (hf : ∀ s x, Sound q s → Sound q (f s x)) (hi : Sound q i) : Sound q (l.foldl f i) := by
  induction l generalizing i with
  | nil => exact hi
  | cons x l ih => exact ih _ (hf _ _ hi)

theorem foldl_sound2 {q} {α β : Type} (f : α × State → β → α × State) (l : List β) (i : α × State)
    (hf : ∀ s x, Sound q s.2 → Sound q (f s x).2) (hi : Sound q i.2) : Sound q (l.foldl f i).2 := by
  induction l generalizing i with
  | nil => exact hi
  | cons x l ih => exact ih _ (hf _ _ hi)

theorem foldl_sound22 {q} {α γ β : Type} (f : α × γ × State → β → α × γ × State) (l : List β) (i : α × γ × State)
    (hf : ∀ s x, Sound q s.2.2 → Sound q (f s x).2.2) (hi : Sound q i.2.2) : Sound q (l.foldl f i).2.2 := by
  induction l generalizing i with
  | nil => exact hi
  | cons x l ih => exact ih _ (hf _ _ hi)

theorem foldl_sound222 {q} {α γ δ β : Type} (f : α × γ × δ × State → β → α × γ × δ × State) (l : List β)
    (i : α × γ × δ × State)
    (hf : ∀ s x, Sound q s.2.2.2 → Sound q (f s x).2.2.2) (hi : Sound q i.2.2.2) :
    Sound q (l.foldl f i).2.2.2 := by
  induction l generalizing i with
  | nil => exact hi
  | cons x l ih => exact ih _ (hf _ _ hi)

theorem foldl_sound1 {q} {α β : Type} (f : State × α → β → State × α) (l : List β) (i : State × α)
    (hf : ∀ s x, Sound q s.1 → Sound q (f s x).1) (hi : Sound q i.1) : Sound q (l.foldl f i).1 := by
  induction l generalizing i with
  | nil => exact hi
  | cons x l ih => exact ih _ (hf _ _ hi)

end Sys2Proof.Machine
end

