-- ==== Sys2Proof/Laws/SoundOps.lean ====
section
/-! SUPPORT. One lemma for each shared operation: what it leaves is sound when what it takes is sound, so that no proof
about commands unfolds it. -/

namespace Sys2Proof.Machine

/-! ## Registers, memory and responses -/

theorem State.setRegAt_sound {q : List Instr} (s) (page) (off) (idx) (v) (h_s : Sound q s) :
    Sound q (State.setRegAt s page off idx v) := by
  exact ⟨State.setRegAt_wf _ _ _ _ _ h_s.regs, h_s.mem, h_s.pending⟩

theorem State.setReg_sound {q : List Instr} (s) (page) (off) (v) (h_s : Sound q s) :
    Sound q (State.setReg s page off v) := by
  exact State.setRegAt_sound _ _ _ _ _ h_s

theorem State.setFldAt_sound {q : List Instr} (s) (page) (off) (idx) (hi) (lo) (v) (h_s : Sound q s) :
    Sound q (State.setFldAt s page off idx hi lo v) := by
  exact State.setRegAt_sound _ _ _ _ _ h_s

theorem State.setFld_sound {q : List Instr} (s) (page) (off) (hi) (lo) (v) (h_s : Sound q s) :
    Sound q (State.setFld s page off hi lo v) := by
  exact State.setFldAt_sound _ _ _ _ _ _ _ h_s

theorem State.bumpAt_sound {q : List Instr} (s) (page) (off) (idx) (n) (h_s : Sound q s) :
    Sound q (State.bumpAt s page off idx n) := by
  exact State.setRegAt_sound _ _ _ _ _ h_s

theorem State.bump_sound {q : List Instr} (s) (page) (off) (h_s : Sound q s) :
    Sound q (State.bump s page off) := by
  exact State.bumpAt_sound _ _ _ _ _ h_s

theorem State.bumpFldAt_sound {q : List Instr} (s) (page) (off) (idx) (hi) (lo) (n) (h_s : Sound q s) :
    Sound q (State.bumpFldAt s page off idx hi lo n) := by
  exact State.setFldAt_sound _ _ _ _ _ _ _ h_s

theorem State.setPairAt_sound {q : List Instr} (s) (page) (off) (idx) (v) (h_s : Sound q s) :
    Sound q (State.setPairAt s page off idx v) := by
  unfold State.setPairAt
  repeat' (first | assumption | with_reducible apply State.setRegAt_sound | split)

theorem State.clearPage_sound {q : List Instr} (s) (page) (keep) (h_s : Sound q s) :
    Sound q (State.clearPage s page keep) := by
  exact ⟨smWf_filter _ _ _ h_s.regs, h_s.mem, h_s.pending⟩

theorem State.respond_sound {q : List Instr} (s) (ok) (data) (h_s : Sound q s) :
    Sound q (State.respond s ok data) := by
  exact Sound.record h_s rfl rfl rfl

theorem State.emit_sound {q : List Instr} (s) (e) (h_s : Sound q s) :
    Sound q (State.emit s e) := by
  exact Sound.record h_s rfl rfl rfl

theorem State.recordErr_sound {q : List Instr} (s) (page) (code) (m) (addr) (h_s : Sound q s) :
    Sound q (State.recordErr s page code m addr) := by
  unfold State.recordErr
  try dsimp only
  repeat' (first | assumption | with_reducible apply State.setReg_sound | split)

theorem refuseWork_sound {q : List Instr} (page) (m) (s) (h_s : Sound q s) :
    Sound q (refuseWork page m s) := by
  unfold refuseWork
  repeat' (first | assumption | with_reducible apply State.recordErr_sound | split)

theorem State.takeFree_sound {q : List Instr} (s) (h_s : Sound q s) :
    Sound q (State.takeFree s).2 := by
  exact Sound.record h_s rfl rfl rfl

theorem State.takeBool_sound {q : List Instr} (s) (h_s : Sound q s) :
    Sound q (State.takeBool s).2 := by
  exact Sound.record h_s rfl rfl rfl

theorem State.takeBytes_sound {q : List Instr} (n) (s) (h_s : Sound q s) :
    Sound q (State.takeBytes n s).2 := by
  exact Sound.record h_s rfl rfl rfl

theorem State.wrByte_sound {q : List Instr} (s) (a) (b) (h_s : Sound q s) :
    Sound q (State.wrByte s a b) := by
  exact ⟨h_s.regs, State.wrByte_wf _ _ _ h_s.mem, h_s.pending⟩

theorem State.wrBytes_sound {q : List Instr} (s) (a) (a2) (h_s : Sound q s) :
    Sound q (State.wrBytes s a a2) := by
  revert h_s
  fun_induction State.wrBytes s a a2
  · intro h; exact h
  · rename_i ih; intro h; exact ih (State.wrByte_sound _ _ _ h)

theorem whenServed_sound {q : List Instr} (s) (t) (h_s : Sound q s) (h_t : Sound q t) :
    Sound q (whenServed s t) := by
  unfold whenServed
  repeat' (first | assumption | split)

theorem whenClocked_sound {q : List Instr} (s) (t) (h_s : Sound q s) (h_t : Sound q t) :
    Sound q (whenClocked s t) := by
  unfold whenClocked
  repeat' (first | assumption | split)

theorem whenAwake_sound {q : List Instr} (s) (t) (h_s : Sound q s) (h_t : Sound q t) :
    Sound q (whenAwake s t) := by
  unfold whenAwake
  repeat' (first | assumption | split)

theorem whenPixel_sound {q : List Instr} (s) (t) (h_s : Sound q s) (h_t : Sound q t) :
    Sound q (whenPixel s t) := by
  unfold whenPixel
  repeat' (first | assumption | split)

/-! ## Events -/

theorem setCnt_sound {q : List Instr} (src) (n) (s) (h_s : Sound q s) :
    Sound q (setCnt src n s) := by
  exact Sound.record h_s rfl rfl rfl

theorem setRaw_sound {q : List Instr} (page) (mask) (s) (h_s : Sound q s) :
    Sound q (setRaw page mask s).2 := by
  exact State.setReg_sound _ _ _ _ h_s

theorem countEvent_sound {q : List Instr} (src) (s) (h_s : Sound q s) :
    Sound q (countEvent src s).2 := by
  unfold countEvent
  try dsimp only
  repeat' (first | assumption | with_reducible apply setCnt_sound | with_reducible apply State.setReg_sound
                 | split)

theorem icEvent_sound {q : List Instr} (src) (s) (h_s : Sound q s) :
    Sound q (icEvent src s) := by
  unfold icEvent
  try dsimp only
  repeat' (first | assumption | with_reducible apply countEvent_sound | with_reducible apply setRaw_sound | split)

theorem heldRead_sound {q : List Instr} (page) (off) (val) (s) (h_val : ∀
    (z : Machine.State), Sound q z → Sound q (val z).2) (h_s : Sound q s) :
    Sound q (heldRead page off val s).2 := by
  unfold heldRead
  split
  · exact Sound.record h_s rfl rfl rfl
  · exact h_val _ h_s

theorem raise_sound {q : List Instr} (page) (mask) (s) (h_s : Sound q s) :
    Sound q (raise page mask s) := by
  unfold raise
  try dsimp only
  repeat' (first | assumption | with_reducible apply setRaw_sound | with_reducible apply icEvent_sound | split)

theorem raiseBit_sound {q : List Instr} (page) (i) (s) (h_s : Sound q s) :
    Sound q (raiseBit page i s) := by
  exact raise_sound _ _ _ h_s

theorem afterIrqEn_sound {q : List Instr} (page) (old) (s) (h_s : Sound q s) :
    Sound q (afterIrqEn page old s) := by
  unfold afterIrqEn
  try dsimp only
  repeat' (first | assumption | with_reducible apply icEvent_sound | split)

/-! ## Register commands -/

theorem refuse_sound {q : List Instr} (m) (page) (off) (code) (s) (h_s : Sound q s) :
    Sound q (refuse m page off code s) := by
  unfold refuse
  repeat' (first | assumption | with_reducible apply State.respond_sound
                 | with_reducible apply State.recordErr_sound | split)

theorem arrive_sound {q : List Instr} (x) (s) (h_s : Sound q s) :
    Sound q (arrive x s) := by
  unfold arrive
  repeat' (first | assumption | with_reducible apply foldl_sound | (intro _) | split
                 | with_reducible refine Sound.record ?_ rfl rfl rfl)

theorem drainOne_sound {q : List Instr} (page) (s) (h_s : Sound q s) :
    Sound q (drainOne page s) := by
  unfold drainOne
  repeat' (first | assumption | with_reducible apply arrive_sound | with_reducible apply foldl_sound | (intro _)
                 | split | with_reducible refine Sound.record ?_ rfl rfl rfl)

theorem drainN_sound {q : List Instr} (page) (a1) (a2) (h_a2 : Sound q a2) :
    Sound q (drainN page a1 a2) := by
  induction a1 generalizing a2 with
  | zero => simp only [drainN]; assumption
  | succ n ih =>
    unfold drainN
    try dsimp only
    repeat' (first | assumption | with_reducible apply ih | with_reducible apply drainOne_sound
                   | with_reducible apply foldl_sound | with_reducible apply foldl_sound2 | split | (intro _)
                   | with_reducible refine Sound.record ?_ rfl rfl rfl)

theorem cross_sound {q : List Instr} (page) (m) (words) (s) (h_s : Sound q s) :
    Sound q (cross page m words s) := by
  unfold cross
  repeat' (first | assumption | with_reducible apply drainOne_sound | with_reducible apply foldl_sound
                 | (intro _) | split | with_reducible refine Sound.record ?_ rfl rfl rfl)

theorem drainFor_sound {q : List Instr} (page) (m) (s) (h_s : Sound q s) :
    Sound q (drainFor page m s) := by
  exact drainN_sound _ _ _ h_s

theorem drainAll_sound {q : List Instr} (page) (s) (h_s : Sound q s) :
    Sound q (drainAll page s) := by
  exact drainN_sound _ _ _ h_s

theorem crossIf_sound {q : List Instr} (r) (page) (m) (words) (s) (h_s : Sound q s) :
    Sound q (crossIf r page m words s) := by
  unfold crossIf
  repeat' (first | assumption | with_reducible apply cross_sound | with_reducible apply drainAll_sound | split)

theorem storeReg_sound {q : List Instr} (m) (page) (off) (v) (s) (h_s : Sound q s) :
    Sound q (storeReg m page off v s) := by
  unfold storeReg
  repeat' (first | assumption | with_reducible apply crossIf_sound | with_reducible apply State.setRegAt_sound
                 | with_reducible apply foldl_sound | (intro _) | split
                 | with_reducible refine Sound.record ?_ rfl rfl rfl)

theorem regCommand_sound {q : List Instr} (m) (page) (off) (v) (check) (eff) (s) (h_eff : ∀
    (z : Machine.State), Sound q z → Sound q (eff z)) (h_s : Sound q s) :
    Sound q (regCommand m page off v check eff s) := by
  unfold regCommand
  repeat' (first | assumption | with_reducible apply refuse_sound | with_reducible apply State.respond_sound
                 | with_reducible apply storeReg_sound | with_reducible apply h_eff | split)

theorem readCommand_sound {q : List Instr} (m) (page) (off) (val) (s) (h_val : ∀
    (z : Machine.State), Sound q z → Sound q (val z).2) (h_s : Sound q s) :
    Sound q (readCommand m page off val s) := by
  unfold readCommand
  repeat' (first | assumption | with_reducible apply drainFor_sound | with_reducible apply State.respond_sound
                 | with_reducible apply State.recordErr_sound | with_reducible apply h_val | split)

theorem setShadow_sound {q : List Instr} (m) (page) (off) (idx) (v) (s) (h_s : Sound q s) :
    Sound q (setShadow m page off idx v s) := by
  exact Sound.record h_s rfl rfl rfl

theorem readShadow_sound {q : List Instr} (m) (page) (off) (idx) (live) (s) (h_s : Sound q s) :
    Sound q (readShadow m page off idx live s).2 := by
  unfold readShadow
  try dsimp only
  repeat' (first | assumption | with_reducible apply foldl_sound | (intro _) | split
                 | with_reducible refine Sound.record ?_ rfl rfl rfl)

theorem setShadows_sound {q : List Instr} (m) (page) (a2) (a3) (a4) (h_a4 : Sound q a4) :
    Sound q (setShadows m page a2 a3 a4) := by
  induction a3 generalizing a2 a4 with
  | nil => simp only [setShadows]; assumption
  | cons x l ih =>
    unfold setShadows
    try dsimp only
    repeat' (first | assumption | with_reducible apply ih | with_reducible apply setShadow_sound
                   | with_reducible apply foldl_sound | with_reducible apply foldl_sound2 | split | (intro _)
                   | with_reducible refine Sound.record ?_ rfl rfl rfl)

/-! ## Gates -/

theorem gateFault_sound {q : List Instr} (g) (m) (a) (reg) (reason) (kind) (priv) (whole) (s) (h_s : Sound q s) :
    Sound q (gateFault g m a reg reason kind priv whole s) := by
  unfold gateFault
  try dsimp only
  repeat' (first | assumption | with_reducible apply raiseBit_sound | with_reducible apply State.bump_sound
                 | with_reducible apply State.setReg_sound | split)

theorem gateCheck_sound {q : List Instr} (m) (priv) (kind) (a) (len) (s) (h_s : Sound q s) :
    Sound q (gateCheck m priv kind a len s).2 := by
  unfold gateCheck
  try dsimp only
  repeat' (first | assumption | with_reducible apply gateFault_sound | split)

theorem busErr_sound {q : List Instr} (k) (addr) (s) (h_s : Sound q s) :
    Sound q (busErr k addr s) := by
  unfold busErr
  repeat' (first | assumption | with_reducible apply icEvent_sound | with_reducible apply State.setReg_sound
                 | split)

theorem aerLog_sound {q : List Instr} (addr) (s) (h_s : Sound q s) :
    Sound q (aerLog addr s) := by
  exact Sound.record h_s rfl rfl rfl

theorem reportErr_sound {q : List Instr} (m) (kind) (a) (s) (h_s : Sound q s) :
    Sound q (reportErr m kind a s) := by
  unfold reportErr
  repeat' (first | assumption | with_reducible apply busErr_sound | with_reducible apply State.emit_sound
                 | with_reducible apply aerLog_sound | split)

theorem reported_sound {q : List Instr} (m) (kind) (a) (s) (h_s : Sound q s) :
    Sound q (reported m kind a s) := by
  unfold reported
  repeat' (first | assumption | with_reducible apply reportErr_sound | split)

theorem delivered_sound {q : List Instr} (was) (pos) (m) (kind) (a) (s) (h_s : Sound q s) :
    Sound q (delivered was pos m kind a s) := by
  unfold delivered
  repeat' (first | assumption | with_reducible apply reported_sound | with_reducible apply foldl_sound
                 | (intro _) | split | with_reducible refine Sound.record ?_ rfl rfl rfl)

theorem giveLate_sound {q : List Instr} (s) (l) (h_s : Sound q s) :
    Sound q (giveLate s l) := by
  unfold giveLate
  repeat' (first | assumption | with_reducible apply reported_sound | with_reducible apply State.emit_sound
                 | with_reducible refine Sound.record ?_ rfl rfl rfl | split)

theorem releaseLate_sound {q : List Instr} (m) (s) (h_s : Sound q s) :
    Sound q (releaseLate m s) := by
  unfold releaseLate
  repeat' (first | assumption | with_reducible apply giveLate_sound | with_reducible apply foldl_sound
                 | (intro _) | split | with_reducible refine Sound.record ?_ rfl rfl rfl)

theorem landed_sound {q : List Instr} (was) (id) (m) (kind) (a) (s) (h_s : Sound q s) :
    Sound q (landed was id m kind a s) := by
  unfold landed
  repeat' (first | assumption | with_reducible apply releaseLate_sound | with_reducible apply delivered_sound
                 | split)

theorem answer_sound {q : List Instr} (m) (kind) (a) (ok) (data) (s) (h_s : Sound q s) :
    Sound q (answer m kind a ok data s) := by
  unfold answer
  repeat' (first | assumption | with_reducible apply delivered_sound | with_reducible apply State.respond_sound
                 | split)

theorem settled_sound {q : List Instr} (m) (kind) (a) (f) (s) (h_f : ∀ (z : Machine.State), Sound q z → Sound q
    (f z)) (h_s : Sound q s) :
    Sound q (settled m kind a f s) := by
  unfold settled
  try dsimp only
  repeat' (first | assumption | with_reducible apply delivered_sound | with_reducible apply h_f | split)

theorem enterFlight_sound {q : List Instr} (m) (read) (a) (left) (ok) (s) (h_s : Sound q s) :
    Sound q (enterFlight m read a left ok s) := by
  exact Sound.record h_s rfl rfl rfl

theorem leaveFlight_sound {q : List Instr} (id) (s) (h_s : Sound q s) :
    Sound q (leaveFlight id s) := by
  exact Sound.record h_s rfl rfl rfl

theorem notIssued_sound {q : List Instr} (m) (s) (h_s : Sound q s) :
    Sound q (notIssued m s) := by
  unfold notIssued
  repeat' (first | assumption | with_reducible apply State.respond_sound | split)

theorem issueAt_sound {q : List Instr} (m) (priv) (kind) (a) (len) (f) (s) (h_f : ∀
    (z : Machine.State), Sound q z → Sound q (f z)) (h_s : Sound q s) :
    Sound q (issueAt m priv kind a len f s) := by
  unfold issueAt
  try dsimp only
  repeat' (first | assumption | with_reducible apply notIssued_sound | with_reducible apply gateCheck_sound
                 | with_reducible apply answer_sound | with_reducible apply settled_sound
                 | with_reducible apply h_f | split)

theorem issue_sound {q : List Instr} (m) (kind) (page) (off) (f) (s) (h_f : ∀
    (z : Machine.State), Sound q z → Sound q (f z)) (h_s : Sound q s) :
    Sound q (issue m kind page off f s) := by
  unfold issue
  repeat' (first | assumption | with_reducible apply issueAt_sound | with_reducible apply h_f | split)

theorem gteRefused_sound {q : List Instr} (page) (off) (v) (s) (h_s : Sound q s) :
    Sound q (gteRefused page off v s) := by
  unfold gteRefused
  repeat' (first | assumption | with_reducible apply raiseBit_sound | with_reducible apply State.setFld_sound
                 | split)

theorem gteEffect_sound {q : List Instr} (page) (off) (v) (s) (h_s : Sound q s) :
    Sound q (gteEffect page off v s) := by
  unfold gteEffect
  repeat' (first | assumption | with_reducible apply State.setReg_sound | split)

theorem gteWrite_sound {q : List Instr} (m) (page) (off) (v) (s) (h_s : Sound q s) :
    Sound q (gteWrite m page off v s) := by
  unfold gteWrite
  repeat' (first | assumption | with_reducible apply regCommand_sound | with_reducible apply gteEffect_sound
                 | with_reducible apply gteRefused_sound | split)

theorem execRegionEnable_sound {q : List Instr} (m) (g) (r) (ctrl) (s) (h_s : Sound q s) :
    OutSound q (execRegionEnable m g r ctrl s) := by
  unfold execRegionEnable
  try dsimp only
  repeat' (first | assumption | with_reducible apply issue_sound | with_reducible apply gteWrite_sound
                 | with_reducible apply OutSound.next | exact OutSound.refused
                 | with_reducible apply foldl_sound | with_reducible apply foldl_sound2
                 | with_reducible apply foldl_sound22 | with_reducible apply foldl_sound222
                 | with_reducible apply foldl_sound1 | (intro _) | rfl | split
                 | with_reducible refine Sound.record ?_ rfl rfl rfl)

theorem execGateLock_sound {q : List Instr} (m) (g) (s) (h_s : Sound q s) :
    OutSound q (execGateLock m g s) := by
  unfold execGateLock
  try dsimp only
  repeat' (first | assumption | with_reducible apply issue_sound | with_reducible apply gteWrite_sound
                 | with_reducible apply OutSound.next | exact OutSound.refused
                 | with_reducible apply foldl_sound | with_reducible apply foldl_sound2
                 | with_reducible apply foldl_sound22 | with_reducible apply foldl_sound222
                 | with_reducible apply foldl_sound1 | (intro _) | rfl | split
                 | with_reducible refine Sound.record ?_ rfl rfl rfl)

theorem execGateFaultClear_sound {q : List Instr} (m) (g) (s) (h_s : Sound q s) :
    OutSound q (execGateFaultClear m g s) := by
  unfold execGateFaultClear
  try dsimp only
  repeat' (first | assumption | with_reducible apply issue_sound | with_reducible apply gteWrite_sound
                 | with_reducible apply OutSound.next | exact OutSound.refused
                 | with_reducible apply foldl_sound | with_reducible apply foldl_sound2
                 | with_reducible apply foldl_sound22 | with_reducible apply foldl_sound222
                 | with_reducible apply foldl_sound1 | (intro _) | rfl | split
                 | with_reducible refine Sound.record ?_ rfl rfl rfl)

theorem drainAt_sound {q : List Instr} (m) (g) (a) (wide) (s) (h_s : Sound q s) :
    Sound q (drainAt m g a wide s) := by
  unfold drainAt
  repeat' (first | assumption | with_reducible apply State.respond_sound
                 | with_reducible apply State.recordErr_sound | with_reducible apply enterFlight_sound
                 | with_reducible apply foldl_sound | (intro _) | split
                 | with_reducible refine Sound.record ?_ rfl rfl rfl)

theorem execGateDrainRead_sound {q : List Instr} (m) (g) (s) (h_s : Sound q s) :
    OutSound q (execGateDrainRead m g s) := by
  unfold execGateDrainRead
  try dsimp only
  repeat' (first | assumption | with_reducible apply issue_sound | with_reducible apply drainAt_sound
                 | with_reducible apply OutSound.next | exact OutSound.refused
                 | with_reducible apply foldl_sound | with_reducible apply foldl_sound2
                 | with_reducible apply foldl_sound22 | with_reducible apply foldl_sound222
                 | with_reducible apply foldl_sound1 | (intro _) | rfl | split
                 | with_reducible refine Sound.record ?_ rfl rfl rfl)

theorem drainAnswer_sound {q : List Instr} (d) (s) (h_s : Sound q s) :
    Sound q (drainAnswer d s) := by
  unfold drainAnswer
  repeat' (first | assumption | with_reducible apply State.setFld_sound | with_reducible apply landed_sound
                 | with_reducible apply State.respond_sound | with_reducible apply leaveFlight_sound
                 | with_reducible refine Sound.record ?_ rfl rfl rfl | split)

theorem execGateDrainAnswer_sound {q : List Instr} (g) (s) (h_s : Sound q s) :
    OutSound q (execGateDrainAnswer g s) := by
  unfold execGateDrainAnswer
  try dsimp only
  repeat' (first | assumption | with_reducible apply whenServed_sound | with_reducible apply drainAnswer_sound
                 | with_reducible apply OutSound.next | exact OutSound.refused
                 | with_reducible apply foldl_sound | with_reducible apply foldl_sound2
                 | with_reducible apply foldl_sound22 | with_reducible apply foldl_sound222
                 | with_reducible apply foldl_sound1 | (intro _) | rfl | split
                 | with_reducible refine Sound.record ?_ rfl rfl rfl)

/-! ## Accesses of the engines -/

theorem poisonRead_sound {q : List Instr} (m) (line) (s) (h_s : Sound q s) :
    Sound q (poisonRead m line s) := by
  exact State.recordErr_sound _ _ _ _ _ h_s

theorem heldErr_sound {q : List Instr} (m) (line) (a) (s) (h_s : Sound q s) :
    Sound q (heldErr m line a s) := by
  exact State.recordErr_sound _ _ _ _ _ h_s

theorem dramReadPart_sound {q : List Instr} (m) (a) (len) (s) (h_s : Sound q s) :
    Sound q (dramReadPart m a len s).2.2 := by
  unfold dramReadPart
  repeat' (first | assumption | with_reducible apply heldErr_sound | with_reducible apply poisonRead_sound
                 | with_reducible apply foldl_sound | (intro _) | split
                 | with_reducible refine Sound.record ?_ rfl rfl rfl)

theorem breakResv_sound {q : List Instr} (m) (a) (len) (s) (h_s : Sound q s) :
    Sound q (breakResv m a len s) := by
  exact Sound.record h_s rfl rfl rfl

theorem dramWriteLines_sound {q : List Instr} (m) (a1) (a2) (h_a2 : Sound q a2) :
    Sound q (dramWriteLines m a1 a2).2 := by
  induction a1 generalizing a2 with
  | nil => exact h_a2
  | cons x l ih =>
    simp only [dramWriteLines]
    split
    · apply ih; apply heldErr_sound; assumption
    · split
      · apply ih; apply raiseBit_sound; apply State.recordErr_sound; assumption
      · split
        · apply ih; apply poisonRead_sound; assumption
        · apply ih
          apply breakResv_sound
          apply State.wrBytes_sound
          exact Sound.record h_a2 rfl rfl rfl

theorem mramDouble_sound {q : List Instr} (m) (w) (s) (h_s : Sound q s) :
    Sound q (mramDouble m w s).2.2 := by
  unfold mramDouble
  repeat' (first | assumption | with_reducible apply State.setReg_sound | with_reducible apply State.bump_sound
                 | with_reducible apply raiseBit_sound | with_reducible apply State.recordErr_sound | split)

theorem mramArray_sound {q : List Instr} (m) (w) (s) (h_s : Sound q s) :
    Sound q (mramArray m w s).2.2 := by
  unfold mramArray
  try dsimp only
  repeat' (first | assumption | with_reducible apply State.takeBool_sound
                 | with_reducible apply mramDouble_sound | with_reducible apply State.takeFree_sound | split)

theorem mramWord_sound {q : List Instr} (m) (w) (s) (h_s : Sound q s) :
    Sound q (mramWord m w s).2.2 := by
  unfold mramWord
  try dsimp only
  repeat' (first | assumption | with_reducible apply mramArray_sound | with_reducible apply mramDouble_sound
                 | split)

theorem spoilWord_sound {q : List Instr} (m) (w) (s) (h_s : Sound q s) :
    Sound q (spoilWord m w s) := by
  unfold spoilWord
  repeat' (first | assumption | with_reducible apply foldl_sound | (intro _) | split
                 | with_reducible refine Sound.record ?_ rfl rfl rfl)

theorem mramWords_sound {q : List Instr} (m) (a1) (a2) (h_a2 : Sound q a2) :
    Sound q (mramWords m a1 a2).2.2 := by
  induction a1 generalizing a2 with
  | nil => simp only [mramWords]; assumption
  | cons x l ih =>
    unfold mramWords
    try dsimp only
    repeat' (first | assumption | with_reducible apply ih | with_reducible apply mramWord_sound
                   | with_reducible apply foldl_sound | with_reducible apply foldl_sound2 | split | (intro _)
                   | with_reducible refine Sound.record ?_ rfl rfl rfl)

theorem mramReadPart_sound {q : List Instr} (m) (a) (len) (s) (h_s : Sound q s) :
    Sound q (mramReadPart m a len s).2.2 := by
  unfold mramReadPart
  exact proj22 _ _ _ (mramWords_sound m _ s h_s)

theorem mramWritePart_sound {q : List Instr} (m) (a) (bs) (s) (h_s : Sound q s) :
    Sound q (mramWritePart m a bs s) := by
  exact Sound.record h_s rfl rfl rfl

theorem openWrite_sound {q : List Instr} (m) (a) (len) (ok) (s) (h_s : Sound q s) :
    Sound q (openWrite m a len ok s) := by
  unfold openWrite
  repeat' (first | assumption | with_reducible apply enterFlight_sound | split)

theorem dmaWriteFailed_sound {q : List Instr} (x) (s) (h_s : Sound q s) :
    Sound q (dmaWriteFailed x s) := by
  exact Sound.record h_s rfl rfl rfl

theorem writeDone_sound {q : List Instr} (x) (s) (h_s : Sound q s) :
    Sound q (writeDone x s) := by
  unfold writeDone
  repeat' (first | assumption | with_reducible apply landed_sound | with_reducible apply State.respond_sound
                 | with_reducible apply dmaWriteFailed_sound | split)

theorem finishPart_sound {q : List Instr} (id) (good) (s) (h_s : Sound q s) :
    Sound q (finishPart id good s) := by
  unfold finishPart
  repeat' (first | assumption | with_reducible apply writeDone_sound | with_reducible apply leaveFlight_sound
                 | with_reducible apply foldl_sound | (intro _) | split
                 | with_reducible refine Sound.record ?_ rfl rfl rfl)

theorem unmappedErr_sound {q : List Instr} (m) (a) (s) (h_s : Sound q s) :
    Sound q (unmappedErr m a s) := by
  exact State.recordErr_sound _ _ _ _ _ h_s

theorem recordUnanswered_sound {q : List Instr} (m) (write) (ps) (s) (h_s : Sound q s) :
    Sound q (recordUnanswered m write ps s) := by
  unfold recordUnanswered
  repeat' (first | assumption | with_reducible apply unmappedErr_sound | split)

theorem readPart_sound {q : List Instr} (m) (a) (len) (s) (h_s : Sound q s) :
    Sound q (readPart m a len s).2.2 := by
  unfold readPart
  repeat' (first | assumption | with_reducible apply dramReadPart_sound
                 | with_reducible apply State.recordErr_sound | with_reducible apply mramReadPart_sound
                 | with_reducible apply drainFor_sound | split)

theorem writePart_sound {q : List Instr} (m) (a) (bs) (s) (h_s : Sound q s) :
    Sound q (writePart m a bs s).2 := by
  unfold writePart
  repeat' (first | assumption | with_reducible apply dramWriteLines_sound | with_reducible apply breakResv_sound
                 | with_reducible apply State.wrBytes_sound | with_reducible apply State.recordErr_sound
                 | with_reducible apply mramWritePart_sound | split)

theorem Bus.read_sound {q : List Instr} (bus) (m) (a) (len) (s) (h_bus : BusSound q bus) (h_s : Sound q s) :
    Sound q (Bus.read bus m a len s).2.2 := by
  unfold Bus.read
  try dsimp only
  repeat' (first | assumption  | with_reducible apply h_bus.read | with_reducible apply h_bus.write
                 | with_reducible apply OutSound.next | exact OutSound.refused
                 | with_reducible apply foldl_sound | with_reducible apply foldl_sound2
                 | with_reducible apply foldl_sound22 | with_reducible apply foldl_sound222
                 | with_reducible apply foldl_sound1 | (intro _) | rfl | split
                 | with_reducible refine Sound.record ?_ rfl rfl rfl)

theorem Bus.write_sound {q : List Instr} (bus) (m) (a) (bs) (s) (h_bus : BusSound q bus) (h_s : Sound q s) :
    Sound q (Bus.write bus m a bs s).2 := by
  unfold Bus.write
  try dsimp only
  repeat' (first | assumption  | with_reducible apply h_bus.read | with_reducible apply h_bus.write
                 | with_reducible apply OutSound.next | exact OutSound.refused
                 | with_reducible apply foldl_sound | with_reducible apply foldl_sound2
                 | with_reducible apply foldl_sound22 | with_reducible apply foldl_sound222
                 | with_reducible apply foldl_sound1 | (intro _) | rfl | split
                 | with_reducible refine Sound.record ?_ rfl rfl rfl)

end Sys2Proof.Machine
end

