-- ==== Sys2Proof/Laws/Access.lean ====
section
/-! SUPPORT. What the shared operations of a register command can do: its cases, the error registers, the events,
and the parts of the state that they leave alone. -/

namespace Sys2Proof.Machine

variable {s : State} {m : Master} {page off : Nat} {v : Word} {check : State → Verdict} {eff : State → State}

/-! ## The cases of a register write -/

theorem regCommand_refused {c : Nat} (h : admitWrite m page off v s = some c) :
    regCommand m page off v check eff s = refuse m page off c s := by
  simp only [regCommand, h]

theorem regCommand_checked {c : Nat} (h : admitWrite m page off v s = none) (hc : check s = .err c) :
    regCommand m page off v check eff s = refuse m page off c s := by
  simp only [regCommand, h, hc]

theorem regCommand_dropped (h : admitWrite m page off v s = none) (hc : check s = .drop) :
    regCommand m page off v check eff s = s.respond true 0 := by
  simp only [regCommand, h, hc]

theorem regCommand_stored (h : admitWrite m page off v s = none) (hc : check s = .ok) :
    regCommand m page off v check eff s = (eff (storeReg m page off v s)).respond true 0 := by
  simp only [regCommand, h, hc]

/-- A register write refuses, is dropped, or stores its value and has its effect. -/
theorem regCommand_cases (m : Master) (page off : Nat) (v : Word) (check : State → Verdict) (eff : State → State)
    (s : State) :
    (∃ c, regCommand m page off v check eff s = refuse m page off c s)
      ∨ regCommand m page off v check eff s = s.respond true 0
      ∨ (admitWrite m page off v s = none ∧ check s = .ok
          ∧ regCommand m page off v check eff s = (eff (storeReg m page off v s)).respond true 0) := by
  cases h : admitWrite m page off v s with
  | some c => exact .inl ⟨c, regCommand_refused h⟩
  | none =>
    cases hc : check s with
    | ok => exact .inr (.inr ⟨rfl, rfl, regCommand_stored h hc⟩)
    | drop => exact .inr (.inl (regCommand_dropped h hc))
    | err c => exact .inl ⟨c, regCommand_checked h hc⟩

/-! ## The cases of a register read -/

theorem readCommand_refused {c : Nat} {val : State → Word × State} (h : admitRead page off s = some c) :
    readCommand m page off val s
      = ((drainFor (canonPage page off) (masterId m) s).recordErr page c (masterId m) (pageAddr page off)).respond
          false 0 := by
  simp only [readCommand, h]

theorem readCommand_answered {val : State → Word × State} (h : admitRead page off s = none) :
    readCommand m page off val s
      = (val (drainFor (canonPage page off) (masterId m) s)).2.respond true
          (val (drainFor (canonPage page off) (masterId m) s)).1.toNat := by
  simp only [readCommand, h]

/-- A shadow answers once; without one the live value is read. -/
theorem readShadow_cases (m : Master) (page off idx : Nat) (live : Word) (s : State) :
    (∃ w, smGet (shadowKey (masterId m) (rkey page off idx)) s.shadow = some w
        ∧ readShadow m page off idx live s
            = (w, { s with shadow := smErase (shadowKey (masterId m) (rkey page off idx)) s.shadow }))
      ∨ (smGet (shadowKey (masterId m) (rkey page off idx)) s.shadow = none
        ∧ readShadow m page off idx live s = (live, s)) := by
  unfold readShadow
  dsimp only
  cases smGet (shadowKey (masterId m) (rkey page off idx)) s.shadow with
  | none => exact .inr ⟨rfl, rfl⟩
  | some w => exact .inl ⟨w, rfl, rfl⟩

/-! ## What errors and events leave alone: they write registers and event counters only -/

/-- `t` is `s` but for registers and the counters of events. -/
def EventOnly (s t : State) : Prop := ∃ r i, t = { s with regs := r, ic := i }

theorem EventOnly.refl (s : State) : EventOnly s s := ⟨_, _, rfl⟩

theorem EventOnly.trans {s t u : State} : EventOnly s t → EventOnly t u → EventOnly s u := by
  rintro ⟨_, _, rfl⟩ ⟨r, i, rfl⟩
  exact ⟨r, i, rfl⟩

theorem recordErr_frame (page code k a : Nat) (s : State) : EventOnly s (s.recordErr page code k a) := by
  unfold State.recordErr
  dsimp only
  split <;> exact ⟨_, _, rfl⟩

theorem setRaw_frame (page : Nat) (mask : Word) (s : State) : EventOnly s (setRaw page mask s).2 := ⟨_, _, rfl⟩

theorem countEvent_frame (src : Nat) (s : State) : EventOnly s (countEvent src s).2 := by
  unfold countEvent
  dsimp only
  split <;> exact ⟨_, _, rfl⟩

theorem icEvent_frame (src : Nat) (s : State) : EventOnly s (icEvent src s) := by
  unfold icEvent
  dsimp only
  split
  · split
    · split
      · exact (((countEvent_frame _ _).trans (setRaw_frame _ _ _)).trans (countEvent_frame _ _)).trans
          (setRaw_frame _ _ _)
      · exact ((countEvent_frame _ _).trans (setRaw_frame _ _ _)).trans (countEvent_frame _ _)
    · exact (countEvent_frame _ _).trans (setRaw_frame _ _ _)
  · exact countEvent_frame _ _

theorem raise_frame (page : Nat) (mask : Word) (s : State) : EventOnly s (raise page mask s) := by
  unfold raise
  dsimp only
  split
  · exact EventOnly.refl _
  · split
    · exact (setRaw_frame _ _ _).trans (icEvent_frame _ _)
    · exact setRaw_frame _ _ _

theorem refuse_frame (m : Master) (page off code : Nat) (s : State) :
    ∃ r i p, refuse m page off code s = { s with regs := r, ic := i, resp := p } := by
  obtain ⟨r, i, h⟩ := recordErr_frame page code (masterId m) (pageAddr page off) s
  exact ⟨r, i, _, by unfold refuse; rw [h]; rfl⟩

@[simp] theorem raise_mem (page : Nat) (mask : Word) (s : State) : (raise page mask s).mem = s.mem := by
  obtain ⟨r, i, h⟩ := raise_frame page mask s
  rw [h]

@[simp] theorem raiseBit_mem (page i : Nat) (s : State) : (raiseBit page i s).mem = s.mem := raise_mem ..

@[simp] theorem refuse_mem (m : Master) (page off code : Nat) (s : State) : (refuse m page off code s).mem = s.mem := by
  obtain ⟨r, i, p, h⟩ := refuse_frame m page off code s
  rw [h]

/-! ## The issue of an access -/

/-- A gate that faults no part of an access changes nothing. -/
theorem gateCheck_clean {priv : Bool} {kind : AccKind} {a len : Nat}
    (h : (gateCheck m priv kind a len s).1.faulted = false) :
    gateCheck m priv kind a len s = (⟨parts a len, false⟩, s) := by
  revert h
  unfold gateCheck
  dsimp only
  split
  · exact fun _ => rfl
  · split
    · exact fun _ => rfl
    · split
      · exact fun h => Bool.noConfusion h
      · split
        · exact fun _ => rfl
        · exact fun h => Bool.noConfusion h

/-- The three things that the issue of an access can be: nothing, a fault of the gate, or what the access does once it
is admitted, answered in its turn. -/
theorem issueAt_cases (m : Master) (priv : Bool) (kind : AccKind) (a len : Nat) (f : State → State) (s : State) :
    (mayIssue m s = false ∧ issueAt m priv kind a len f s = notIssued m s)
      ∨ (mayIssue m s = true ∧ (gateCheck m (fixedPriv m priv) kind a len s).1.faulted = true
        ∧ issueAt m priv kind a len f s = answer m kind a false 0 (gateCheck m (fixedPriv m priv) kind a len s).2)
      ∨ (reachesAt m priv kind a len s = true
        ∧ issueAt m priv kind a len f s = settled m kind a f s) := by
  cases hm : mayIssue m s with
  | false => exact .inl ⟨rfl, by simp [issueAt, hm]⟩
  | true =>
    cases hf : (gateCheck m (fixedPriv m priv) kind a len s).1.faulted with
    | true => exact .inr (.inl ⟨rfl, rfl, by simp [issueAt, hm, hf]⟩)
    | false =>
      have hc := gateCheck_clean hf
      exact .inr (.inr ⟨by simp [reachesAt, hm, hf], by simp [issueAt, hm, hc]⟩)

/-- An access that its gate admits. -/
theorem issueAt_admitted {priv : Bool} {kind : AccKind} {a len : Nat} {f : State → State}
    (h : reachesAt m priv kind a len s = true) :
    issueAt m priv kind a len f s = settled m kind a f s := by
  rcases issueAt_cases m priv kind a len f s with ⟨hm, _⟩ | ⟨_, hf, _⟩ | ⟨_, he⟩
  · simp [reachesAt, hm] at h
  · simp [reachesAt, hf] at h
  · exact he

/-! ## The error registers (R18) -/

/-- A later error of a page only counts. -/
theorem recordErr_later {code k a : Nat} (h : fld (s.reg page 0x01C) 31 24 ≠ 0) :
    s.recordErr page code k a
      = s.setReg page 0x01C (putFld (s.reg page 0x01C) 31 24 (min (fld (s.reg page 0x01C) 31 24 + 1) 255)) := by
  unfold State.recordErr
  dsimp only
  rw [if_neg h]

end Sys2Proof.Machine
end

