-- ==== Sys2Proof/Laws/Own.lean ====
section
/-! SUPPORT. What the accesses that a block makes by itself can do, where nothing waits and where the block is kept to memory. -/

namespace Sys2Proof.Machine

variable {s : State} {m : Master} {priv : Bool} {a len : Nat}

/-- Where nothing waits, no access waits. -/
theorem noneWaits.mustWait (h : noneWaits s) : mustWait m a len s = false := by
  obtain ⟨behind, channels⟩ := h
  simp [Sys2Proof.Machine.mustWait, behind, channels]

/-- Where nothing waits, a block's access is carried out at once. -/
theorem noneWaits.settle (h : noneWaits s) (bus : Bus) : settle bus m a len s = s := by
  simp [Sys2Proof.Machine.settle, settleFor, h.mustWait]

/-- A block kept to memory reads no register: its gate admits no part of an access there. -/
theorem keptToMemory.refused (h : keptToMemory m s) (kind : AccKind) (part : Nat × Nat) (regs : region part.1 = .regs) :
    part ∉ (gateCheck m priv kind a len s).1.admitted := by
  obtain ⟨g, gate, on, refused⟩ := h
  have bad := refused part.1 kind priv regs
  unfold gateCheck
  simp only [gate, on]
  intro hp
  split at hp
  · simp at *
  · split at hp
    · simp at hp
    · split at hp
      · next none =>
        have := List.filterMap_eq_nil_iff.1 none part hp
        revert this bad
        cases judgePart g part.1 kind priv s with
        | mk r _ => cases r <;> simp
      · split at hp
        · simp at hp
        · have := (List.mem_filter.1 hp).2
          revert this bad
          cases (judgePart g part.1 kind priv s).1 <;> simp

end Sys2Proof.Machine
end

