-- ==== Sys2Proof/Machine/Pins.lean ====
section
/-! DEFINITION. What drives the pins whose state the device's state decides (R95, R119, R220, R292, R392, R437, R461,
R466 to R468, R475). -/

namespace Sys2Proof.Machine

/-- What is on a pin: an input or nothing driven, a driven level, the signal of its interface, the waveform of a self
measurement, an electrode between and in its conversions, for which the manual gives no level, or electrical idle. -/
inductive Drive where
  | input | highZ | low | high | signal | waveform | electrode | idle
  deriving DecidableEq, Repr

def driveLevel (on : Bool) : Drive := if on then .high else .low

/-- The states BOOT, RUN and WITHDRAWN, outside reset: the third column of R475. -/
def drivesPins (s : State) : Bool :=
  !s.pwr.inReset && (s.dev = devBoot || s.dev = devRun || s.dev = devWithdrawn)

/-- A trigger output that drives: its active level while a pulse is driven, else the inactive one (R95). -/
def trigDrive (u : Nat) (s : State) : Drive :=
  if s.rb pTtu (ttuOff u 0) 2 then driveLevel (s.rb pTtu (ttuOff u 4) 0 == s.rb pTtu (ttuOff u 0) 3) else .highZ

/-- A diagnostic run is under way: one asked for during a scan starts after it (R406). -/
def diagRunning (s : State) : Bool := s.rb pTch 0x040 2 && !s.tch.running

/-- Self conversions are under way: they come first in a scan, those of its own set, and first in a diagnostic run, 32 pins
at a time of those that have a mode (R393, R404, R406). (DESIGN CHOICE: log entry 91) -/
def selfConverting (s : State) : Bool :=
  (s.tch.running && 2 * s.clk < 2 * s.tch.began + convNs (if s.tch.watch then watchSelf s else selfConversions s) s)
    || (diagRunning s
      && 2 * s.clk < 2 * s.tch.diagAt + convNs (roundUp (96 - (pinsOf 0 s).length) 32) s)

/-- What drives a touch pin in the states in which TCH drives it (R392); the later steps of a diagnostic run pull or drive
every pin that has a mode (R406). -/
def tsDrive (p : Nat) (s : State) : Drive :=
  match pinMode p s with
  | 0 => .low
  | 6 => if selfConverting s then .waveform else if diagRunning s then .electrode else .low
  | _ => .electrode

/-- The 10 ms after a wake from WATCH in which WAKE is driven low (R441). -/
def waking (s : State) : Bool :=
  match s.pwr.wokeAt with
  | some t => s.clk < t + 5000000
  | none => false

/-- The main link of an output carries training patterns, the idle pattern or video (R220, R241, R244).
(DESIGN CHOICE: log entry 91) -/
def mainLink (n : Nat) (s : State) : Bool :=
  s.dev = devRun && s.enabled (pOut n) && s.rb (pOut n) 0x098 0 && (s.rb (pOut n) 0x09C 0 || s.rb (pOut n) 0x09C 1)

/-- What is on a SerDes transmitter: high impedance in reset, electrical idle while its link is off (R475).
(DESIGN CHOICE: log entry 91) -/
def txDrive (on : Bool) (s : State) : Drive :=
  if s.pwr.inReset then .highZ else if drivesPins s && on then .signal else .idle

/-- What drives a pin outside EXTEST (R475), between frames on the tendril. -/
def ownDrive (p : Pin) (s : State) : Drive :=
  match p with
  | .outHpd _ | .tetherRx | .resetN | .bootXspi | .trstN | .alertN _ _ => .input
  | .ts p => if drivesPins s || (!s.pwr.inReset && s.dev = devWatch) then tsDrive p.val s else .highZ
  | .outAux n => if drivesPins s && s.enabled (pOut n.val) && s.rb (pOut n.val) 0x098 0 then .signal else .highZ
  | .outTx n => txDrive (mainLink n.val s) s
  | .ngTx p => txDrive (s.enabled (pNg p.val) && s.rb (pNg p.val) 0x040 0) s
  | .ethTx p => txDrive (s.enabled (pEth p.val)) s
  | .pcieTx => txDrive (s.enabled pPci && s.rb pPci 0x054 0 && !s.pins.perstLow && s.pci.link ≠ 2) s
  | .dpiAux p => if drivesPins s && s.rb (pDpi p.val) 0x040 1 then .signal else .highZ
  | .xspiCsN => if drivesPins s then .high else .highZ
  | .uartTx u =>
    if !drivesPins s then .highZ else if (smAt u.val s.uart).tx.isEmpty then .high else .signal
  | .i2c i => if drivesPins s && i2cBusy i.val s then .signal else .highZ
  | .rgmiiTxCtl => if drivesPins s then .signal else .highZ
  | .mgeMdio => if drivesPins s && mdioBusy s then .signal else .highZ
  | .withdrawnN =>
    if s.pwr.inReset then .highZ else driveLevel (withdrawnN s)
  | .wake =>
    if s.pwr.inReset then .highZ
    else if s.dev = devWatch then .input
    else if drivesPins s && (s.pwr.wakeLow || waking s) then .low else .highZ
  | .dpiHpd n =>
    if drivesPins s then driveLevel (s.rb (pDpi n.val) 0x040 0 && !dpiPulsing n.val s) else .highZ
  | .trig u => if drivesPins s then trigDrive u.val s else .highZ
  | .tetherTx => if drivesPins s then .low else .highZ
  | .gpio i =>
    if drivesPins s && s.rb pMge 0x300 i.val then driveLevel (s.rb pMge 0x304 i.val) else .highZ
  | .xspiResetN => if drivesPins s then .high else .highZ
  | .dmcResetN n =>
    if drivesPins s || (!s.pwr.inReset && s.dev = devWatch) then
      driveLevel (dmcState n.val s ≠ 0 && (dmcState n.val s ≠ dmcInitSt || (smAt n.val s.dmc).initAt + 500000 ≤ s.clk))
    else .highZ

/-- What drives a pin: in TEST what EXTEST drives on it, else what the device does (R469, R475).
(DESIGN CHOICE: log entry 91) -/
def pinDrive (p : Pin) (s : State) : Drive :=
  match if jtagOffers .extest s then s.jtag.extest.find? (·.1 = p) else none with
  | some e => driveLevel e.2
  | none => ownDrive p s

end Sys2Proof.Machine
end

