-- ==== Sys2Proof/Tests/Slice0.lean ====
section
/-! SUPPORT. Tests of single definitions, the refusals of WellFormed, and for every obligation with hypotheses a
theorem that shows a state and operands which meet them, clause by clause. -/

namespace Sys2Proof.Tests

open Sys2Proof.Machine

/-- The state after reset with every processor released and some registers at other values: page, offset, instance,
value. -/
def withRegs (rs : List (Nat × Nat × Nat × Word)) : State :=
  { State.reset with
    bst := { State.reset.bst with group := 3 }
    regs := ((0, 0x044, 0, 0xFF00) :: rs).foldl (fun m r => smInsert (rkey r.1 r.2.1 r.2.2.1) r.2.2.2 m) [] }

/-- The state after reset with every processor released. -/
def ready : State := withRegs []

/-- A frame of EtherType 0x88B5 with two bytes of payload. -/
def aFrame : EthFrame := { bytes := [0, 0, 0, 0, 0, 1, 0, 0, 0, 0, 0, 2, 0x88, 0xB5, 1, 2] }

/-- Nothing waits and no memory channel repeats a read. -/
theorem noneWaits_of {s : State} (waits : s.behind = []) (channels : s.dmc = []) : noneWaits s := by
  refine ⟨waits, fun n => ?_⟩
  rw [channels]
  rfl

/-- A gate without regions and without the default map refuses every access to registers. -/
theorem keptToMemory_of {m : Master} {g : Nat} {s : State} (gate : gateOf m = some g) (on : s.enabled (8 + g) = true)
    (regions : ∀ r, r < 16 → s.rb (8 + g) (0x108 + 0x10 * r) 0 = false) (map : s.rb (8 + g) 0x040 1 = false) :
    keptToMemory m s := by
  refine ⟨g, gate, on, fun a kind priv _ => ?_⟩
  have none : gateRegion g (a / 0x1000) s = none := by
    rw [gateRegion, List.find?_eq_none]
    intro r hr
    rw [regions r (List.mem_range.1 hr)]
    exact Bool.false_ne_true
  unfold judgePart
  rw [none]
  dsimp only
  rw [map]
  cases priv <;> rfl

/-- Registers that enable gates without regions and without the default map. -/
def closed (gates : List Nat) : List (Nat × Nat × Nat × Word) :=
  gates.flatMap fun g => [(8 + g, 0x008, 0, 1), (8 + g, 0x040, 0, 0)]

/-- A span that begins and ends in the DRAM area, or in system SRAM, lies in memory. -/
theorem inMemory_of {a len : Nat}
    (span : a + len ≤ 0xC000000000 ∨ 0xF000000000 ≤ a ∧ a + len ≤ 0xF001800000) : inMemory a len := by
  intro i hi
  rcases span with h | h
  · exact .inl (by rw [region, if_pos (by omega)])
  · exact .inr (by rw [region, if_neg (by omega), if_pos (by omega)])

def aFlit (type : Nat) : Flit := { type }

/-! ## Commands whose operands lack their shape (one for each check of WellFormed) -/

theorem test_illformed_access_size :
    (Instr.registerWrite (.gp 0) true 0xFE00000000 3 0).wellFormed = false := by decide
theorem test_illformed_empty_access :
    (Instr.fabricAccess (.gp 0) true 0xF000000000 (.read 0)).wellFormed = false
      ∧ (Instr.fabricAccess (.gp 0) true 0xF000000000 (.fetch 0)).wellFormed = false
      ∧ (Instr.fabricAccess (.gp 0) true 0xF000000000 (.write [])).wellFormed = false := by decide
theorem test_illformed_atomic_size :
    (Instr.fabricAccess (.gp 0) true 0xF000000000 (.atomic .add [1])).wellFormed = false := by decide
theorem test_illformed_write_back :
    (Instr.fabricAccess (.gp 0) true 0xF000000000 (.writeBack (List.replicate 64 0) [true])).wellFormed = false
      ∧ (Instr.fabricAccess (.apc 0) true 0xF000000004 (.writeBack (List.replicate 64 0) [true])).wellFormed = false
      ∧ (Instr.fabricAccess (.apc 0) true 0xF000000000 (.writeBack [] [true])).wellFormed = false
      ∧ (Instr.fabricAccess (.apc 0) true 0xF000000000 (.writeBack (List.replicate 64 0) [])).wellFormed = false := by decide
theorem test_illformed_line :
    (Instr.dramWrite (.gp 0) true 0 [1]).wellFormed = false := by decide
theorem test_illformed_partial_line :
    (Instr.dramPartialWrite (.gp 0) true 60 [1, 2, 3, 4, 5] []).wellFormed = false
      ∧ (Instr.dramPartialWrite (.gp 0) true 0 [] []).wellFormed = false := by decide
theorem test_illformed_host_access :
    (Instr.hostBarAccess .bar0 0 (.fetch 4)).wellFormed = false
      ∧ (Instr.hostBarAccess .bar0 0 (.atomic .add [1, 2, 3, 4])).wellFormed = false
      ∧ (Instr.hostBarAccess .bar0 0 (.read 0)).wellFormed = false := by decide
theorem test_illformed_host_command :
    (Instr.pciCmdFetch 0 (.data [1])).wellFormed = false := by decide
theorem test_illformed_flits :
    (Instr.trainFlitReceive 0 (aFlit 0)).wellFormed = false
      ∧ (Instr.idleFlitReceive 0 (aFlit 1)).wellFormed = false
      ∧ (Instr.linkAckReceive 0 (aFlit 2)).wellFormed = false
      ∧ (Instr.linkNakReceive 0 (aFlit 0x10)).wellFormed = false
      ∧ (Instr.picStartReceive 0 (aFlit 0x11)).wellFormed = false
      ∧ (Instr.picDataReceive 0 (aFlit 0x12)).wellFormed = false
      ∧ (Instr.picEndReceive 0 (aFlit 0x20)).wellFormed = false := by decide
theorem test_reserved_flit_type_is_a_command : (Instr.idleFlitReceive 0 (aFlit 0x55)).wellFormed = true := by decide

/-! ## Architecture -/

theorem witness_StepRunsFrontCommand : ({ ready with pending := [.slewDone] } : State).pending = .slewDone :: [] :=
  rfl
theorem witness_IdleStepTicks :
    ready.pending = [] ∧ ready.pwr.inReset = false ∧ ready.dev ≠ devWatch
      ∧ ({ ready with pwr := { inReset := true } } : State).pwr.inReset = true
      ∧ (withRegs [(0, 0x040, 0, 1)]).dev = devWatch ∧ (withRegs [(0, 0x040, 0, 1)]).pwr.inReset = false
      ∧ (withRegs [(0, 0x040, 0, 5)]).dev = devTest ∧ (withRegs [(0, 0x040, 0, 5)]).pwr.inReset = false
      ∧ ready.ownRegs = [] ∧ ready.key.vstore = none := by decide
theorem witness_CommandGoesOnWhenWellFormed : Instr.slewDone.wellFormed = true
    ∧ (Instr.dramWrite (.gp 0) true 0 [1]).wellFormed = false := by decide
theorem witness_WithdrawnUntilReset :
    (withRegs [(0, 0x040, 0, 4)]).dev = devWithdrawn ∧ (withRegs [(0, 0x040, 0, 4)]).pwr.inReset = false
      ∧ step (withRegs [(0, 0x040, 0, 4)]) = .next (tick (withRegs [(0, 0x040, 0, 4)])) := ⟨rfl, rfl, rfl⟩
theorem witness_StepKeepsCanonicalForm : smWf resetOf ready.regs = true ∧ Memory.wf ready.mem = true
    ∧ step ready = .next (tick ready) := ⟨rfl, rfl, rfl⟩
theorem witness_QueueIsFirstInFirstOut :
    exec .syncWindowExpire ready = .next (evalTrace ready) ∧ ready.commandsFormed :=
  ⟨rfl, by intro c h; cases h⟩
theorem witness_SramAccess :
    region (0xF000000FFC : Addr).toNat = .sram ∧ (0xF000000FFC : Addr).toNat % 0x1000 + 4 ≤ 0x1000
      ∧ (0 < 4) ∧ [1, 2, 3, (4 : Byte)] ≠ [] ∧ region (0xF0017FFFFC : Addr).toNat = .sram := by decide
theorem witness_SramAccess_admitted :
    admits (.apc 0) false .read 0xF000000FFC 4 ready ∧ admits (.apc 0) false .fetch 0xF000000FFC 4 ready
      ∧ admits (.apc 0) false .write 0xF000000FFC 4 ready := by decide
/-- GP0 has an access outstanding. -/
def busyGp : State :=
  { ready with inflight := [{ id := 0, gate := 8, m := .gp 0, addr := 0, read := true, left := 1, ok := true }], accId := 1 }
theorem witness_SramAccess_in_turn :
    reachesAt (.gp 0) true .read 0xF000000FFC 4 busyGp = true ∧ mustWait (.gp 0) 0xF000000FFC 4 busyGp = false
      ∧ keepsOrder (.gp 0) = true ∧ outstanding (.gp 0) busyGp.accId busyGp = true := by decide
theorem witness_SramAccess_unanswered :
    region (0xFE0008D000 : Addr).toNat = .unmapped ∧ region (0x0800000000 : Addr).toNat = .dram
      ∧ dramTop ready ≤ (0x0800000000 : Addr).toNat ∧ (0x0800000000 : Addr).toNat % 0x1000 + 4 ≤ 0x1000
      ∧ admits (.apc 0) false .read 0xFE0008D000 4 ready ∧ admits (.gp 0) true .write 0x0800000000 4 ready
      ∧ admits (.apc 7) true .write 0x0800000000 4 ready := by decide
theorem witness_SramAccess_write_back :
    (Master.apc 0).caches = true ∧ (List.replicate 64 (0 : Byte)).length = 64 ∧ (0xF0017FFFC0 : Addr).toNat % 64 = 0
      ∧ region (0xF0017FFFC0 : Addr).toNat = .sram
      ∧ admits (.apc 0) ([true, false].all id) .write 0xF0017FFFC0 64 ready := by decide
theorem witness_SramAtomic :
    (∀ k : AtomicOp, k = .add → k ≠ .lr ∧ k ≠ .sc) ∧ [1, 2, 3, (4 : Byte)].length = 4
      ∧ (0xF001000000 : Addr).toNat % 4 = 0 ∧ region (0xF001000000 : Addr).toNat = .sram := by
  refine ⟨?_, by decide⟩
  rintro k rfl
  decide
theorem witness_SramAtomic_admitted : admits (.apc 0) true .atomic 0xF001000000 4 ready
    ∧ (0xF001000001 : Addr).toNat % 0x1000 + 8 ≤ 0x1000 ∧ region (0xF001000001 : Addr).toNat = .sram
    ∧ admits (.apc 0) true .atomic 0xF001000001 8 ready := by decide
theorem witness_SramAtomic_crosses :
    0x1000 < (0xF001000FFE : Addr).toNat % 0x1000 + 4 ∧ admits (.gp 0) true .atomic 0xF001000FFE 4 ready := by decide
theorem witness_SramAtomic_reserved :
    ({ m := 0, addr := 0xF001000000, len := 4 } : Reservation)
        ∈ ({ ready with resv := [{ m := 0, addr := 0xF001000000, len := 4 }] } : State).resv
      ∧ ({ m := 0, addr := 0xF001000000, len := 4 } : Reservation) ∉ ready.resv := by decide
theorem witness_RegisterAccessReachesItsPage :
    admits (.gp 0) true .write (pageAddr 140 0xFFC) 4 ready ∧ admits (.gp 0) true .read (pageAddr 0 0) 4 ready
      ∧ ¬(pageKind 0 = .gte ∧ 0 = 0x048)
      ∧ admits (.gp 0) true .write (pageAddr 140 0xFF8) 8 ready ∧ 0xFF8 % 8 = 0 := by decide
theorem witness_RegisterAccessReachesItsPage_size :
    (2 ∈ [1, 2] ∨ 2 ∈ [4, 8] ∧ 0xFFE % 2 ≠ 0) ∧ 0xFFE + 2 ≤ 0x1000 ∧ (8 ∈ [1, 2] ∨ 8 ∈ [4, 8] ∧ 0x044 % 8 ≠ 0)
      ∧ admits (.gp 0) true .write (pageAddr 0 0xFFE) 2 ready
      ∧ admits (.gp 0) true .write (pageAddr 0 0x044) 8 ready := by decide
theorem witness_UndefinedOffset :
    findRow 0 0xFFC = none ∧ findRow 0 0x02C = none ∧ ready.resetBusy 0 = false ∧ ready.rf 0 0x01C 31 24 = 0 := by decide
theorem witness_GuardOwnedRegister :
    (findRow 105 0x040).isSome = true ∧ guardPage 105 = true ∧ isGuard (.apc 0) = false
      ∧ (∃ r, findRow 73 0x204 = some r ∧ r.guard = true) ∧ ready.resetBusy 73 = false := by
  refine ⟨by decide, by decide, by decide, ⟨_, rfl, by decide⟩, by decide⟩
theorem witness_PairTakesEffectTogether :
    (∃ r, findRow 73 0x110 = some r ∧ r.rw ≠ 0 ∧ r.pair = .low)
      ∧ ∃ r, findRow 73 0x114 = some r ∧ r.rw ≠ 0 ∧ r.pair = .high := by
  refine ⟨⟨_, rfl, by decide⟩, ⟨_, rfl, by decide⟩⟩
theorem witness_PairTakesEffectTogether_read :
    admitRead 73 0x110 ready = none ∧ (∃ q, findRow 73 (0x110 + 4) = some q ∧ q.pair = .high)
      ∧ admitRead 73 (0x110 + 4) (pageRead (.gp 0) 73 0x110 ready) = none
      ∧ smGet (shadowKey (masterId (.gp 0)) (rkey 73 (0x110 + 4) 0)) (pageRead (.gp 0) 73 0x110 ready).shadow = some 0
      ∧ masterId (.gp 1) ≠ masterId (.gp 0) := by
  refine ⟨by decide, ⟨_, rfl, by decide⟩, by decide, by decide, by decide⟩
theorem witness_PairTakesEffectTogether_rc :
    (∃ r, findRow (pDpi 0) 0x050 = some r ∧ r.rc ≠ 0) ∧ admitRead (pDpi 0) 0x050 ready = none
      ∧ frozenPage (pDpi 0) ready = false := by
  refine ⟨⟨_, rfl, by decide⟩, by decide, by decide⟩
theorem witness_HeaderCommands_codec :
    noneWaits ready ∧ admitted (.gp 0) (pCdc 0) 0x008 2 ready ∧ hdrCheck (pCdc 0) 0x008 2 ready = .ok
      ∧ admitted (.gp 0) (pCdc 0) 0x008 1 ready ∧ admitted (.gp 0) (pCdc 0) 0x008 0 ready :=
  ⟨noneWaits_of rfl rfl, by decide⟩
theorem witness_HeaderCommands_status :
    (let s := withRegs [(73, 0x010, 0, 3), (73, 0x014, 0, 2)]
     admitWrite (.gp 0) 73 0x010 1 s = none ∧ hdrCheck 73 0x010 1 s = .ok
       ∧ admitWrite (.gp 0) 73 0x014 3 s = none ∧ hdrCheck 73 0x014 3 s = .ok
       ∧ s.reg 73 0x010 &&& ((3 : Word) &&& eventMask 73) &&& ~~~ s.reg 73 0x014 ≠ 0
       ∧ s.reg 73 0x010 &&& ((2 : Word) &&& eventMask 73) &&& ~~~ s.reg 73 0x014 = 0
       ∧ smAt 73 s.ic.cnt < 255 ∧ admitRead 73 0x018 s = none ∧ frozenPage 73 s = false) := by decide
theorem witness_HeaderCommands :
    admitted (.gp 0) 73 0x008 2 ready ∧ hdrCheck 73 0x008 2 ready = .ok
      ∧ (withRegs [(73, 0x00C, 0, 2)]).resetBusy 73 = true ∧ clocked (withRegs [(73, 0x00C, 0, 2)]) = true
      ∧ admitted (.gp 0) 73 0x008 1 ready ∧ hdrCheck 73 0x008 1 ready = .ok
      ∧ admitted (.gp 0) 73 0x008 0 ready ∧ hdrCheck 73 0x008 0 ready = .ok
      ∧ admitted (.gp 0) 73 0x01C 0x8000 ready ∧ hdrCheck 73 0x01C 0x8000 ready = .ok := by decide

/-! ## Liveness -/

theorem witness_AgesAndPetalStates :
    (5 : Int) ≤ (5 : Nat) ∧ ((5 : Nat) : Int) < 6 ∧ (6 : Int) - (5 : Nat) ≤ (1 : Nat) * 65536000
      ∧ ((0 : Nat) : Int) * 65536000 < 6 - (5 : Nat)
      ∧ untimedReason {} { record := { bad := false, ct := 1, epoch := 0 } } { layer := 0 } 0 = 0
      ∧ untimedReason {} {} { layer := 0 } 0 ≠ 0 ∧ [({ layer := 0 } : Contrib)] ≠ [] := by decide
theorem witness_ContextSelectionIsPerMaster :
    admitted (.apc 0) pSrc 0x040 127 ready ∧ masterId (.gp 0) ≠ masterId (.apc 0)
      ∧ ∃ r, findRow pSrc 0x200 = some r ∧ r.win = .ctx := by
  refine ⟨by decide, by decide, ⟨_, rfl, rfl⟩⟩
theorem witness_CaptureTimeIsReadThroughAShadow :
    admitRead pSrc 0x214 ready = none ∧ admitRead pSrc 0x218 ready = none
      ∧ admitRead pSrc 0x21C ready = none ∧ admitRead pSrc 0x220 ready = none := by decide
theorem witness_RateAdjustmentRange :
    admitted (.gp 0) pPtp 0x068 549755813 ready ∧ sW 549755813 ≤ 549755813 ∧ -549755813 ≤ sW 549755813
      ∧ 549755813 < sW 549755814 ∧ sW (BitVec.ofInt 32 (-549755814)) < -549755813
      ∧ admitted (.gp 0) pPtp 0x068 549755814 ready := by decide
theorem witness_FailedChannelWithdrawsInBoot :
    (withRegs [(pDmc 5, 0x044, 0, 1)]).dev = devBoot ∧ clocked (withRegs [(pDmc 5, 0x044, 0, 1)]) = true ∧ dmcState 5 (withRegs [(pDmc 5, 0x044, 0, 1)]) = dmcInitSt
      ∧ dmcState 0 (withRegs [(pDmc 0, 0x044, 0, 3)]) = dmcSelfRefresh
      ∧ leavesSelfRefresh 0 (withRegs [(pDmc 0, 0x044, 0, 3)]) = true := by decide

/-! ## Network time -/

theorem witness_NetworkTimeAdjustments :
    admitted (.gp 0) pPtp 0x058 999999999 ready ∧ fld (999999999 : Word) 29 0 < 1000000000
      ∧ admitted (.gp 0) pPtp 0x064 0 ready ∧ admitted (.gp 0) pPtp 0x064 0xFFFFFFFF ready
      ∧ (0 : Int) ≤ Int.ofNat ready.tm.now
          + (BitVec.ofNat 64 ((heldOf pPtp 0x060 0 ready).toNat + 2 ^ 32 * (0 : Word).toNat)).toInt * 2 ^ 40
      ∧ Int.ofNat ready.tm.now + (BitVec.ofNat 64
          ((heldOf pPtp 0x060 0 ready).toNat + 2 ^ 32 * (0xFFFFFFFF : Word).toNat)).toInt * 2 ^ 40 < 0
      ∧ ready.rf pPtp 0x01C 31 24 = 0
      ∧ admitted (.gp 0) pPtp 0x06C 1000000 ready ∧ -1000000 ≤ sW 1000000 ∧ sW 1000000 ≤ 1000000
      ∧ admitted (.gp 0) pPtp 0x068 549755813 ready ∧ sW 549755813 ≤ 549755813
      ∧ clocked ({ ready with tm := { slewEnded := true } } : State) = true
      ∧ ready.tm.roseAt ≠ some ready.clk
:= by decide
theorem witness_TimestampReads :
    admittedRead (.gp 0) pPtp 0x040 ready ∧ admittedRead (.gp 0) pPtp 0x0A0 ready ∧ ready.tm.tsq = []
      ∧ admittedRead (.gp 0) pPtp 0x0B8 ready ∧ admittedRead (.gp 0) pTtu (capOff 3 0x08) ready
      ∧ (smAt 3 ready.caps).queue = []
      ∧ ({ ready with tm := { tsq := [{ port := 1, msgType := 0, frameId := 7, stamp := { t := 5, epoch := 1 } }] } }
          : State).tm.tsq.length = 1
      ∧ (smAt 3 ({ ready with caps := [(3, { queue := [(true, { t := 5, epoch := 1 })] })] } : State).caps).queue
          = (true, { t := 5, epoch := 1 }) :: [] := by decide

def armed (ctrl : Word) : State :=
  withRegs [(pTtu, ttuOff 7 0x00, 0, ctrl), (pTtu, ttuOff 7 0x18, 0, 100), (pTtu, ttuOff 7 0x20, 0, 1),
    (pTtu, ttuOff 7 0x24, 0, 100), (pTtu, ttuOff 7 0x2C, 0, 8)]

theorem witness_TriggerUnits :
    admitted (.gp 0) pTtu (ttuOff 7 0) 3 ready
      ∧ ttuArmFails 7 3 (storeReg (.gp 0) pTtu (ttuOff 7 0) 3 ready) = true
      ∧ admitted (.gp 0) pTtu (ttuOff 7 0) 3 (armed 0)
      ∧ ttuArmFails 7 3 (storeReg (.gp 0) pTtu (ttuOff 7 0) 3 (armed 0)) = false
      ∧ admitted (.gp 0) pTtu (ttuOff 7 0) 1 (armed 0)
      ∧ ttuArmFails 7 1 (storeReg (.gp 0) pTtu (ttuOff 7 0) 1 (armed 0)) = false
      ∧ (ttuSchedule 7 (armed 0)).t0 < (armed 0).t16 + lead64
      ∧ ready.t16 + lead64 ≤ (ttuSchedule 7 (withRegs [(pTtu, ttuOff 7 0x10, 0, 64)])).t0
      ∧ admitted (.gp 0) pTtu (ttuOff 7 0) (3 &&& ~~~1#32) ready
      ∧ (armed 3).rb pTtu (ttuOff 7 0) 0 = true ∧ (armed 3).rb pTtu (ttuOff 7 4) 0 = false
      ∧ (armed 3).rb pTtu (ttuOff 7 0) 1 = true ∧ (smAt 7 (armed 1).ttu).k = 0
      ∧ clocked (armed 3) = true ∧ clocked (withRegs [(pTtu, ttuOff 7 4, 0, 1)]) = true
      ∧ (ttuSchedule 7 (armed 3)).instant (smAt 7 (armed 3).ttu).k ≤ (armed 3).t16
      ∧ (withRegs [(pTtu, ttuOff 7 4, 0, 1)]).rb pTtu (ttuOff 7 4) 0 = true
      ∧ (smAt 7 ready.ttu).left ≤ 0 := by decide
theorem witness_CapturesAndHoldover :
    ready.pins.noXtal32 = false ∧ (withRegs [(pTtu, capOff 3 0, 0, 0x101)]).rf pTtu (capOff 3 0) 1 0 % 2 = 1
      ∧ 2 ≤ (withRegs [(pTtu, capOff 3 0, 0, 2)]).rf pTtu (capOff 3 0) 1 0
      ∧ 16 + 8 * (withRegs [(pTtu, capOff 3 0, 0, 0x101)]).rf pTtu (capOff 3 0) 15 8 ≤ 24
      ∧ (smAt 3 ready.caps).last = none ∧ (smAt 3 ready.caps).queue.length < 4
      ∧ 4 ≤ (List.replicate 4 (true, ({ t := 5, epoch := 1 } : Stamp))).length
      ∧ ({ ready with tm := { traceable := true } } : State).tm.traceable = true
      ∧ traceable ({ ready with tm := { traceable := true } } : State) = false
      ∧ ({ ready with tm := { carry := true } } : State).tm.carry = true ∧ clocked ready = true
      ∧ (2097152 - (2097150 : Int)) % 2 = 0 ∧ (2097152 - (2097151 : Int)) % 2 ≠ 0
      ∧ -32768 ≤ (2097152 - (2162688 : Int)) / 2 := by decide

/-! ## Ethernet, source contexts and sink ports -/

/-- ING and MGE enabled, and port 1 with a link, rings of 4 entries, and duplicate discard on. -/
def net : State :=
  { withRegs [(pIng, 0x008, 0, 1), (pIng, 0x040, 0, 0x101), (pEth 1, 0x008, 0, 1), (pEth 1, 0x040, 0, 0x10),
      (pEth 1, 0x058, 0, 2), (pEth 1, 0x078, 0, 2), (pEth 1, 0x080, 0, 1), (pMge, 0x008, 0, 1), (pMge, 0x040, 0, 0x10),
      (pMge, 0x058, 0, 2)] with
    net := { prp := [{ mac := 2, seq := 9, clk := 0 }] } }

/-- The frame with the trailer of LAN B, sequence number 9. -/
def tagged : List Byte := aFrame.bytes ++ [0, 9, 0xB0, 8, 0x88, 0xFB]

theorem witness_EthernetFramesAndRings :
    clocked net = true ∧ workRefusal (pEth 1) net = none ∧ linkUp 1 net = true ∧ workRefusal pIng net = none
      ∧ 9014 < (List.replicate 9015 (0 : Byte)).length ∧ aFrame.bytes.length ≤ 9014
      ∧ rctOf aFrame.bytes = none ∧ kibBound aFrame.bytes net = false ∧ udpOf aFrame.bytes = none
      ∧ ptpOf aFrame.bytes = none ∧ net.rf (pEth 1) 0x058 3 0 ≠ 0
      ∧ ((net.reg (pEth 1) 0x05C).toNat + 1) % 2 ^ net.rf (pEth 1) 0x058 3 0
          ≠ (net.reg (pEth 1) 0x060).toNat % 2 ^ net.rf (pEth 1) 0x058 3 0
      ∧ (∃ r, rctOf tagged = some r ∧ r.lanB = decide ((1 : Fin 2).val = 1) ∧ ∃ e ∈ net.net.prp,
          prpLives net e = true ∧ e.mac = srcMacOf tagged ∧ e.seq = r.seq)
      ∧ udpOf (stripRct tagged) = none ∧ ptpOf (stripRct tagged) = none ∧ net.rb pIng 0x040 0 = true
      ∧ linkUp 0 net = false ∧ net.enabled pMge = true ∧ net.rb pMge 0x040 4 = true ∧ net.rf pMge 0x058 3 0 ≠ 0
      ∧ ((net.reg pMge 0x05C).toNat + 1) % 2 ^ net.rf pMge 0x058 3 0
          ≠ (net.reg pMge 0x060).toNat % 2 ^ net.rf pMge 0x058 3 0
      ∧ net.enabled (portPage .etb) = true ∧ net.rf (portPage .etb) 0x078 3 0 ≠ 0
      ∧ (net.reg (portPage .etb) 0x07C).toNat % 2 ^ net.rf (portPage .etb) 0x078 3 0
          ≠ (net.reg (portPage .etb) 0x080).toNat % 2 ^ net.rf (portPage .etb) 0x078 3 0
      ∧ admitted (.gp 0) (portPage .mge) 0x078 0 ready
      ∧ admitted (.gp 0) (portPage .eta) 0x058 0 ready
      ∧ net.rb pMge 0x040 4 ≠ false ∧ ready.rb pMge 0x040 4 ≠ true := by
  refine ⟨by decide, by decide, by decide, by decide, by rw [List.length_replicate]; decide, by decide, by decide, by decide,
    by decide, by decide, by decide, by decide, ⟨_, rfl, by decide⟩, ?_⟩
  decide

/-- The same with the receive ring of port 1 in system SRAM. -/
def netSram : State :=
  { net with regs := smInsert (rkey (pEth 1) 0x054 0) 0xF0 net.regs }
theorem witness_EthernetFramesAndRings_memory :
    noneWaits netSram
      ∧ (let entry := netSram.pair (pEth 1) 0x050 + 32 * (netSram.reg (pEth 1) 0x05C).toNat
         let buf := (busNat (portMaster (ethPort 1)) entry 8 (rxStamp 1 netSram).2).2.1
         inMemory entry 32 ∧ inMemory buf aFrame.bytes.length) := by
  have buf : (busNat (portMaster (ethPort 1)) (netSram.pair (pEth 1) 0x050 + 32 * (netSram.reg (pEth 1) 0x05C).toNat) 8
      (rxStamp 1 netSram).2).2.1 = 0 := by decide +kernel
  refine ⟨noneWaits_of rfl rfl, ?_, ?_⟩
  · exact inMemory_of (by decide)
  · rw [buf]
    exact inMemory_of (by decide)

/-- Context 127 selected by GP0, on or off. -/
def srcSt (on : Word) : State :=
  withRegs [(pSrc, 0x008, 0, 1), (pSrc, 0x040, 8, 127), (pSrc, 0x100, 127, on), (pSrc, 0x138, 127, 1)]

theorem witness_SourceContexts :
    admitted (.gp 0) pSrc 0x100 0x705 (srcSt 0) ∧ srcCheck (.gp 0) 0x100 0x705 (srcSt 0) = .ok
      ∧ srcSel (.gp 0) (srcSt 0) = 127 ∧ ctxOn 127 (srcSt 0) = false
      ∧ admitted (.gp 0) pSrc 0x100 (3 &&& ~~~1#32) (srcSt 3)
      ∧ srcCheck (.gp 0) 0x100 (3 &&& ~~~1#32) (srcSt 3) = .ok ∧ ctxOn 127 (srcSt 3) = true
      ∧ admitted (.gp 0) pSrc 0x144 1 (srcSt 3) ∧ admitted (.gp 0) pSrc 0x008 0 (srcSt 3)
      ∧ ({ srcSt 3 with clk := 500500000 } : State).srcGrid < ({ srcSt 3 with clk := 500500000 } : State).timer / 100000 ∧ ctxState 127 (srcSt 3) = 1
      ∧ (smAt 127 (srcSt 3).ctx).lastInput + (srcSt 3).rfAt pSrc 0x134 127 15 0 * 500000
          ≤ ({ srcSt 3 with clk := 500500000 } : State).timer / 100000 * 500000 + (srcSt 3).pwr.asleep
      ∧ (headState ({ jbNext := some 5, jb := [{ ext := 6, ts := 0, marker := true, payload := [1], frag := 0, clk := 0 }] }
          : CtxSt)).2.2 = true
      ∧ 0 + (srcSt 3).rfAt pSrc 0x118 127 19 0 * 500 ≤ 500500000
      ∧ (smAt 127 ({ ready with ctx := [(127, { srSeen := true })] } : State).ctx).srSeen = true
      ∧ srValid 127 ({ ready with ctx := [(127, { srSeen := true })] } : State) = false := by decide

def sink : State :=
  { withRegs [(pDpi 7, 0x008, 0, 1), (pDpi 7, 0x040, 0, 2), (pDpi 7, 0x048, 0, 3), (pSrc, 0x008, 0, 1),
      (pSrc, 0x100, 127, 0x705)] with
    dpi := [(7, { frame := some { ctx := 127, buf := 0, ct := default, fmt := default } })] }

theorem witness_SinkPorts :
    dpiLive 7 sink = true ∧ sink.rb (pDpi 7) 0x048 0 = true ∧ sink.rb (pDpi 7) 0x048 1 = true
      ∧ dpiCtx 7 sink = some 127 ∧ srcClosed sink = false ∧ clocked sink = true
      ∧ dpSupported { width := 3840, height := 2160, hTotal := 4400, vTotal := 2250, pixelKhz := 594000, bpc := 10
                      ycc := false, other := false } = true
      ∧ dpSupported { (default : DpFormat) with other := true } = false
      ∧ (smAt 7 sink.dpi).frame = some { ctx := 127, buf := 0, ct := default, fmt := default }
      ∧ admitted (.gp 0) (pDpi 7) 0x040 ((sink.reg (pDpi 7) 0x040 &&& 1) ||| 2) sink
      ∧ admitted (.gp 0) (pDpi 7) 0x040 ((sink.reg (pDpi 7) 0x040 &&& 3) ||| 4) sink
      ∧ dpiPulsing 7 sink = false ∧ 0x51 ≠ 0x50 := by decide

/-- A frame of one line in progress at port 7, buffer 3 the newest of its context, its masters kept to memory. -/
def sinkKept : State :=
  { withRegs (closed [17, 19] ++ [(pDpi 7, 0x008, 0, 1), (pDpi 7, 0x044, 0, 0), (pDsp, 0x890, 3, 0x10000000)]) with
    buf := [(3, { owner := some 127 })]
    dpi := [(7, { frame := some { ctx := 127, buf := 0, ct := default, fmt := { (default : DpFormat) with width := 1, height := 1 } } })] }
theorem witness_SinkPorts_frame_end :
    noneWaits sinkKept ∧ keptToMemory (.dpi 7) sinkKept ∧ keptToMemory (.ng 0) sinkKept ∧ newestBuf 127 sinkKept = some 3
      ∧ (∀ b y, newestBuf 127 sinkKept = some b →
          inMemory ((bufSurf b sinkKept).plane0 + y * (bufSurf b sinkKept).stride) (4 * 1))
      ∧ (let r := storedLines (dpiMaster 7) (newestBuf 127 sinkKept) { (default : DpFormat) with width := 1, height := 1 } [none] 1 0
           sinkKept
         sinkKept.rf (pDpi 7) 0x044 7 0 < r.2.1.length) := by
  have newest : newestBuf 127 sinkKept = some 3 := by decide
  refine ⟨noneWaits_of rfl rfl, keptToMemory_of rfl (by decide) (by decide) (by decide),
    keptToMemory_of rfl (by decide) (by decide) (by decide), newest, ?_, by decide +kernel⟩
  intro b y h
  cases newest.symm.trans h
  exact inMemory_of (.inl (by rw [show (bufSurf 3 sinkKept).plane0 = 0 by decide, show (bufSurf 3 sinkKept).stride = 0 by decide]; omega))

/-! ## Dispatcher and engines -/

/-- Registers of the six memory channels in service and 16 GiB of DRAM. -/
def dramRegs : List (Nat × Nat × Nat × Word) :=
  (0, 0x048, 0, 16) :: (List.range 6).map fun n => (50 + n, 0x044, 0, 2)

def memOn (rs : List (Nat × Nat × Nat × Word)) : State := withRegs (dramRegs ++ rs)

theorem witness_DispatcherContextsAndHolds :
    admitted (.gp 0) (pCdc 15) 0x840 0x401 (memOn []) ∧ ctrlCheck 0 0x401 (memOn []) = .ok
      ∧ dspOn 0 (memOn []) = false
      ∧ (match dspAdmit ownBus (pCdc 15) 0 (memOn []) with
          | (.ok _, _) => true
          | _ => false) = true
      ∧ admitted (.gp 0) (pCdc 15) 0x840 (0x401 &&& ~~~1#32) (withRegs [(pDsp, 0x840, 0, 0x401)])
      ∧ ctrlCheck 0 (0x401 &&& ~~~1#32) (withRegs [(pDsp, 0x840, 0, 0x401)]) = .ok
      ∧ dspOn 0 (withRegs [(pDsp, 0x840, 0, 0x401)]) = true
      ∧ admitted (.gp 0) (pCdc 15) 0x840 0x404 ready ∧ ctrlCheck 0 0x404 ready = .ok
      ∧ admitted (.gp 0) (pCdc 15) 0x894 1 ready
      ∧ bufFree 0 (withRegs [(pDsp, 0x890, 0, 0x10000000)]) = false
      ∧ marked 0 mkFill (withRegs [(pDsp, 0x890, 0, 0x10000000)]) = false
      ∧ admitted (.gp 0) (pCdc 15) 0x894 0 ready := by decide

/-- Engine 15 enabled, with a context committed to it and an access unit waiting. -/
def engine : State :=
  { withRegs [(pCdc 15, 0x008, 0, 1)] with
    placed := [{ what := .dec 127, rate := 1, engine := some 15 }]
    dsp := [(127, { queue := [{ no := 1, ts := 0, ct := {} }] })] }

def busyEngine : State :=
  { withRegs [(0, 0x040, 0, 3), (pBst, 0x040, 0, 1), (pCdc 15, 0x008, 0, 1), (pCdc 3, 0x008, 0, 5)] with
    clk := 50000001
    eng := [(15, { pic := some { ctx := 127, buf := 0, au := { no := 1, ts := 0, ct := {} }, facts := default
                                 startClk := 0, phantom := false } })] }

/-- The same engine at work, its accesses kept to memory. -/
def keptEngine : State :=
  { busyEngine with regs := (withRegs (closed [11, 19] ++ [(0, 0x040, 0, 3), (pCdc 15, 0x008, 0, 1)])).regs }
theorem witness_CodecEngines_complete :
    pixelLive keptEngine = true ∧ (smAt 15 keptEngine.eng).pic.isSome = true ∧ noneWaits keptEngine
      ∧ keptToMemory (.cdc 15) keptEngine ∧ keptToMemory (.ng 0) keptEngine :=
  ⟨by decide, by decide, noneWaits_of rfl rfl, keptToMemory_of rfl (by decide) (by decide) (by decide),
    keptToMemory_of rfl (by decide) (by decide) (by decide)⟩
theorem witness_CodecEngines_move :
    busyCommit (.dec 127) engine = false ∧ placedOf (.dec 127) engine = some { what := .dec 127, rate := 1, engine := some 15 }
      ∧ noneWaits engine := ⟨by decide, by decide, noneWaits_of rfl rfl⟩
theorem witness_CodecEngines :
    inService 15 engine = true ∧ pixelLive engine = true ∧ (smAt 15 engine.eng).pic = none
      ∧ (smAt 15 engine.eng).encoding = none
      ∧ oldestAu (waitingOn 15 engine) = some (127, { no := 1, ts := 0, ct := {} })
      ∧ pixelLive busyEngine = true ∧ clocked busyEngine = true ∧ (smAt 15 busyEngine.eng).pic.isSome = true
      ∧ (smAt 15 busyEngine.eng).pic.all (fun p => p.startClk + 50000000 < busyEngine.clk) = true
      ∧ admitted (.gp 0) (pCdc 15) 0x008 0 engine ∧ engine.enabled (pCdc 15) = true
      ∧ placedOf (.dec 127) engine = some { what := .dec 127, rate := 1, engine := some 15 }
      ∧ busyCommit (.dec 127) engine = false
      ∧ busyEngine.dev = devRun ∧ busyEngine.bst.rotAt ≤ busyEngine.clk ∧ rotationBusy busyEngine = false
      ∧ busyEngine.rb pBst 0x040 0 = true ∧ heldEngine busyEngine = some 3 ∧ nextEngine 3 busyEngine = some 15
      ∧ (withRegs [(0, 0x040, 0, 3), (pBst, 0x040, 0, 0)]).rb pBst 0x040 0 = false
      ∧ rotationBusy (withRegs [(0, 0x040, 0, 3), (pBst, 0x040, 0, 0)]) = false
      ∧ (List.range 16).find? (fun k => drained k { ready with eng := [(15, { draining := true })] }) = some 15 := by
  decide

/-! ## Composition, the guard stage and the outputs -/

theorem witness_PipeTables :
    admitted (.gp 0) (pCmp 15) 0x064 0x3FFF ready ∧ ready.rf (pCmp 15) 0x060 14 12 < 6
      ∧ tfInUse 15 0 ready = false ∧ 6 ≤ (withRegs [(pCmp 15, 0x060, 0, 0x6FFF)]).rf (pCmp 15) 0x060 14 12
      ∧ tfInUse 15 3 (withRegs [(pCmp 15, layOff 7 0, 0, 0x80C00000)]) = true
      ∧ admitted (.gp 0) (pCmp 15) 0x06C 0x3FF ready ∧ coefInUse 15 0 ready = false
      ∧ ready.rf (pCmp 15) 0x068 2 0 ≤ 5
      ∧ coefInUse 15 3 (withRegs [(pCmp 15, layOff 7 0, 0, 0x80300000)]) = true := by decide

/-- Sixteen writes of page 90 wait to cross, as old as given. -/
def crossing (clk : Nat) : State :=
  { ready with xq := List.replicate 16 { page := pCmp 15, m := 8, words := [(rkey (pCmp 15) 0x100 0, 1)], clk := 0 }, clk := clk }
theorem witness_PipeTables_pair :
    (∃ r, findRow (pCmp 15) (layOff 7 0x0C) = some r ∧ r.rw ≠ 0 ∧ r.pair = .high ∧ r.latch = true) ∧ 4 ≤ layOff 7 0x0C
      ∧ ∃ r, findRow (pCmp 15) (layOff 7 0x08) = some r ∧ r.pair = .low := by
  refine ⟨⟨_, rfl, by decide⟩, by decide, ⟨_, rfl, by decide⟩⟩
theorem witness_PipeTables_crossing :
    (∃ r, findRow (pCmp 15) 0x100 = some r ∧ r.rw ≠ 0 ∧ r.pair = .single ∧ r.latch = true)
      ∧ (∃ r, findRow (pCmp 15) 0x060 = some r ∧ r.rw ≠ 0 ∧ r.pair = .single ∧ r.latch = false)
      ∧ canonPage (pCmp 15) 0x100 = pCmp 15 ∧ canonPage (pCmp 15) 0x060 = pCmp 15
      ∧ (ready.xq.filter fun x => x.page = pCmp 15).length < 16
      ∧ 16 ≤ ((crossing 9).xq.filter fun x => x.page = pCmp 15).length
      ∧ masterId (.gp 0) = 8 ∧ smWf resetOf (crossing 9).pix = true ∧ pCmp 14 ≠ pCmp 15 := by
  refine ⟨⟨_, rfl, by decide⟩, ⟨_, rfl, by decide⟩, ?_⟩
  decide

/-- A frame of two petal rows whose rows are delivered at start and due 64 lines later. -/
def aFrameOut : Frame :=
  { inp := { no := 0, hA := 64, vA := 128, vT := 200, p32 := 2 ^ 32, depth := 10 }, seq := some 3 }

def framed (f : Frame) : State :=
  { withRegs [(pOut 15, 0x044, 0, 3)] with out := [(15, { scan := some f })] }

/-- The same, the accesses of the pipe kept to memory. -/
def framedKept (f : Frame) : State :=
  { withRegs (closed [13] ++ [(pOut 15, 0x044, 0, 3)]) with out := [(15, { scan := some f })] }
theorem witness_PipeFrames_row :
    pixelLive (framedKept aFrameOut) = true ∧ composing 15 (framedKept aFrameOut) = some aFrameOut
      ∧ rowOpen 15 aFrameOut (framedKept aFrameOut) = true
      ∧ (framedKept aFrameOut).tm.run ≤ rowDue aFrameOut aFrameOut.delivered
      ∧ noneWaits (framedKept aFrameOut) ∧ keptToMemory (.cmp 15) (framedKept aFrameOut) :=
  ⟨by decide, by decide, by decide, by decide, noneWaits_of rfl rfl, keptToMemory_of rfl (by decide) (by decide) (by decide)⟩
theorem witness_PipeFrames :
    composing 15 (framed aFrameOut) = some aFrameOut ∧ rowOpen 15 aFrameOut (framed aFrameOut) = true
      ∧ (framed aFrameOut).tm.run ≤ rowDue aFrameOut aFrameOut.delivered
      ∧ composing 15 (framed { aFrameOut with delivered := 2 }) = some { aFrameOut with delivered := 2 }
      ∧ petalRows aFrameOut.inp = 2 ∧ aFrameOut.completed = false
      ∧ (smAt 15 (framed aFrameOut).out).scan = some aFrameOut ∧ outState 15 (framed aFrameOut) = outRunning
      ∧ pixelLive (framed aFrameOut) = true
      ∧ linePhase aFrameOut aFrameOut.inp.vA ≤ ({ framed aFrameOut with tm := { run := 2 ^ 70 } } : State).tm.run
      ∧ admitted (.gp 0) (pCmp 15) 0x008 0 (withRegs [(pCmp 15, 0x008, 0, 1)])
      ∧ (withRegs [(pCmp 15, 0x008, 0, 1)]).enabled (pCmp 15) = true := by decide

/-- The same with pipe 15 enabled, at the end of the last active line, and buffer 3 the newest of context 0. -/
def latching : State :=
  { framed aFrameOut with
    regs := (withRegs [(pOut 15, 0x044, 0, 3), (pCmp 15, 0x008, 0, 1), (pDsp, 0x890, 3, 0x10000000),
      (73, 0x1F0, 0, 0x100000), (73, 0x1F8, 0, 16)]).regs
    buf := [(3, { owner := some 0 })], tm := { run := 2 ^ 70 } }

theorem witness_PipeFrames_latch :
    latching.enabled (pCmp 15) = true ∧ latching.rf (pOut 15) 0x0A8 7 0 = 0 ∧ pixelLive latching = true
      ∧ latching.rb (pOut (leaderOf 15 latching)) 0x040 1 = false ∧ outState (leaderOf 15 latching) latching ≠ outHeld
      ∧ (smAt 15 latching.out).scan = some aFrameOut ∧ outState 15 latching = outRunning
      ∧ linePhase aFrameOut aFrameOut.inp.vA ≤ latching.tm.run
      ∧ newestBuf 0 latching = some 3 ∧ newestBuf 127 latching = none
      ∧ (withRegs [(pCmp 15, layOff 7 0x44, 0, 0x80000003)]).rb (pCmp 15) (layOff 7 0x44) 31 = true := by decide

theorem witness_PipeFrames_latch_region : noneWaits latching ∧ recBase latching + recSize latching ≤ 0xC000000000
    ∧ 0 < recSize latching :=
  ⟨noneWaits_of rfl rfl, by decide, by decide⟩

/-- Output 15 and its guard stage enabled in RUN, with HPD high and the registers given. -/
def outSt (rs : List (Nat × Nat × Nat × Word)) (o : OutSt) : State :=
  { withRegs ([(0, 0x040, 0, 3), (pGrd 15, 0x008, 0, 1), (pOut 15, 0x008, 0, 1)] ++ rs) with
    out := [(15, o)], clk := 500000 }

theorem witness_FrameStarts :
    let s := outSt [(pOut 15, 0x044, 0, 3)] { coming := some { aFrameOut with delivered := 1 }, chosen := some 5 }
    (smAt 15 s.out).coming = some { aFrameOut with delivered := 1 } ∧ (smAt 15 s.out).chosen = some 5
      ∧ (smAt 15 s.out).prev = none ∧ outState 15 s = outRunning ∧ 5 ≤ ({ s with tm := { run := 5 } } : State).tm.run
      ∧ pixelLive s = true
      ∧ (sequenceCheck 15 { aFrameOut with delivered := 1 } s).1 = true
      ∧ (sequenceCheck 15 aFrameOut s).1 = false := by decide

def guardFrame : Frame :=
  { aFrameOut with
    inp := { aFrameOut.inp with vrs := [{ en := true, mode := 1, x := 0, y := 0, w := 4, h := 4 }], pmSlots := 2 }
    delivered := 2, evaluated := 2, slot := some 0, isNew := true }

theorem witness_GuardStage :
    (smAt 15 (framed { aFrameOut with delivered := 1 }).out).scan = some { aFrameOut with delivered := 1 }
      ∧ aFrameOut.evaluated < petalRows aFrameOut.inp ∧ aFrameOut.slot = none
      ∧ ({ aFrameOut with isNew := true } : Frame).late = none ∧ aFrameOut.delivered ≤ 1
      ∧ rowDue aFrameOut aFrameOut.delivered ≤ (framed aFrameOut).tm.run
      ∧ (smAt 15 (outSt [] { prev := some guardFrame }).out).prev = some guardFrame
      ∧ guardFrame.slot = some 0 ∧ guardFrame.headerDone = false
      ∧ (smAt 15 (framed guardFrame).out).prev = none
      ∧ pixelLive (framed guardFrame) = true ∧ (smAt 15 (framed guardFrame).out).scan = some guardFrame
      ∧ (∃ q, guardFrame.inp.vrs[(0 : Fin 4).val]? = some q ∧ q.en = true ∧ q.mode = 1
          ∧ ∀ r ∈ rowsRead guardFrame.inp q, r < guardFrame.evaluated ∧ guardFrame.unwritten.contains r = false)
      ∧ smGet 0 guardFrame.refs = none ∧ admittedRead (.gp 0) (pGrd 15) 0x068 ready := by
  refine ⟨by decide, by decide, by decide, by decide, by decide, by decide, by decide, by decide, by decide, by decide,
    by decide, by decide, ⟨_, rfl, by decide⟩, by decide⟩
theorem witness_GuardStage_memory :
    noneWaits (framed guardFrame) ∧ petalCols guardFrame.inp = 1
      ∧ (∀ i, i < 8 * petalCols aFrameOut.inp → region (0 + 0x40 + 8 * aFrameOut.evaluated * petalCols aFrameOut.inp + i) ≠ .regs)
      ∧ ∀ r ∈ [0, 1], ∀ i, i < 8 * petalCols guardFrame.inp → region (0 + 0x40 + 8 * r * petalCols guardFrame.inp + i) ≠ .regs :=
  ⟨noneWaits_of rfl rfl, by decide⟩
theorem witness_OutputStates :
    admitted (.gp 0) (pOut 15) 0x008 1 ready ∧ ready.enabled (pOut 15) = false
      ∧ admitted (.gp 0) (pOut 15) 0x008 0 ready ∧ afterOff 15 ready = false
      ∧ (let s := outSt [] { offClk := some 500000 }
         afterOff 15 s = true ∧ admitted (.gp 0) (pOut 15) 0x098 1 s)
      ∧ (let s := outSt [(pOut 15, 0x044, 0, 1)] {}
         afterOff 15 s = false ∧ admitted (.gp 0) (pOut 15) 0x040 1 s ∧ leaderOf 15 s = 15 ∧ outState 15 s = outHeld
           ∧ releaseCheck 15 s = 0)
      ∧ releaseCheck 15 ready ≠ 0 ∧ recBase (outSt [] {}) + recSize (outSt [] {}) ≤ 0xC000000000
      ∧ (let s := outSt [(pOut 15, 0x044, 0, 2)] {}
         admitted (.gp 0) (pOut 15) 0x040 2 s ∧ outState 15 s = outReleasing
           ∧ (smAt 15 s.out).relRun ≤ s.tm.run)
      ∧ (let s := outSt [(pOut 15, 0x044, 0, 0x403)] { coming := some aFrameOut }
         outState 15 s = outRunning ∧ (smAt 15 s.out).scan = none ∧ (smAt 15 s.out).coming.isSome = true
           ∧ (smAt 15 s.out).chosen = none ∧ (smAt 15 s.out).slipRun ≤ s.tm.run ∧ s.rb (pOut 15) 0x044 10 = true
           ∧ outReleasing ≤ outState 15 s ∧ s.dev = devRun)
      ∧ outState 15 (withRegs [(pOut 15, 0x044, 0, 0x400)]) < outReleasing
      ∧ (withRegs [(pOut 15, 0x044, 0, 0x400)]).rb (pOut 15) 0x044 10 = true := by decide
theorem witness_OutputStates_release : noneWaits (outSt [(pOut 15, 0x044, 0, 2)] {}) := noneWaits_of rfl rfl
theorem witness_LinkTraining :
    (let s := outSt [(pOut 15, 0x044, 0, 0x200), (pOut 15, 0x098, 0, 1)] {}
     admitted (.gp 0) (pOut 15) 0x098 ((s.reg (pOut 15) 0x098 &&& 1) ||| 2) s
       ∧ outCheck 15 0x098 ((s.reg (pOut 15) 0x098 &&& 1) ||| 2) s = .ok ∧ s.rb (pOut 15) 0x044 9 = true
       ∧ s.rb (pOut 15) 0x094 0 = true ∧ s.rb (pOut 15) 0x098 0 = true ∧ s.dev = devRun
       ∧ s.rb (pOut 15) 0x09C 1 = false ∧ s.enabled (pOut 15) = true)
      ∧ (let s := outSt [(pOut 15, 0x098, 0, 1)] {}
         outCheck 15 0x098 ((s.reg (pOut 15) 0x098 &&& 1) ||| 2) s = .ok ∧ s.rb (pOut 15) 0x044 9 = false)
      ∧ (let s := outSt [(pOut 15, 0x044, 0, 0x200), (pOut 15, 0x098, 0, 1), (pOut 15, 0x09C, 0, 1)] {}
         pixelLive s = true ∧ s.rb (pOut 15) 0x09C 0 = true ∧ s.rb (pOut 15) 0x094 0 = true ∧ auxTaken 15 s = false
           ∧ s.rb (pOut 15) 0x098 0 = true ∧ s.dev = devRun ∧ s.rb (pOut 15) 0x09C 1 = false
           ∧ s.enabled (pOut 15) = true ∧ s.rb (pOut 15) 0x044 9 = true)
      ∧ (let s := outSt [(pOut 15, 0x098, 0, 1)] {}
         s.rb (pOut 15) 0x094 0 = true ∧ s.rb (pOut 15) 0x098 0 = true ∧ s.rb (pOut 15) 0x09C 1 = false
           ∧ s.rb (pOut 15) 0x044 9 = false ∧ s.enabled (pOut 15) = true)
      ∧ ¬((outSt [] {}).rb (pOut 15) 0x098 0 = true) ∧ (outSt [] {}).rb (pOut 15) 0x09C 0 = false
      ∧ ready.enabled (pOut 15) = false ∧ auxTaken 15 (outSt [(pOut 15, 0x09C, 0, 1)] { job := some .lanes }) = true
      ∧ (∀ r, r ∈ [some 1, some 2, some 6, none] →
         let j : Training := { result := r }
         let s := { outSt [(pOut 15, 0x09C, 0, 2)] { job := some (.train j) } with clk := 100000000 }
         (smAt 15 s.out).job = some (.train j) ∧ j.startClk + 100000000 ≤ s.clk ∧ pixelLive s = true)
      ∧ (outSt [] {}).enabled (pOut 15) = true ∧ (outSt [] {}).rb (pOut 15) 0x044 9 = false := by decide
theorem witness_AuxChannel :
    (∀ q, q ∈ [0x0, 0x1, 0x4, 0x5, 0x8, 0x9] →
      admitted (.gp 0) (pOut 15) 0x0B0 (BitVec.ofNat 32 (q * 2 ^ 28 + 15 * 2 ^ 24 + 0xFFFFF)) (outSt [] {})
        ∧ outCheck 15 0x0B0 (BitVec.ofNat 32 (q * 2 ^ 28 + 15 * 2 ^ 24 + 0xFFFFF)) (outSt [] {}) = .ok)
      ∧ (outSt [] {}).rb (pOut 15) 0x044 9 = false
      ∧ (outSt [(pOut 15, 0x044, 0, 0x200)] {}).rb (pOut 15) 0x044 9 = true
      ∧ auxTaken 15 (outSt [(pOut 15, 0x044, 0, 0x200)] {}) = false
      ∧ (let x : AuxTx := { req := 9, addr := 0, len := 16, data := [], sent := some 0, deferred := some 0 }
         let s := outSt [(pOut 15, 0x098, 0, 1)] { aux := some x }
         (smAt 15 s.out).aux = some x ∧ x.len ≤ 16 ∧ pixelLive s = true ∧ (smAt 15 s.out).own = none
           ∧ s.rb (pOut 15) 0x098 0 = true ∧ auxTaken 15 s = false ∧ 0 + 250000 ≤ s.clk ∧ 0 + 200000 ≤ s.clk
           ∧ ({ x with deferred := none } : AuxTx).deferred = none) := by decide

/-! ## Mirror streams, Ngurelo and Kibiter -/

/-- Channel 3 of mirror coding on output 15, with memory for its work area and engine 0 in service. -/
def mirrorSt (ctrl : Word) (e : EncSt) : State :=
  { memOn [(pEnc, 0x008, 0, 1), (0, 0x040, 0, 3), (pCdc 0, 0x008, 0, 1), (pOut 15, 0x044, 0, 3),
      (pEnc, encOff 3 0, 0, ctrl), (pEnc, encOff 3 4, 0, 0xF00), (pEnc, encOff 3 0x1C, 0, 0xFFF),
      (pEnc, encOff 3 0x20, 0, 0x40000000), (pEnc, 0x040, 0, 100)] with
    enc := [(3, e)], clk := 50000000 }

theorem witness_MirrorChannels :
    admitted (.gp 0) pEnc (encOff 3 0) 1 (mirrorSt 0 {}) ∧ encCheck ownBus (encOff 3 0) 1 (mirrorSt 0 {}) = .ok
      ∧ encOn 3 (mirrorSt 0 {}) = false
      ∧ admitted (.gp 0) pEnc (encOff 3 0) (1 &&& ~~~1#32) (mirrorSt 1 {})
      ∧ encCheck ownBus (encOff 3 0) (1 &&& ~~~1#32) (mirrorSt 1 {}) = .ok ∧ encOn 3 (mirrorSt 1 {}) = true
      ∧ admitted (.gp 0) pEnc (encOff 3 0) (((mirrorSt 1 {}).reg pEnc (encOff 3 0) &&& 1) ||| 2) (mirrorSt 1 {})
      ∧ encCheck ownBus (encOff 3 0) (((mirrorSt 1 {}).reg pEnc (encOff 3 0) &&& 1) ||| 2) (mirrorSt 1 {}) = .ok
      ∧ (let s := { mirrorSt 1 { count := some 0, taken := false } with out := [(15, { prev := some aFrameOut })] }
         (smAt (encOut 3 s) s.out).prev = some aFrameOut ∧ frameAhead 0 aFrameOut.inp.no = some 0
           ∧ 0 % (encFld 3 4 2 0 s + 1) = 0 ∧ s.enabled pEnc = true ∧ pixelLive s = true)
      ∧ 2 ≤ [({} : EncIn), {}].length
      ∧ encEngine 3 { mirrorSt 1 {} with placed := [{ what := .enc 3, rate := 1, engine := some 0 }] } = some 0
      ∧ (smAt 3 (mirrorSt 1 { cur := some { inp := {}, idr := true, gop := 0, rate := 0 } }).enc).cur.isSome = true
      ∧ (smAt 3 (mirrorSt 1 { packets := [{ marker := true, idr := true, ts := 0, payload := [], kbps := 1000 }] }).enc).paceClk
          ≤ (mirrorSt 1 {}).clk
      ∧ encKeys 3 (mirrorSt 1 {}) = some none ∧ (mirrorSt 1 {}).rf pEnc 0x040 15 0 ≠ 0 ∧ encState 3 (mirrorSt 1 {}) = 2
      ∧ (smAt 3 (mirrorSt 1 {}).enc).srClk + (mirrorSt 1 {}).rf pEnc 0x040 15 0 * 500000 ≤ (mirrorSt 1 {}).clk := by
  decide

theorem witness_MirrorChannels_enable : noneWaits (mirrorSt 0 {}) := noneWaits_of rfl rfl

/-- Port 2 of device 5 enabled, in the state given. -/
def portSt (ctrl : Word) (g : NgSt) : State :=
  { withRegs [(pKib, 0x040, 0, 5), (pNg 2, 0x008, 0, 1), (pNg 2, 0x040, 0, ctrl)] with ng := [(2, g)], clk := 6000000 }

theorem witness_PortTraining :
    admitted (.gp 0) (pNg 2) 0x040 1 (portSt 0 {}) ∧ ownId (portSt 0 {}) ≠ 0
      ∧ (portSt 0 {}).enabled (pNg 2) = true ∧ (portSt 0 {}).rb (pNg 2) 0x040 0 = false
      ∧ admitted (.gp 0) (pNg 2) 0x040 (((portSt 1 {}).reg (pNg 2) 0x040 &&& 1) ||| 2) (portSt 1 {})
      ∧ (portSt 1 {}).rb (pNg 2) 0x040 0 = true ∧ (smAt 2 (portSt 1 { st := 1, phase := 3 }).ng).st = 1
      ∧ lanesLive (portSt 1 {}) = true ∧ clocked (portSt 1 {}) = true ∧ (portSt 1 {}).enabled (pNg 2) = true
      ∧ (smAt 2 (portSt 1 { st := 1, phase := 4, trainRx := 3, trainTx := 3 }).ng).trainRx = 3
      ∧ 0 + 5000000 ≤ (portSt 1 { st := 1 }).clk ∧ (smAt 2 (portSt 1 { st := 3 }).ng).st = 3
      ∧ 0 + 500000 ≤ (portSt 1 { st := 3 }).clk ∧ (aFlit 3).type = 3 ∧ (aFlit 3).crc = .good
      ∧ pf [7, 0, 0, 0, 1] 0x10 2 ≠ ownId (portSt 1 {}) ∧ pf [7, 0, 0, 0, 1] 0x14 1 = 1
      ∧ pf [5, 0, 0, 0, 1] 0x10 2 = ownId (portSt 1 {})
      ∧ (smAt 2 (portSt 1 { st := 2, replay := some (0, 1, 1) }).ng).replay = some (0, 1, 1)
      ∧ 0 + (portSt 1 {}).rf (pNg 2) 0x04C 7 0 * 500 ≤ (portSt 1 {}).clk := by decide
theorem witness_PortFlits :
    (smAt 2 (portSt 1 { st := 2 }).ng).st = 2 ∧ lanesLive (portSt 1 { st := 2 }) = true ∧ (aFlit 0).crc = .good
      ∧ (smAt 2 (portSt 1 { st := 2 }).ng).q0 = [] ∧ (smAt 2 (portSt 1 { st := 2 }).ng).q1 = []
      ∧ ({ aFlit 0x10 with seq := 0 } : Flit).seq = ((smAt 2 (portSt 1 { st := 2, rxSeq := 65535 }).ng).rxSeq + 1) % 65536
      ∧ (smAt 2 (portSt 1 { st := 2, held := [(aFlit 0x10, 0)] }).ng).held = (aFlit 0x10, 0) :: []
      ∧ 0 + 1000 ≤ (portSt 1 {}).clk ∧ (smAt 2 (portSt 1 { st := 2, ackDue := some 0 }).ng).ackDue = some 0
      ∧ 0 + 128 ≤ (portSt 1 {}).clk
      ∧ clocked (portSt 1 { st := 2 }) = true ∧ (portSt 1 { st := 2 }).enabled (pNg 2) = true
      ∧ [0x10, 0x11, 0x12].all (fun k => (aFlit k).crc = .good) = true := by decide

/-- Duty 127 ACTIVE for context 0 of kind IP, whose buffer 7 is NEWEST and waits for port 2. -/
def dutySt : State :=
  { withRegs [(pKib, 0x008, 0, 1), (pKib, 0x040, 0, 5), (pNg 2, 0x008, 0, 1), (pKib, 0x100, 127, 0x12000),
      (pKib, 0x108, 127, 0x50002), (pSrc, 0x100, 0, 3), (pDsp, 0x890, 7, 0x10000000)] with
    ng := [(2, { st := 2 })], duty := [(127, { todo := [2] })], buf := [(7, { owner := some 0 })], clk := 50000000
    rx := [(127, { port := some 2 })], gate := [(127, { claim := 3, last := some 0 })] }

theorem witness_PicturesOverNgurelo :
    ngActive 2 dutySt = true ∧ (smAt 2 dutySt.ng).tx = none ∧ dutySends 127 dutySt = true
      ∧ 2 ∈ (smAt 127 dutySt.duty).todo ∧ newestBuf (dutyCtx 127 dutySt) dutySt = some 7
      ∧ (smAt 2 (portSt 1 { st := 2, tx := some (127, 7) }).ng).tx = some (127, 7)
      ∧ ((smAt 2 (portSt 1 { st := 2, tx := some (127, 7) }).ng).q1.any fun f => f.orig = 5) = false
      ∧ (smGet 127 dutySt.rx).isSome = true ∧ 0 + 50000000 ≤ dutySt.clk ∧ clocked dutySt = true
      ∧ gateExpired { last := some 0 } { dutySt with clk := 500000001 } = true := by decide

/-- The same with the accesses of port 2 kept to memory. -/
def dutyKept : State :=
  { dutySt with
    regs := (withRegs (closed [21] ++ [(pKib, 0x008, 0, 1), (pKib, 0x040, 0, 5), (pNg 2, 0x008, 0, 1), (pKib, 0x100, 127, 0x12000),
      (pKib, 0x108, 127, 0x50002), (pSrc, 0x100, 0, 3), (pDsp, 0x890, 7, 0x10000000)])).regs }
theorem witness_PicturesOverNgurelo_memory :
    ngActive 2 dutyKept = true ∧ (smAt 2 dutyKept.ng).tx = none ∧ dutySends 127 dutyKept = true
      ∧ newestBuf (dutyCtx 127 dutyKept) dutyKept = some 7 ∧ noneWaits dutyKept ∧ keptToMemory (.ng 2) dutyKept :=
  ⟨by decide, by decide, by decide, by decide, noneWaits_of rfl rfl, keptToMemory_of rfl (by decide) (by decide) (by decide)⟩

def kibSt (role : Word) : State :=
  { withRegs (closed [19] ++ [(pKib, 0x008, 0, 1), (pKib, 0x040, 0, 5), (pKib, 0x100, 0, 0x12000), (pKib, 0x108, 0, role),
      (pSrc, 0x100, 0, 3)]) with
    clk := 500000000, tm := { now := 5000000 * 2 ^ 40 }
    kib := { synced := true, due := true, changed := [0], peers := [{ id := 9, alive := [2] }] } }

/-- A heartbeat of device 7 in BOOT with number 3 and no claim, by the layout of R290. -/
def aMessage : List Byte :=
  let body : List Byte := [1, 1, 24, 0, 7, 0, 1, 0, 3, 0, 0, 0, 1, 0, 0, 0, 0, 0, 0, 0]
  body ++ leBytes 4 (crc32c body).toNat

theorem witness_KibiterDuties_message :
    (parseKib aMessage).any (fun k => k.version = 1 ∧ k.device ≠ ownId (kibSt 0) ∧ k.device = 7 ∧ k.state = 1
      ∧ k.msgType = 1) = true := by decide +kernel
theorem witness_KibiterDuties :
    kibState (kibSt 0) ≠ 0 ∧ hbIndex (kibSt 0) ≠ (kibSt 0).kib.slot ∧ (kibSt 0).kib.due = true
      ∧ clocked (kibSt 0) = true ∧ (peerOf 7 (kibSt 0)).isSome = false ∧ (kibSt 0).kib.peers.length < 64
      ∧ pathNo .tether ∈ (peerAt 0 (kibSt 0)).alive
      ∧ smRead (fun _ => 0) (pathNo .tether) (peerAt 0 (kibSt 0)).heard + (kibSt 0).rf pKib 0x044 31 16 * 500
          ≤ (kibSt 0).clk
      ∧ (kibSt 0).enabled pKib = true
      ∧ (kibSt 0).kib.enabledAt + (kibSt 0).rf pKib 0x050 15 0 * 500000 ≤ (kibSt 0).clk := by decide
theorem witness_KibiterDuties_contained :
    ((∀ e, ctxOfStream (dutyStream e (kibSt 1)) (kibSt 1) = none) ∨ noneWaits (kibSt 1) ∧ keptToMemory (.ng 0) (kibSt 1)) :=
  .inr ⟨noneWaits_of rfl rfl, keptToMemory_of rfl (by decide) (by decide) (by decide)⟩
theorem witness_KibiterDuties_writes :
    admitted (.gp 0) pKib 0x10C 1 (kibSt 1) ∧ kibCheck (.gp 0) 0x10C 1 (kibSt 1) = .ok
      ∧ admitted (.gp 0) pKib 0x10C 2 (kibSt 0x50002) ∧ kibCheck (.gp 0) 0x10C 2 (kibSt 0x50002) = .ok
      ∧ admitted (.gp 0) pKib 0x10C 3 (kibSt 0x50002) ∧ kibCheck (.gp 0) 0x10C 3 (kibSt 0x50002) = .ok
      ∧ admitted (.gp 0) pKib 0x10C 4 (kibSt 0xFFFF0002)
      ∧ kibCheck (.gp 0) 0x10C 4 (kibSt 0xFFFF0002) = .ok
      ∧ admitted (.gp 0) pKib 0x108 0x20002 (kibSt 0) ∧ kibCheck (.gp 0) 0x108 0x20002 (kibSt 0) = .ok := by decide
/-! ## DRAM -/

/-- Channel 5 in service with rank 0 in service, rank 1 the spare, the scrubber on, and the registers given. -/
def chan (rs : List (Nat × Nat × Nat × Word)) (d : DmcSt) : State :=
  { memOn ([(pDmc 5, 0x040, 0, 6), (pDmc 5, 0x044, 0, 0x402), (pDmc 5, 0x048, 0, 0xA8), (pDmc 5, 0x04C, 0, 0x9)] ++ rs) with
    dmc := [(5, d)], clk := 50000000000 }

/-- A line of channel 5. -/
def lineAt : Addr := 0x500

theorem witness_DramLines :
    lineServed (lineOf (0x3FFFFFFFF : Addr).toNat) (memOn []) = true ∧ lineHeld (lineOf lineAt.toNat) (memOn []) = false
      ∧ lineServed (lineOf lineAt.toNat) (memOn []) = true ∧ poisoned (lineOf lineAt.toNat) (memOn []) = false
      ∧ admits (.apc 0) false .read (lineOf lineAt.toNat) 64 (memOn [])
      ∧ admits (.apc 0) false .write (lineOf lineAt.toNat) 64 (memOn [])
      ∧ admits (.apc 0) false .write (0x53C : Addr).toNat 4 (memOn []) ∧ lineOf (0x53C : Addr).toNat = lineOf lineAt.toNat
      ∧ (match readOutcome (lineOf lineAt.toNat) [(3, 0xFF)] (memOn []) with
          | .corrected _ => true
          | _ => false) = true
      ∧ readOutcome (lineOf lineAt.toNat) [] { memOn [] with poison := [lineOf lineAt.toNat] } = .poison
      ∧ readOutcome (lineOf lineAt.toNat) ((List.range 9).map fun i => (i, 0xFF)) (memOn []) = .uncorrectable
      ∧ ¬(0 < recSize (memOn [])) ∧ [1, 2, 3, (4 : Byte)].length < 64 ∧ (0x53C : Addr).toNat + 4 ≤ 0x500 + 64
      ∧ (let s := memOn [(pSrc, 0x1F8, 0, 1)]
         0 < recSize s ∧ recBase s ≤ lineOf lineAt.toNat ∧ lineOf lineAt.toNat < recBase s + recSize s
           ∧ mayWriteRec (.apc 0) = false ∧ admits (.apc 0) false .write (lineOf lineAt.toNat) 64 s) := by decide +kernel
theorem witness_DramLines_retry :
    (∀ k, k ∈ [0, 1] →
      let r : Retry := { m := .apc 0, line := 0x500, use := .demand, left := k, acc := some 1 }
      let s := chan [] { retries := [r] }
      clocked s = true ∧ poisoned (lineOf lineAt.toNat) s = false
        ∧ ((smAt 5 s.dmc).retries.find? fun r =>
            r.line = lineOf lineAt.toNat && (r.m = .apc 0 || r.use = .scrub)) = some r)
      ∧ admittedRead (.gp 0) (pDmc 5) 0x080 (chan [] {}) ∧ (smAt 5 (chan [] {}).dmc).poisonQ = []
      ∧ admittedRead (.gp 0) (pDmc 5) 0x080 (chan [] { poisonQ := [(64, 2)] })
      ∧ (smAt 5 (chan [] { poisonQ := [(64, 2)] }).dmc).poisonQ = (64, 2) :: [] := by decide +kernel
theorem witness_DramLines_wait :
    (let s := chan [] { retries := [{ m := .apc 0, line := 0x500, use := .demand, left := 1, acc := some 1 }] }
     reachesAt (.apc 0) false .read (lineOf lineAt.toNat) 64 s = true ∧ mustWait (.apc 0) (lineOf lineAt.toNat) 64 s = true) := by
  decide
theorem witness_DramLines_answered :
    (∀ m, m = .apc 0 ∨ m = .gp 0 →
      let s := chan [] { retries := [{ m := m, line := 0x500, use := .demand, left := 1, acc := some 1 }] }
      served s = true ∧ s.behind = [] ∧ s.late = [] ∧ (keepsOrder m = true → outstanding m 1 s = false))
      ∧ keepsOrder (.gp 0) = true := by
  refine ⟨?_, by decide⟩
  rintro m (rfl | rfl) <;> decide
theorem witness_DramChannelStates :
    admitted (.gp 0) (pDmc 5) 0x040 (ready.reg (pDmc 5) 0x040 ||| 1) ready
      ∧ dmcCheck 5 0x040 (ready.reg (pDmc 5) 0x040 ||| 1) ready = .ok
      ∧ dmcState 5 (withRegs [(pDmc 5, 0x044, 0, 1)]) = dmcInitSt
      ∧ 0 < fittedRanks 5 (withRegs [(pDmc 5, 0x044, 0, 1)])
      ∧ pstate 5 0 (withRegs [(pDmc 5, 0x044, 0, 1)]) ≠ rankRetired
      ∧ spareAvail 5 (withRegs [(pDmc 5, 0x044, 0, 1)]) = false
      ∧ admitted (.gp 0) (pDmc 5) 0x090 (0x800 ||| 1) (chan [] {})
      ∧ dmcCheck 5 0x090 (0x800 ||| 1) (chan [] {}) = .ok
      ∧ (let s := chan [(pDmc 5, 0x044, 0, 4), (pDmc 5, 0x094, 0, 0x08000000)] {}
         dmcState 5 s = dmcMigrating ∧ logicalOf 5 (migSrc 5 s) s = some 0
           ∧ poisoned (physAddr 5 (0 * rankSize (dmcGeom 5 s) + 128 * wmark 5 s)) s = false)
      ∧ clocked (chan [] {}) = true ∧ dmcState 5 (chan [] {}) = dmcInService
      ∧ (let s := { chan [(pPmu, 0x054, 0, 1)] {} with pwr := { watchAck := true } }
         watchPending s = true ∧ s.pwr.watchAck = true ∧ dmcState 5 s = dmcInService ∧ served s = true
           ∧ (smAt 5 s.dmc).retries = [])
      ∧ (let s := chan [(pDmc 5, 0x044, 0, 3)] {}
         leavesSelfRefresh 5 s = true ∧ rankFitted 5 0 s = true) := by decide
theorem witness_DramUpkeep :
    pressing 5 [(0, 1000000)] (chan [] {}) = true ∧ pressing 5 [] (chan [] {}) = false
      ∧ rankLive 5 0 (chan [] {}) = true ∧ smAt 0 (smAt 5 (chan [] {}).dmc).owed + 1 ≤ postponeLimit 5 (chan [] {})
      ∧ postponeLimit 5 (chan [] {}) ≤ smAt 0 (smAt 5 (chan [] { owed := [(0, 8)] }).dmc).owed
      ∧ (chan [] {}).rb (pDmc 5) 0x040 1 = true ∧ dmcServes 5 (chan [] {}) = true
      ∧ scrubSeek 5 0 7 (chan [] {}) = some (0, 7) ∧ clocked (chan [] {}) = true
      ∧ 7 + 1 < rankLines 5 (chan [] {})
      ∧ 0 + (chan [] {}).rf (pDmc 5) 0x064 23 16 * 500000000 ≤ (chan [] {}).clk
      ∧ pstate 5 0 (chan [] {}) ≠ rankAbsent ∧ (smAt 5 (chan [] {}).dmc).alerts.lookup 0 = none
      ∧ (smAt 5 (chan [] { alerts := [(0, 50000000000)] }).dmc).alerts.lookup 0 = some 50000000000
      ∧ (∀ l, scrubLogical 5 0 7 (chan [] {}) = some l →
          poisoned (physAddr 5 (l * rankSize (dmcGeom 5 (chan [] {})) + 64 * 7)) (chan [] {}) = false)
      ∧ dmcState 5 (withRegs [(pDmc 5, 0x044, 0, 1)]) = dmcInitSt
      ∧ spareAvail 5 (chan [] {}) = true ∧ dmcState 5 (chan [] {}) = dmcInService
      ∧ pstate 5 0 (chan [] {}) = rankInService := by
  refine ⟨by decide, by decide, by decide, by decide, by decide, by decide, by decide, by decide, by decide, by decide,
    by decide, by decide, by decide, by decide, fun l h => ?_, by decide, by decide, by decide, by decide⟩
  cases h
  decide

/-! ## Interrupts and gates -/

/-- APC 7 with source 160 of ICA, priority 5, pending. -/
def irqSt (i : IcSt) : State :=
  { withRegs [(6, 0x800 + 4 * 160, 0, 0x800005), (6, procOff (.apc 7) 8, 0, 0), (6, procOff (.apc 7) 0xC, 0, 0)] with
    ic := i }

theorem witness_Interrupts :
    compareMet (.apc 7) (irqSt {}) = true ∧ procIdx (.apc 7) ∉ (irqSt {}).ic.fired
      ∧ smAt (procTimer (.apc 7)) (irqSt {}).ic.cnt < 255
      ∧ bestOffer (offerChoices .ica [.apc 7] (irqSt { cnt := [(160, 1)] }))
          = some { ctl := .ica, p := .apc 7, src := 160, prio := 5 }
      ∧ (let o : Offer := { ctl := .ica, p := .apc 7, src := 160, prio := 5 }
         offerTo (.apc 7) (irqSt { offers := [o] }) = some o ∧ ownLow (.apc 7) (irqSt { offers := [o] }) < o.prio
           ∧ spuriousNow o (irqSt { cnt := [(160, 1)], offers := [o] }) = false
           ∧ spuriousNow o (irqSt { offers := [o] }) = true)
      ∧ admitted (.apc 7) 6 0x048 0 (irqSt {}) ∧ procStack (.apc 7) (irqSt { prioStack := [(7, [5])] }) ≠ []
      ∧ admitted (.apc 0) (ctlPage .ica) 0x04C 191 (irqSt {})
      ∧ ictCheck (.apc 0) .ica 0x04C 191 (irqSt {}) = .ok ∧ smAt 191 (irqSt {}).ic.cnt < 255
      ∧ admitted (.apc 0) (ctlPage .ica) 0x050 510 (irqSt {})
      ∧ ictCheck (.apc 0) .ica 0x050 510 (irqSt {}) = .ok
      ∧ admitted (.apc 7) 6 (procOff (.apc 7) 4) 63 (irqSt {})
      ∧ ictCheck (.apc 7) .ica (procOff (.apc 7) 4) 63 (irqSt {}) = .ok
      ∧ admitted (.gp 1) 7 (procOff (.gp 1) 4) 15 (irqSt {})
      ∧ ictCheck (.gp 1) .ics (procOff (.gp 1) 4) 15 (irqSt {}) = .ok ∧ (irqSt {}).dev = devBoot
      ∧ clocked (irqSt {}) = true ∧ procRuns (.apc 7) (irqSt {}) = true := by decide

/-- Gate 31 enabled with region 15 allowing nothing, and region 0 on the pages that follow. -/
def gated (rs : List (Nat × Nat × Nat × Word)) : State :=
  withRegs ([(39, 0x008, 0, 1), (39, 0x1F0, 0, 0xF000000), (39, 0x1F4, 0, 0xF000000), (39, 0x1F8, 0, 1)] ++ rs)

theorem witness_GateCommands :
    admitted (.gp 0) 39 (0x108 + 0x10 * 15) 1 ready ∧ gteCheck 39 (0x108 + 0x10 * 15) 1 ready = .ok
      ∧ gteCheck 39 (0x108 + 0x10 * 0) 1 (gated [(39, 0x100, 0, 0xF000000), (39, 0x104, 0, 0xF000001)]) = .err 0x41
      ∧ admitted (.gp 0) 39 (0x108 + 0x10 * 0) 1 (gated [])
      ∧ admitted (.gp 0) 39 0x040 ((gated []).reg 39 0x040 ||| 4) (gated [])
      ∧ gteCheck 39 0x040 ((gated []).reg 39 0x040 ||| 4) (gated []) = .ok
      ∧ admitted (.gp 0) 39 0x060 1 (gated []) ∧ admittedRead (.gp 0) 39 0x048 (gated [])
      ∧ (let d : Drain := { gate := 31, m := .gp 0, id := 5, ids := [3], waited := 1, wide := false }
         let f : InFlight := { id := 5, gate := 8, m := .gp 0, addr := pageAddr 39 0x048, read := true, left := 1, ok := true }
         let s := { gated [] with drains := [d], inflight := [f] }
         (s.drains.find? fun d => d.gate = 31 && drainReady s d) = some d ∧ d.wide = false ∧ served s = true
           ∧ (keepsOrder d.m = true → outstanding d.m d.id s = false)
           ∧ (∀ l ∈ s.late, l.m ≠ d.m)) := by
  decide
theorem witness_GateFaultReachesNothing :
    let s := withRegs [(8, 0x008, 0, 1)]
    region (0xF000000FFC : Addr).toNat = .sram ∧ mayIssue (.apc 0) s = true ∧ gateOf (.apc 0) = some 0
      ∧ s.enabled (8 + 0) = true ∧ 0 < 4 ∧ (0xF000000FFC : Addr).toNat % 0x1000 + 4 ≤ 0x1000
      ∧ ∀ k, k ∈ [.read, .fetch, .write, .atomic] →
          (judgePart 0 (0xF000000FFC : Addr).toNat k (fixedPriv (.apc 0) false) s).1.isSome = true ∧ inTurn (.apc 0) s
            ∧ mustWait (.apc 0) (0xF000000FFC : Addr).toNat 4 s = false := by decide
/-- The first page of SRAM is admitted at gate 0 and the second is not, with BROMOTIA as given. -/
def halfOpen (bromotia : Word) : State :=
  withRegs [(8, 0x008, 0, 1), (8, 0x040, 0, bromotia), (8, 0x100, 0, 0xF000000), (8, 0x104, 0, 0xF000000), (8, 0x108, 0, 0x11F)]
theorem witness_GateFaultReachesNothing_crossing :
    let a := (0xF000000FFE : Addr).toNat
    let b := (0xF000001000 : Addr).toNat
    ((halfOpen 0).rb 8 0x040 0 = false ∧ (halfOpen 1).rb 8 0x040 0 = true ∧ (halfOpen 1).rb 8 0x050 31 = false)
      ∧ (judgePart 0 a .read (fixedPriv (.apc 0) true) (halfOpen 1)).1.isNone = true
      ∧ (judgePart 0 b .read (fixedPriv (.apc 0) true) (halfOpen 1)).1.isNone = false
      ∧ mustWait (.apc 0) a 4 (halfOpen 1) = false ∧ inTurn (.apc 0) (halfOpen 1) ∧ mayIssue (.apc 0) (halfOpen 1) = true
      ∧ region b = .sram ∧ b = a + 2 ∧ b < a + 4 := by decide
/-! ## DMA, check-value units and touch -/

/-- Engine 1 enabled with channel 7 on and an entry in its ring, a completion ring of 16 in SRAM. -/
def dmaSt (ctl : Word) (ch : DmaCh) (waiting : List DmaCpl) : State :=
  { withRegs [(pDma 1, 0x008, 0, 1), (pDma 1, 0x044, 0, 0xF0), (pDma 1, 0x048, 0, 4), (pDma 1, dmaOff 7 0, 0, ctl),
      (pDma 1, dmaOff 7 0xC, 0, 4), (pDma 1, dmaOff 7 0x14, 0, 1)] with
    dma := [(1, { chans := [(7, ch)], waiting })] }

theorem witness_DmaEngines :
    clocked (dmaSt 1 {} []) = true ∧ dmaLive 1 7 (dmaSt 1 {} []) = true ∧ (dmaSt 1 {} []).rf (pDma 1) 0x048 3 0 ≠ 0
      ∧ (dmaCh 1 7 (dmaSt 1 {} [])).inflight.length < 4
      ∧ ((dmaSt 1 {} []).reg (pDma 1) (dmaOff 7 0x10)).toNat % 16 ≠ ((dmaSt 1 {} []).reg (pDma 1) (dmaOff 7 0x14)).toNat % 16
      ∧ (∀ op, op ∈ [opCopy, opFill, opCrc, opCopyCrc] →
          let ch : DmaCh := { inflight := [{ op := op }] }
          let s := dmaSt 1 ch []
          (dmaCh 1 7 s).inflight.findIdx? (fun d => d.status.isNone || d.waits.isSome) = some 0
            ∧ (dmaCh 1 7 s).inflight[0]? = some ({ op := op } : DmaDesc) ∧ ({ op := op } : DmaDesc).waits = none ∧ dmaStalled 1 s = false ∧ s.enabled (pDma 1) = true)
      ∧ (let ch : DmaCh := { inflight := [{ status := some 5 }] }
         (dmaCh 1 7 (dmaSt 1 ch [])).inflight[0]? = some ({ status := some 5 } : DmaDesc) ∧ dmaReturned { status := some 5 } (dmaSt 1 ch []) = true)
      ∧ (let x : DmaCpl := { ch := 7, id := 1, status := 0, crc := 0, fault := 0 }
         let s := dmaSt 1 {} [x]
         cqFull 1 s = false ∧ (smAt 1 s.dma).cqError = false
           ∧ (dmaWriteAs 1 (dmaPriv 1 x.ch s) (s.pair (pDma 1) 0x040 + 16 * (s.reg (pDma 1) 0x04C).toNat)
               (cplBytes (smAt 1 s.dma).phase x) s).1 = true)
      ∧ admitted (.gp 0) (pDma 1) (dmaOff 7 0) (((dmaSt 1 {} []).reg (pDma 1) (dmaOff 7 0) &&& 9) ||| 4)
          (dmaSt 1 {} [])
      ∧ dmaCheck true 1 (dmaOff 7 0) (((dmaSt 1 {} []).reg (pDma 1) (dmaOff 7 0) &&& 9) ||| 4) (dmaSt 1 {} []) = .ok
      ∧ admitted (.gp 0) (pDma 1) (dmaOff 7 0) ((dmaSt 1 {} []).reg (pDma 1) (dmaOff 7 0) &&& 8) (dmaSt 1 {} [])
      ∧ dmaCheck true 1 (dmaOff 7 0) ((dmaSt 1 {} []).reg (pDma 1) (dmaOff 7 0) &&& 8) (dmaSt 1 {} []) = .ok
      ∧ admitted (.gp 0) (pDma 1) (dmaOff 7 0xC) 4 (dmaSt 0 {} [])
      ∧ dmaCheck true 1 (dmaOff 7 0xC) 4 (dmaSt 0 {} []) = .ok := by decide +kernel
theorem witness_DmaEngines_held :
    let w : DmaWait := { gate := 31, id := 5, ids := [3], wide := false, left := 0 }
    let d : DmaDesc := { op := opCopy, waits := some w }
    let s := dmaSt 1 { inflight := [d] } []
    let f : InFlight := { id := 3, gate := 31, m := .gp 0, addr := 0, read := true, left := 1, ok := true }
    (dmaCh 1 7 s).inflight.findIdx? (fun d => d.status.isNone || d.waits.isSome) = some 0
      ∧ (dmaCh 1 7 s).inflight[0]? = some d ∧ clocked s = true ∧ s.enabled (pDma 1) = true
      ∧ allDone w.ids s = true ∧ allDone w.ids { s with inflight := [f] } = false := by decide
theorem witness_CrcUnits :
    (let s := withRegs [(pCrc 7, 0x008, 0, 1), (pCrc 7, 0x050, 0, 4)]
     ([(0x050, (s.reg (pCrc 7) 0x050 &&& 4) ||| 1), (0x050, (s.reg (pCrc 7) 0x050 &&& 4) ||| 2), (0x05C, 0x7F),
        (0x060, 0x7F), (0x040, 0), (0x040, 0x400)] : List (Nat × Word)).all fun x =>
       admitted (.gp 0) (pCrc 7) x.1 x.2 s && crcCheck 7 x.1 x.2 s = .ok) = true := by decide
theorem witness_TouchScanning_watch :
    (let s := withRegs [(0, 0x040, 0, 1), (pTch, 0x040, 0, 1)]
     s.pwr.inReset = false ∧ s.dev = devWatch ∧ s.dev ≠ devTest ∧ s.latchedFld pTch 0x0E0 1 0 = 0
       ∧ s.rb pTch 0x040 0 = true ∧ s.tch.due ≤ s.clk)
      ∧ (let s := { withRegs [(0, 0x040, 0, 1), (pTch, 0x040, 0, 1), (pTch, 0x0E0, 0, 0x101)] with
           latched := [(rkey pTch 0x0E0 0, 0x101)] }
         s.dev = devWatch ∧ s.latchedFld pTch 0x0E0 1 0 ≠ 0) := by decide
theorem witness_TouchScanning_ends :
    noneWaits ({ ready with tch := { running := true } } : State) ∧ noneWaits (withRegs [(pTch, 0x040, 0, 5)])
      ∧ noneWaits (withRegs [(pPmu, 0x054, 0, 1)]) :=
  ⟨noneWaits_of rfl rfl, noneWaits_of rfl rfl, noneWaits_of rfl rfl⟩
theorem witness_TouchScanning :
    (let s := withRegs [(pTch, 0x058, 0, 4)]
     admitted (.gp 0) pTch 0x040 1 s ∧ tchCheck 0x040 1 s = .ok ∧ s.rb pTch 0x040 0 = false
       ∧ admitted (.gp 0) pTch 0x040 0 s
       ∧ admitted (.gp 0) pTch 0x040 ((s.reg pTch 0x040 &&& 1) ||| 4) s
       ∧ tchCheck 0x040 ((s.reg pTch 0x040 &&& 1) ||| 4) s = .ok)
      ∧ (let s := withRegs [(pTch, 0x040, 0, 5)]
         s.rb pTch 0x040 0 = true ∧ s.dev ≠ devWatch ∧ s.tch.due ≤ s.clk ∧ s.rb pTch 0x040 2 = true
           ∧ s.tch.running = false)
      ∧ (withRegs [(pTch, 0x080, 0, 1)]).tch.running = false ∧ pinMode 0 (withRegs [(pTch, 0x080, 0, 1)]) ≠ 0
      ∧ ({ ready with tch := { running := true } } : State).tch.running = true
      ∧ (let s := withRegs [(pPmu, 0x054, 0, 1)]
         watchPending s = true ∧ s.pwr.watchAck = false ∧ s.tch.running = false ∧ s.rb pTch 0x040 2 = false) := by decide +kernel

/-! ## Self-test, keys, MRAM -/

/-- TEST with debug access unlocked, partition 24 selected by the debug port. -/
def testSt (b : BstSt) : State :=
  { withRegs [(0, 0x040, 0, 5), (140, 0x384, 0, 1), (pBst, 0x04C, masterId .debug, 24)] with bst := { b with group := 3 } }

def runSt (b : BstSt) : State := { withRegs [(0, 0x040, 0, 3)] with bst := { b with group := 3 }, clk := 10000000000 }

theorem witness_SelfTestRuns :
    admitted (.gp 0) pBst 0x050 ((0xC3 : BitVec 8).setWidth 32) ready
      ∧ testAdmitted (.gp 0) ((0xC3 : BitVec 8).setWidth 32) ready = true
      ∧ admitted .debug pBst 0x040 (((testSt {}).reg pBst 0x040 &&& 1) ||| 4) (testSt {})
      ∧ bstCheck .debug 0x040 (((testSt {}).reg pBst 0x040 &&& 1) ||| 4) (testSt {}) = .ok
      ∧ supplyQuiet (testSt {}) = true ∧ (testSt {}).rfAt pBst 0x04C (masterId .debug) 4 0 = 24
      ∧ runStart 24 (runSt { runs := [(24, 10000000000)] }) = some 10000000000
      ∧ overlong 24 10000000000 (runSt { runs := [(24, 10000000000)] }) = false ∧ (runSt {}).dev = devRun
      ∧ admitted .debug pBst 0x040 (((testSt {}).reg pBst 0x040 &&& 1) ||| 2) (testSt { runs := [(24, 0)] })
      ∧ (testSt {}).dev = devTest ∧ overlong 24 0 (runSt { runs := [(24, 0)] }) = true
      ∧ supplyQuiet (testSt { waiting := [3] }) = true
      ∧ served (runSt {}) = true ∧ served (testSt { waiting := [0] }) = true
      ∧ (0 ∈ (testSt { waiting := [0] }).bst.waiting → (testSt { waiting := [0] }).keyStuck = false)
      ∧ (0 : Fin 16).val ∈ ({ fwDue := [0] } : BstSt).fwDue := by decide
/-- Engine 5 waits for its check of an empty image with the hash given. -/
def fwSt (s : State) (hash : List Byte) : State :=
  { s with bst := { s.bst with fwDue := [5] }, key := { s.key with seqHash := some hash } }
theorem witness_SelfTestRuns_firmware :
    ∀ hash, hash = sha384 [] ∨ hash = [] →
      (∀ s, s = fwSt ready hash ∨ s = fwSt (runSt {}) hash →
        served s = true ∧ s.key.seqHash = some hash ∧ (5 : Fin 16).val ∈ s.bst.fwDue
          ∧ (busRead .bst s.key.seqAt s.key.seqLen s).2.1 = [])
      ∧ (busRead .bst 0 0 (fwSt ready hash)).2.2.dev = devBoot
      ∧ (busRead .bst 0 0 (fwSt (runSt {}) hash)).2.2.dev = devRun := by
  rintro hash (rfl | rfl) <;> refine ⟨?_, by decide +kernel, by decide +kernel⟩ <;> rintro s (rfl | rfl) <;>
    exact ⟨by decide +kernel, rfl, by decide +kernel, by decide +kernel⟩
theorem witness_SelfTestRuns_wrong : sha384 [] ≠ [] := by decide +kernel
theorem witness_KeyStore :
    slotInUse 0 ready = false ∧ keyBusy ready = false ∧ clocked ready = true
      ∧ (let s : State := { ready with key := { vstore := some (500, none), fusing := [(7, 3)] }, clk := 500 }
         s.key.vstore = some (500, none) ∧ 500 ≤ s.clk ∧ s.key.fusing = (7, 3) :: [] ∧ 7 ≤ s.clk
           ∧ admitted (.gp 0) pKey 0x050 1 s ∧ admitted (.gp 0) pKey 0x048 3 s)
      ∧ (500 : Nat) < 501 := by decide
theorem witness_KeyStore_commands :
    admitted (.gp 0) pKey 0x048 0x101 ready
      ∧ admitted (.gp 0) pKey 0x048 0x302 ready
      ∧ ({ ready with vbt := { secret := some [] } } : State).vbt.secret.isSome = true
      ∧ admitted (.gp 0) pKey 0x048 3 ready ∧ admitted (.gp 0) pKey 0x050 1 ready
      ∧ admitted (.gp 0) pKey 0x050 2 ready ∧ admitted (.gp 0) pKey 0x054 1 ready
      ∧ admitted (.gp 0) pKey 0x060 ((255 : BitVec 8).setWidth 32) ready
      ∧ admittedRead (.gp 0) pKey 0x058 ready ∧ (withRegs [(pKey, 0x040, 0, 4)]).rb pKey 0x040 2 = true
      ∧ userSlot (.channel 3) (withRegs [(pEnc, encOff 3 0, 0, 1), (pEnc, encOff 3 0x30, 0, 0x701)]) = some 7
      ∧ userSlot (.ctx 127) (withRegs [(pSrc, 0x100, 127, 3), (pSrc, 0x11C, 127, 0x701)]) = some 7
      ∧ (smGet 7 ({ ready with key := { slots := [(7, {})] } } : State).key.slots).isSome = true := by decide
theorem witness_KeyStore_fuse :
    keyCheck (.gp 0) 0x060 ((255 : BitVec 8).setWidth 32) (withRegs [(pKey, 0x05C, 0, 0xFF0000)]) = .ok := by
  have h : Config.fuseSv.toNat < 256 := Config.fuseSv.isLt
  have e : fld 255#32 7 0 = 255 := by decide
  have r : reservedSet pKey 0x060 255#32 = false := by decide
  have key : ∀ s : State, s.rf pKey 0x05C 23 16 = 255 → s.fuseSv = 0 → s.key.fusing = [] → keyCheck (.gp 0) 0x060 255#32 s = .ok := by
    intro s a z f
    have a' : fld (s.regAt pKey 0x05C 0) 23 16 = 255 := a
    simp [keyCheck, r, e, fuseTarget, z, f]
    omega
  exact key _ (by decide) (by decide) (by decide)
theorem witness_MramStoresAndReads :
    (let st : MramStore := { ofs := 0x3FFFF8, data := List.replicate 8 1, m := .gp 0, acc := 0, begun := none }
     let s : State := { ready with mrm := { queue := [st] }, clk := 200 }
     s.mrm.queue = st :: [] ∧ st.begun = none ∧ supplyQuiet s = true ∧ st.data.length = 8 ∧ 0 + 200 ≤ s.clk
       ∧ ({ st with begun := some 0 } : MramStore).begun = some 0 ∧ st.ofs + 8 ≤ 0x400000
       ∧ served s = true ∧ st.m = .gp 0 ∧ st.ofs = 8 * 524287 ∧ st.spoilt = false ∧ s.mrm.withheld = [])
      ∧ ready.testHold pMrm = false ∧ 524287 ∉ ready.mrm.cut ∧ 524287 ∉ ready.mrm.bad := by decide
theorem witness_MramStoresAndReads_last :
    (let x : InFlight := { id := 3, gate := 8, m := .gp 0, addr := mramBase, read := false, left := 1, ok := true }
     let st : MramStore := { ofs := 0, data := List.replicate 8 1, m := .gp 0, acc := 3, begun := some 0 }
     let s : State := { ready with mrm := { queue := [st] }, clk := 200, inflight := [x] }
     (s.inflight.find? fun y => y.id = st.acc) = some x ∧ x.left = 1 ∧ (∀ l ∈ s.late, l.m ≠ x.m)
       ∧ (keepsOrder x.m = true → outstanding x.m x.id s = false)) := by decide
theorem witness_MramStoresAndReads_gate :
    admits (.gp 0) true .read (mramBase + 8 * 524287) 8 ready ∧ storesBefore (.gp 0) 524287 ready = [] := by decide +kernel
/-! ## Power, boot, host and management interfaces -/

theorem witness_DeviceResets :
    1000 ≤ 1000 ∧ 99 < 100 ∧ debugUnlocked (withRegs [(140, 0x384, 0, 1)]) = true
      ∧ served (withRegs [(140, 0x384, 0, 1)]) = true ∧ 899 < resetLevel .io18 ∧ resetLevel .core ≤ 5000 ∧ 499 < 500
      ∧ debugUnlocked ready = false
      ∧ isGuard (.gp 1) = true ∧ (0xA5C3 : Word).toNat % 2 ^ 16 = 0xA5C3
      ∧ admitted (.gp 1) pSys 0x054 0xA5C3 ready := by decide
theorem witness_ReleaseAndWake :
    (let s : State := { ready with pwr := { inReset := true, prevDev := 5 }, vbt := { valid := true } }
     s.pwr.inReset = true ∧ s.pwr.prevDev < 8 ∧ s.vbt.valid = true) ∧ ready.vbt.valid = false
      ∧ wakes (.pin 1000 1000) { withRegs [(0, 0x040, 0, 1), (pPmu, 0x058, 0, 2)] with clk := 1000000 } = true
      ∧ wakes .perst { withRegs [(0, 0x040, 0, 1), (pPmu, 0x058, 0, 4)] with pins := { perstLow := true } } = true
      ∧ wakes .touch { withRegs [(0, 0x040, 0, 1), (pPmu, 0x058, 0, 1)] with tch := { wake := true } } = true := by decide
theorem witness_SupplyEvents :
    belowWarning .core 699 = true ∧ belowWarning .io33 2999 = true
      ∧ warned { ready with pwr := { warnIo := true } } = true ∧ 2399 < 2400 ∧ 200 ≤ 200 ∧ railWarned .io33 { ready with pwr := { warnIo := true } } = true
      ∧ recovered 5000 5000 10000 { ready with pwr := { warnIo := true } } = true ∧ ready.vbt.low = false
      ∧ warned ready = false ∧ resetLevel .aon < 3000 ∧ ¬(resetLevel .aon < 500) := by
  decide

/-- Every condition of BOOT_DONE holds. -/
def bootSt : State :=
  { memOn ((pKey, 0x05C, 0, 1) :: (List.range 25).map fun p => (pBst, 0x060, p, 2)) with bst := { group := 3 } }

theorem witness_BootCommands :
    clocked { ready with bst := { group := 2 } } = true ∧ copyDue { ready with bst := { group := 2 } } = some (0 : Fin 2).val
      ∧ copyDue { withRegs [(pKey, 0x05C, 0, 2)] with bst := { group := 2 } } = some (1 : Fin 2).val
      ∧ isGuard (.gp 0) = true ∧ bootOrRun ready = true
      ∧ admitted (.gp 0) pSys 0x044 ((0xFF : BitVec 8).setWidth 32 <<< 8) ready
      ∧ ({ State.reset with bst := { group := 3 } } : State).rb pSys 0x044 15 = false ∧ bootSt.dev = devBoot ∧ admitted (.gp 0) pSys 0x044 1 bootSt
      ∧ bootReady bootSt = true ∧ bootReady ready = false := by decide +kernel
theorem witness_BootCommands_start : noneWaits { ready with bst := { group := 2 } } ∧ inMemory 0xF000000000 0x1800000
    ∧ inMemory 0 (64 * 2 ^ 20) :=
  ⟨noneWaits_of rfl rfl, inMemory_of (by decide), inMemory_of (by decide)⟩
theorem witness_WithdrawAndWatch :
    isApc (.apc 7) = true ∧ (0x5A96 : Word).toNat % 2 ^ 16 = 0x5A96 ∧ bootOrRun ready = true
      ∧ admits (.apc 7) true .write (pageAddr pSys 0x04C) 4 ready ∧ admitWrite (.apc 7) pSys 0x04C 0x5A96 ready = none
      ∧ bootOrRun (withRegs [(0, 0x040, 0, 4)]) = false
      ∧ watchAdmitted (.gp 1) (withRegs [(0, 0x040, 0, 3)]) = true ∧ watchPending (withRegs [(0, 0x040, 0, 3)]) = false
      ∧ admitted (.gp 1) pPmu 0x054 1 (withRegs [(0, 0x040, 0, 3)]) := by decide

/-- The link up, queue pair 15 enabled with 16 entries of each ring, and a command waiting. -/
def pciSt (p : PciSt) : State :=
  { withRegs [(pPci, 0x008, 0, 1), (pPci, 0x040, 0, 0x11111111), (pPci, 0x098, 15, 0x80000404), (pPci, 0x0A8, 15, 1)] with
    pci := p }

theorem witness_PcieLinkAndPower :
    admitted (.gp 0) pPci 0x054 1 (pciSt {}) ∧ pciCheck (.gp 0) 0x054 1 (pciSt {}) = .ok
      ∧ (withRegs [(pPci, 0x008, 0, 1), (pPci, 0x054, 0, 1)]).enabled pPci = true
      ∧ (withRegs [(pPci, 0x008, 0, 1), (pPci, 0x054, 0, 1)]).rb pPci 0x054 0 = true
      ∧ ready.pins.perstLow = false ∧ ready.pci.link = 0 ∧ 8 ∈ [1, 2, 4, 8] ∧ 5 ≤ 5
      ∧ (pciSt { link := 1 }).pci.link ≠ 0 ∧ linkLive (pciSt { link := 1 }) = true ∧ (pciSt { link := 1 }).pci.d3 = false
      ∧ (pciSt {}).enabled pPci = true ∧ barAddr .bar0 0xFFFFF (pciSt {}) = some (regBase + 0xFFFFF)
      ∧ barAddr .bar2 0x3FFFFFFF (pciSt {}) = some 0x3FFFFFFF ∧ barAddr .bar0 0x100000 (pciSt {}) = none
      ∧ linkLive (pciSt {}) = false ∧ ({ ready with pwr := { wakeLow := true } } : State).pwr.wakeLow = true
      ∧ leNat (((List.replicate 16 (1 : Byte)).drop 12).take 1) % 2 = 1
      ∧ ¬(leNat (((List.replicate 16 (0 : Byte)).drop 12).take 1) % 2 = 1)
      ∧ mustWait .pci (regBase + 0xFFFFF) 1 (pciSt {}) = false
      ∧ (let s := { pciSt { link := 1 } with
           dmc := [(0, { retries := [{ m := .pci, line := 0, use := .demand, left := 1, acc := some 1 }] })] }
         barAddr .bar2 0 s = some 0 ∧ mustWait .pci 0 4 s = true ∧ clocked s = true) := by decide
theorem witness_PcieQueues_store :
    (let s := { pciSt { link := 1 } with
       regs := (withRegs [(pPci, 0x008, 0, 1), (pPci, 0x098, 15, 0x80000404), (pPci, 0x0A8, 15, 1),
         (pPci, 0x094, 15, 0xF0)]).regs }
     let a := s.pairAt pPci 0x090 15 + 64 * (lsqTail 15 s % sqEntries 15 s)
     fetchDue 15 s = true ∧ region a = .sram ∧ a % 64 = 0 ∧ admits .pci false .write a 64 s) := by decide +kernel
theorem witness_PcieQueues_fetch : noneWaits (pciSt { link := 1 }) := noneWaits_of rfl rfl
theorem witness_PcieQueues :
    fetchDue 15 (pciSt { link := 1 }) = true ∧ linkLive (pciSt { link := 1 }) = true
      ∧ qpEn 15 (pciSt { link := 1 }) = true ∧ (15 : Word).toNat < sqEntries 15 (pciSt {})
      ∧ cqEntries 15 (pciSt {}) ≤ (16 : Word).toNat ∧ admitted (.gp 0) pPci 0x0CC 15 (pciSt { link := 1 })
      ∧ postCode 15 (pciSt { link := 1 }) = none ∧ holding (pciSt { link := 1 }) = false
      ∧ holding (pciSt { link := 1, d3 := true }) = true ∧ postCode 15 (pciSt { link := 1, d3 := true }) = none
      ∧ msgDue 15 (pciSt { link := 1, qps := [(15, { p := 1 })] }) = true ∧ 31 ∈ [31] := by decide
theorem witness_ManagementPage_halt :
    (let s := withRegs [(140, 0x384, 0, 2)]
     served s = true ∧ 2 ≤ debugLevel s) ∧ debugLevel ready < 2 := by decide
theorem witness_ManagementPage :
    (let s := withRegs [(pMge, 0x008, 0, 1), (pMge, i2cOff 3 0, 0, 3), (pMge, uartOff 1 0, 0, 0x360001)]
     admitted (.gp 0) pMge 0x090 0xC3FF0000 s ∧ mgeCheck (.gp 0) 0x090 0xC3FF0000 s = .ok
       ∧ mgeCheck (.gp 0) 0x090 0x83FFFFFF s = .ok
       ∧ admitted (.gp 0) pMge (i2cOff 3 4) (0x10107F ||| 0x80000000#32) s
       ∧ mgeCheck (.gp 0) (i2cOff 3 4) (0x10107F ||| 0x80000000#32) s = .ok
       ∧ admitted (.gp 0) pMge (uartOff 1 4) 0x41 s ∧ mgeCheck (.gp 0) (uartOff 1 4) 0x41 s = .ok
       ∧ uartOn 1 s = true ∧ (let s := { s with uart := [(1, { tx := [0x41], txAt := 0 })], clk := 43200 }
         uartSent 1 s = true ∧ (smAt 1 s.uart).tx.length = 1 ∧ clocked s = true) ∧ admittedRead (.gp 0) pMge (uartOff 1 8) s ∧ dbgFails s < 3)
      ∧ mdioBusy (withRegs [(pMge, 0x090, 0, 0xC0000000)]) = true
      ∧ i2cBusy 3 (withRegs [(pMge, i2cOff 3 4, 0, 0x80000000)]) = true := by decide


/-! ## The manual's worked examples and check values -/

def ascii19 : List Byte := [0x31, 0x32, 0x33, 0x34, 0x35, 0x36, 0x37, 0x38, 0x39]

/-- The result of preset `n` over "123456789". -/
def checkValue (n : Nat) : Word :=
  let s := crcAbsorb 0 ascii19 (crcStart 0 (crcLoad 0 n ready))
  crcResult 0 s

/-- The table of R382: the checks of presets 0x1 to 0x4. -/
theorem test_check_values : [checkValue 1, checkValue 2, checkValue 3, checkValue 4]
    = [0xE3069283, 0xCBF43926, 0x29B1, 0xF4] := by decide +kernel

/-- Chapter 7, worked example: an age of 415,061 µs reads "0.5 s". -/
theorem test_age_text : ageText 415061 = [0x30, 0x2E, 0x35, 0x20, 0x73] := by decide +kernel

/-- Chapter 2, worked example: outputs of 4,400 × 2,250 at exactly 60 Hz, released at S + 0.010 s. -/
def harrowgate : Schedule :=
  { t0 := 10000000 * 65536, p := 16666666 * 2 ^ 32 + 0xAAAAAAAA, n := 3, c := 50000000 * 65536 }
def harrowgateFrame : FrameIn := { hA := 3840, vA := 2160, vT := 2250, p32 := 16666666 * 2 ^ 32 + 0xAAAAAAAA }

/-- The camera's last capture time, S + 0.103 s. -/
def ageAt (frame row : Nat) : Nat :=
  (ageOf (scanTime harrowgateFrame (harrowgate.instant frame) row) (103000000 * 65536) 0).1

/-- The ages of that example: frame 10 row 16, frame 28 row 25, frame 29 rows 19 and 20, frame 30 row 16. -/
theorem test_harrowgate_ages :
    [ageAt 10 16, ageAt 28 25, ageAt 29 19, ageAt 29 20, ageAt 30 16]
      = [81727, 385994, 399816, 400290, 415061] := by decide +kernel

/-- Chapter 3, worked example: 59.94 Hz, the instants of indexes 0 to 3 and 179,820. -/
theorem test_schedule_5994 :
    let h : Schedule := { t0 := 0, p := 16683333 * 2 ^ 32 + 0x55555555, n := 3, c := 50050000 * 65536 }
    h.cycleOk = true ∧ [h.instant 0, h.instant 1, h.instant 2, h.instant 3, h.instant 179820]
      = [0, 16683333 * 65536 + 0x5555, 33366666 * 65536 + 0xAAAA, 50050000 * 65536,
         2999997000000 * 65536] := by decide +kernel

/-- Chapter 6, worked example: the luma block 100 + x + y takes 3 units, with the payload of the table. -/
theorem test_mborin_block :
    encodeBlock .luma8 (fun _ y x => 100 + x + y)
      = (3, [0x64, 0xA2] ++ List.replicate 15 0xAA ++ [0x02] ++ List.replicate 6 0x00) := by decide +kernel

/-- The same block decodes to its samples. -/
theorem test_mborin_block_decodes :
    decodeBlock .luma8 3 ([0x64, 0xA2] ++ List.replicate 15 0xAA ++ [0x02] ++ List.replicate 6 0x00)
      = some [(List.range 64).map fun i => 100 + i % 16 + i / 16] := by decide +kernel

/-! ## The standards that the manual names -/

/-- FIPS 180-4: the SHA-384 of "abc". -/
theorem test_sha384_abc : sha384 [0x61, 0x62, 0x63] = beBytes 48
    0xcb00753f45a35e8bb5a03d699ac65007272c32ab0eded1631a8b605a43ff5bed8086072ba1e7cc2358baeca134c825a7 := by
  decide +kernel

/-- FIPS 197, appendix C.1: one block under AES-128. -/
theorem test_aes128_block :
    aesNat (aesRoundKeys ((List.range 16).map fun i => BitVec.ofNat 8 i)) 0x00112233445566778899aabbccddeeff
      = 0x69c4e0d86a7b0430d8cdb78070b4c55a := by decide +kernel

/-! ## Pins -/

/-- R475: in BOOT just after reset, WITHDRAWN_N is driven low, WAKE is not driven, a trigger output is high-impedance
until OUT_EN is 1 and then drives its inactive level, and the RESET_N of a channel is low. -/
theorem test_pins_after_reset :
    pinDrive .withdrawnN ready = .low ∧ pinDrive .wake ready = .highZ
      ∧ pinDrive (.trig 0) ready = .highZ ∧ pinDrive (.dmcResetN 0) ready = .low
      ∧ pinDrive (.trig 0) (withRegs [(pTtu, 0x100, 0, 0xC)]) = .low := by decide +kernel
end Sys2Proof.Tests
end

section
/-! SUPPORT. The register pages: what the crossing queue, an error and a write leave of the register file, and the
selection of a source context through which a master reaches the SRC page (R16). -/

namespace Sys2Proof.Machine

variable {s : State} {m : Master} {page off : Nat} {v : Word}

/-! ## The crossing to the PIX domain leaves the register file alone (R22 to R24) -/

@[simp] theorem arrive_regs (x : Xw) (s : State) : (arrive x s).regs = s.regs := by
  unfold arrive
  dsimp only
  split <;> rfl

@[simp] theorem drainOne_regs (page : Nat) (s : State) : (drainOne page s).regs = s.regs := by
  unfold drainOne
  split
  · rfl
  · exact arrive_regs _ _

@[simp] theorem drainN_regs (page n : Nat) (s : State) : (drainN page n s).regs = s.regs := by
  induction n generalizing s with
  | zero => rfl
  | succ n ih => exact (ih _).trans (drainOne_regs page s)

@[simp] theorem drainAll_regs (page : Nat) (s : State) : (drainAll page s).regs = s.regs := drainN_regs _ _ _

@[simp] theorem cross_regs (page k : Nat) (words : List (Nat × Word)) (s : State) :
    (cross page k words s).regs = s.regs := by
  unfold cross
  dsimp only
  split
  · exact drainOne_regs _ _
  · rfl

@[simp] theorem crossIf_regs (r : RegRow) (page k : Nat) (words : List (Nat × Word)) (s : State) :
    (crossIf r page k words s).regs = s.regs := by
  unfold crossIf
  split
  · exact cross_regs _ _ _ _
  · exact drainAll_regs _ _

/-- A register reads alike in states of the same register file. -/
theorem State.regAt_congr {s t : State} (h : t.regs = s.regs) (p o i : Nat) : t.regAt p o i = s.regAt p o i := by
  unfold State.regAt
  rw [h]

@[simp] theorem crossIf_regAt (r : RegRow) (page k : Nat) (words : List (Nat × Word)) (s : State) (p o i : Nat) :
    (crossIf r page k words s).regAt p o i = s.regAt p o i := State.regAt_congr (crossIf_regs ..) p o i

/-! ## An error changes the error registers of its page only (R18) -/

theorem recordErr_regAt {p o i : Nat} (hp : p < 0x100) (ho : o < 0x1000) (hpage : page < 0x100)
    (h : p ≠ page ∨ i ≠ 0 ∨ (o ≠ 0x01C ∧ o ≠ 0x020 ∧ o ≠ 0x024)) (code k a : Nat) (s : State) :
    (s.recordErr page code k a).regAt p o i = s.regAt p o i := by
  have apart : ∀ o', o' = 0x01C ∨ o' = 0x020 ∨ o' = 0x024 → rkey p o i ≠ rkey page o' 0 := by
    intro o' ho' e
    obtain ⟨_, _, _⟩ := rkey_inj hp ho hpage (by omega) e
    omega
  unfold State.recordErr
  dsimp only [State.setReg_def]
  split
  · rw [State.regAt_setRegAt_ne _ (apart _ (by simp)), State.regAt_setRegAt_ne _ (apart _ (by simp)),
      State.regAt_setRegAt_ne _ (apart _ (by simp))]
  · exact State.regAt_setRegAt_ne _ (apart _ (by simp)) _

theorem refuse_regAt {p o i : Nat} (hp : p < 0x100) (ho : o < 0x1000) (hpage : page < 0x100)
    (h : p ≠ page ∨ i ≠ 0 ∨ (o ≠ 0x01C ∧ o ≠ 0x020 ∧ o ≠ 0x024)) (m : Master) (off code : Nat) (s : State) :
    (refuse m page off code s).regAt p o i = s.regAt p o i := recordErr_regAt hp ho hpage h _ _ _ s

/-! ## A write at its register (R6, R13) -/

/-- A field that is wholly writable, and neither cleared nor set by a written 1, takes the bits written. -/
theorem RegRow.fld_merge (r : RegRow) (old v : Word) (hi lo : Nat)
    (h : ∀ j < hi + 1, lo ≤ j → r.rw.getLsbD j = true ∧ r.w1c.getLsbD j = false ∧ r.w1s.getLsbD j = false) :
    fld (r.merge old v) hi lo = fld v hi lo := by
  unfold fld RegRow.merge
  congr 1
  ext j hj
  obtain ⟨hrw, hw1c, hw1s⟩ := h (lo + j) (by omega) (by omega)
  simpa [hrw, hw1c, hw1s] using BitVec.lt_of_getLsbD

theorem storeReg_single {r : RegRow} (hr : findRow page off = some r) (single : r.pair = .single) :
    (storeReg m page off v s).regs
      = (s.setRegAt (canonPage page off) off (winIdx r.win m s)
          (r.merge (s.regAt (canonPage page off) off (winIdx r.win m s)) v)).regs := by
  simp only [storeReg, hr, single, crossIf_regs]

/-- A write reaches a windowed register at the selected index: at every other index it reads as before. The high word of a
pair is written with its low word, which lies at the same index. -/
theorem storeReg_regAt_otherIndex {r : RegRow} {i : Nat} (hr : findRow page off = some r)
    (hi : i ≠ winIdx r.win m s) :
    (storeReg m page off v s).regAt (canonPage page off) off i = s.regAt (canonPage page off) off i := by
  have own : rkey (canonPage page off) off i ≠ rkey (canonPage page off) off (winIdx r.win m s) := by
    unfold rkey; omega
  have low : rkey (canonPage page off) off i ≠ rkey (canonPage page off) (off - 4) (winIdx r.win m s) := by
    unfold rkey; omega
  cases hpair : r.pair with
  | single => simp only [storeReg, hr, hpair, crossIf_regAt, State.regAt_setRegAt_ne _ own]
  | low =>
    simp only [storeReg, hr, hpair]
    split <;> rfl
  | high =>
    simp only [storeReg, hr, hpair]
    split
    · rfl
    · rw [crossIf_regAt, State.regAt_setRegAt_ne _ own, State.regAt_setRegAt_ne _ low]
      rfl

/-! ## The SRC page (R62, R102) -/

@[simp] theorem pageKind_src : pageKind pSrc = .src := by decide

@[simp] theorem canonPage_src (off : Nat) : canonPage pSrc off = pSrc := by simp [canonPage]

@[simp] theorem frozenPage_src (s : State) : frozenPage pSrc s = false := by simp [frozenPage, pixelPage]

/-- What a master's context window reaches is the selection that the SRC page keeps for it. -/
theorem winIdx_ctx (m : Master) (s : State) : winIdx .ctx m s = srcSel m s := rfl

theorem winIdx_ctx_eq (m : Master) (s : State) : winIdx .ctx m s = fld (s.regAt pSrc 0x040 (masterId m)) 6 0 := rfl

/-- The offsets of the per-context registers: 0x100 to 0x17C, and 0x200 to 0x224. -/
theorem findRow_src_ctx {r : RegRow} (hr : findRow pSrc off = some r) (hw : r.win = .ctx) :
    (0x100 ≤ off ∧ off ≤ 0x17C) ∨ (0x200 ≤ off ∧ off ≤ 0x224) := by
  have header : ∀ q ∈ tabHdr, q.win ≠ .ctx := by decide
  have table : ∀ q ∈ rowsOf .src, q.win = .ctx →
      q.count = 1 ∧ 0 < q.stride ∧ ((0x100 ≤ q.off ∧ q.off ≤ 0x17C) ∨ (0x200 ≤ q.off ∧ q.off ≤ 0x224)) := by decide
  unfold findRow at hr
  split at hr
  · exact absurd hw (header r (List.mem_of_find?_eq_some hr))
  · rw [pageKind_src] at hr
    obtain ⟨one, stride, range⟩ := table r (List.mem_of_find?_eq_some hr) hw
    have covers := List.find?_some hr
    simp only [RegRow.covers, one, Bool.and_eq_true, decide_eq_true_eq, Nat.lt_one_iff, Nat.div_eq_zero_iff] at covers
    obtain ⟨⟨above, aligned⟩, within⟩ := covers
    have : off - r.off = 0 := by
      rw [← aligned, Nat.mod_eq_of_lt (by omega)]
    omega

/-- A read of a per-context register shows it in the selected context, but where it shows the learned SSRC, the validity of
the sender report, or a capture time through its shadow (R63). -/
theorem srcRead_ctx (range : (0x100 ≤ off ∧ off ≤ 0x17C) ∨ (0x200 ≤ off ∧ off ≤ 0x224)) (ssrc : off ≠ 0x108)
    (report : off ≠ 0x138) (sec : off ≠ 0x218) (ns : off ≠ 0x21C) (frac : off ≠ 0x220) :
    (srcRead m off s).1 = s.regAt pSrc off (winIdx .ctx m s) := by
  have notRegion : ¬(0x1F0 ≤ off ∧ off < 0x200) := by omega
  rw [winIdx_ctx]
  unfold srcRead
  dsimp only
  split
  case h_8 => rfl  -- the read that captures the rest of the capture time
  case h_12 => simp [notRegion]
  all_goals omega

/-- Above the header, the SRC page answers its reads itself, in WITHDRAWN too (R31). -/
theorem liveRead_src (h : 0x40 ≤ off) : liveRead m pSrc off s = srcRead m off s := by
  simp only [liveRead, heldRead, frozenPage_src, Bool.false_and, Bool.false_eq_true, if_false, pageValue, pageKind_src]
  rw [if_neg (by omega), if_neg (by omega), if_neg (by omega), if_neg (by omega)]

/-! ## SRC_SEL (R16) -/

/-- The row of SRC_SEL: one selection for each master. -/
def srcSelRow : RegRow := { name := "SRC_SEL", off := 0x040, rw := 0x7F, resv := 0xFFFFFF80, win := .master }

theorem findRow_srcSel : findRow pSrc 0x040 = some srcSelRow := by decide

/-- The page accepts every write of SRC_SEL that is admitted. -/
theorem srcCheck_srcSel (m : Master) (v : Word) (s : State) : srcCheck m 0x040 v s = .ok := rfl

theorem pageWrite_srcSel_eq (bus : Bus) (priv : Bool) :
    pageWrite bus m priv pSrc 0x040 v s
      = regCommand m pSrc 0x040 v (srcCheck m 0x040 v) (srcEffect m 0x040 v s) s := rfl

theorem pageWrite_srcSel_admitted {bus : Bus} {priv : Bool} (h : admitWrite m pSrc 0x040 v s = none) :
    pageWrite bus m priv pSrc 0x040 v s = (storeReg m pSrc 0x040 v s).respond true 0 := by
  rw [pageWrite_srcSel_eq, regCommand_stored h (srcCheck_srcSel m v s)]
  rfl

theorem pageWrite_srcSel_refused {bus : Bus} {priv : Bool} {c : Nat} (h : admitWrite m pSrc 0x040 v s = some c) :
    pageWrite bus m priv pSrc 0x040 v s = refuse m pSrc 0x040 c s := by
  rw [pageWrite_srcSel_eq, regCommand_refused h]

theorem storeReg_srcSel_regs :
    (storeReg m pSrc 0x040 v s).regs
      = (s.setRegAt pSrc 0x040 (masterId m) (srcSelRow.merge (s.regAt pSrc 0x040 (masterId m)) v)).regs := by
  rw [storeReg_single findRow_srcSel rfl, canonPage_src]
  rfl

theorem srcSelRow_fld_merge (old v : Word) : fld (srcSelRow.merge old v) 6 0 = v.toNat % 128 := by
  rw [RegRow.fld_merge srcSelRow old v 6 0 (by decide)]
  simp [fld]

/-- The selection of the master that writes SRC_SEL is bits [6:0] of the value. -/
theorem winIdx_ctx_storeReg_srcSel : winIdx .ctx m (storeReg m pSrc 0x040 v s) = v.toNat % 128 := by
  rw [winIdx_ctx_eq, State.regAt_congr storeReg_srcSel_regs, State.regAt_setRegAt_same, srcSelRow_fld_merge]

/-- The selection of a master of another identifier stays, whether the write is admitted or refused. -/
theorem winIdx_ctx_pageWrite_srcSel_ne {bus : Bus} {priv : Bool} {m' : Master} (h : masterId m' ≠ masterId m) :
    winIdx .ctx m' (pageWrite bus m priv pSrc 0x040 v s) = winIdx .ctx m' s := by
  have key : rkey pSrc 0x040 (masterId m') ≠ rkey pSrc 0x040 (masterId m) := by
    unfold rkey; omega
  simp only [winIdx_ctx_eq]
  cases ha : admitWrite m pSrc 0x040 v s with
  | none =>
    rw [pageWrite_srcSel_admitted ha, State.respond_regAt, State.regAt_congr storeReg_srcSel_regs,
      State.regAt_setRegAt_ne _ key]
  | some c =>
    rw [pageWrite_srcSel_refused ha, refuse_regAt (by decide) (by decide) (by decide) (.inr (.inr (by decide)))]

/-- Settles O16: SRC_SEL is kept under the identifier of the master that writes it, and a per-context register is stored and
read at the index that this selection names (R16). -/
theorem contextSelectionIsPerMaster : Obligations.ContextSelectionIsPerMaster := by
  unfold Obligations.ContextSelectionIsPerMaster
  intro m priv v s
  refine ⟨?_, fun m' other => winIdx_ctx_pageWrite_srcSel_ne other, fun off r hr hw => ⟨?_, ?_⟩⟩
  · rintro ⟨-, taken, -⟩
    rw [pageWrite_srcSel_admitted taken]
    exact ⟨winIdx_ctx_storeReg_srcSel, rfl⟩
  · intro i _ hi
    have others := storeReg_regAt_otherIndex (m := m) (v := v) (s := s) hr (hw ▸ hi)
    rwa [canonPage_src] at others
  · intro ssrc report sec ns frac
    have range := findRow_src_ctx hr hw
    rw [liveRead_src (by omega)]
    exact srcRead_ctx range ssrc report sec ns frac

end Sys2Proof.Machine
end

section
/-! SUPPORT. Reads through a shadow: what the crossing queue and a read leave of the shadows, which shadows a read of the
SRC page can change, and the capture time of a source context (R13, R63). -/

namespace Sys2Proof.Machine

variable {s : State} {m : Master} {page off : Nat}

/-! ## The wait of a read leaves registers and shadows alone (R24) -/

@[simp] theorem arrive_shadow (x : Xw) (s : State) : (arrive x s).shadow = s.shadow := by
  unfold arrive
  dsimp only
  split <;> rfl

@[simp] theorem drainOne_shadow (page : Nat) (s : State) : (drainOne page s).shadow = s.shadow := by
  unfold drainOne
  split
  · rfl
  · exact arrive_shadow _ _

@[simp] theorem drainN_shadow (page n : Nat) (s : State) : (drainN page n s).shadow = s.shadow := by
  induction n generalizing s with
  | zero => rfl
  | succ n ih => exact (ih _).trans (drainOne_shadow page s)

@[simp] theorem drainFor_shadow (page k : Nat) (s : State) : (drainFor page k s).shadow = s.shadow := drainN_shadow _ _ _

@[simp] theorem drainFor_regs (page k : Nat) (s : State) : (drainFor page k s).regs = s.regs := drainN_regs _ _ _

@[simp] theorem drainFor_regAt (page k : Nat) (s : State) (p o i : Nat) :
    (drainFor page k s).regAt p o i = s.regAt p o i := State.regAt_congr (drainFor_regs ..) p o i

@[simp] theorem winIdx_ctx_drainFor (page k : Nat) (m : Master) (s : State) :
    winIdx .ctx m (drainFor page k s) = winIdx .ctx m s := by simp [winIdx_ctx_eq]

/-! ## The cases of a read at its page -/

theorem pageRead_answered_resp (h : admitRead page off s = none) :
    (pageRead m page off s).resp
      = { ok := true, data := (readValue m page off (drainFor (canonPage page off) (masterId m) s)).1.toNat } := by
  rw [pageRead, readCommand_answered h]
  rfl

theorem pageRead_answered_shadow (h : admitRead page off s = none) :
    (pageRead m page off s).shadow
      = (readValue m page off (drainFor (canonPage page off) (masterId m) s)).2.shadow := by
  rw [pageRead, readCommand_answered h]
  rfl

theorem pageRead_refused_shadow {c : Nat} (h : admitRead page off s = some c) :
    (pageRead m page off s).shadow = s.shadow := by
  rw [pageRead, readCommand_refused h]
  simp

/-- A read of a register that is no half of a pair and has no RC field is what the register shows. -/
theorem readValue_plain {r : RegRow} (hr : findRow page off = some r) (single : r.pair = .single) (rc : r.rc = 0) :
    readValue m page off s = liveRead m page off s := by
  simp [readValue, hr, single, rc]

/-! ## What a read leaves of the shadows, by the half of a pair that it reads (R13) -/

theorem readValue_undefined (hr : findRow page off = none) : readValue m page off s = (0, s) := by
  simp only [readValue, hr]

theorem readValue_single_shadow {r : RegRow} (hr : findRow page off = some r) (single : r.pair = .single) :
    (readValue m page off s).2.shadow = (liveRead m page off s).2.shadow := by
  simp only [readValue, hr, single]
  split <;> rfl

theorem readValue_low_shadow {r : RegRow} (hr : findRow page off = some r) (low : r.pair = .low) :
    (readValue m page off s).2.shadow
      = (setShadow m (canonPage page off) (off + 4) (winIdx r.win m s)
          (liveRead m page (off + 4) (liveRead m page off s).2).1
          (liveRead m page (off + 4) (liveRead m page off s).2).2).shadow := by
  simp only [readValue, hr, low]
  split <;> rfl

theorem readValue_high_shadow {r : RegRow} (hr : findRow page off = some r) (high : r.pair = .high) :
    (readValue m page off s).2.shadow
      = (readShadow m (canonPage page off) off (winIdx r.win m s) (liveRead m page off s).1
          (liveRead m page off s).2).2.shadow := by
  simp only [readValue, hr, high]
  split <;> rfl

/-! ## Whose shadow a key is -/

theorem fld_lt (w : Word) (hi lo : Nat) : fld w hi lo < 2 ^ (hi + 1 - lo) := BitVec.isLt _

theorem masterId_lt (m : Master) : masterId m < 0x100 := by
  cases m <;> simp only [masterId] <;> omega

/-- No window selects among more than 4096 registers. -/
theorem winIdx_lt (w : Win) (m : Master) (s : State) : winIdx w m s < 0x1000 := by
  cases w with
  | page => simp [winIdx]
  | master => exact Nat.lt_trans (masterId_lt m) (by decide)
  | dspBuf => exact fld_lt _ 11 0
  | _ => exact Nat.lt_of_lt_of_le (fld_lt _ _ _) (by decide)

theorem rkey_lt {idx : Nat} (hp : page < 0x100) (ho : off < 0x2000) (hi : idx < 0x1000) : rkey page off idx < 2 ^ 36 := by
  unfold rkey; omega

theorem shadowKey_div {key : Nat} (h : key < 2 ^ 36) (k : Nat) : shadowKey k key / 2 ^ 36 = k := by
  unfold shadowKey; omega

theorem ne_shadowKey {k j key : Nat} (h : key < 2 ^ 36) (hk : k / 2 ^ 36 ≠ j) : k ≠ shadowKey j key := by
  rintro rfl
  exact hk (shadowKey_div h j)

theorem shadowKey_off_ne {o o' i : Nat} (h : o ≠ o') (k page : Nat) :
    shadowKey k (rkey page o i) ≠ shadowKey k (rkey page o' i) := by
  unfold shadowKey rkey; omega

/-! ## A read changes shadows of its master only -/

theorem readShadow_shadow_ne {idx k : Nat} (h : k ≠ shadowKey (masterId m) (rkey page off idx)) (live : Word) :
    smGet k (readShadow m page off idx live s).2.shadow = smGet k s.shadow := by
  obtain ⟨w, -, answer⟩ | ⟨-, answer⟩ := readShadow_cases m page off idx live s
  · rw [answer]
    exact smGet_erase_ne h _
  · rw [answer]

/-- From `s` to `t`, only shadows of master `m` have changed. -/
def OwnShadowsOnly (m : Master) (s t : State) : Prop :=
  ∀ k, k / 2 ^ 36 ≠ masterId m → smGet k t.shadow = smGet k s.shadow

theorem OwnShadowsOnly.of_eq {t : State} (h : t.shadow = s.shadow) : OwnShadowsOnly m s t := fun _ _ => by rw [h]

theorem OwnShadowsOnly.refl (m : Master) (s : State) : OwnShadowsOnly m s s := .of_eq rfl

theorem OwnShadowsOnly.trans {t u : State} (h : OwnShadowsOnly m s t) (h' : OwnShadowsOnly m t u) :
    OwnShadowsOnly m s u := fun k hk => (h' k hk).trans (h k hk)

theorem setShadow_ownShadowsOnly {idx : Nat} (h : rkey page off idx < 2 ^ 36) (v : Word) :
    OwnShadowsOnly m s (setShadow m page off idx v s) := fun _ hk =>
  smGet_insert_ne (ne_shadowKey h hk) v _

theorem setShadows_ownShadowsOnly (hp : page < 0x100) (ws : List Word) (ho : off + 4 * ws.length ≤ 0x2000) :
    OwnShadowsOnly m s (setShadows m page off ws s) := by
  induction ws generalizing off s with
  | nil => exact .refl m s
  | cons w ws ih =>
    rw [List.length_cons] at ho
    exact (setShadow_ownShadowsOnly (rkey_lt hp (by omega) (by decide)) w).trans (ih (by omega))

theorem readShadow_ownShadowsOnly {idx : Nat} (h : rkey page off idx < 2 ^ 36) (live : Word) :
    OwnShadowsOnly m s (readShadow m page off idx live s).2 := fun _ hk => readShadow_shadow_ne (ne_shadowKey h hk) live

/-! ## What a read puts into shadows and takes out of them -/

theorem readShadow_held {idx : Nat} {w : Word} (h : smGet (shadowKey (masterId m) (rkey page off idx)) s.shadow = some w)
    (live : Word) : (readShadow m page off idx live s).1 = w := by
  simp [readShadow, h]

/-- Captured words leave the shadows of the registers below them alone. -/
theorem setShadows_shadow_below {o : Nat} (ws : List Word) (h : o < off) :
    smGet (shadowKey (masterId m) (rkey page o 0)) (setShadows m page off ws s).shadow
      = smGet (shadowKey (masterId m) (rkey page o 0)) s.shadow := by
  induction ws generalizing off s with
  | nil => rfl
  | cons w ws ih =>
    rw [setShadows, ih (by omega)]
    exact smGet_insert_ne (shadowKey_off_ne (by omega) _ _) _ _

/-- Each of the captured words is in the shadow of its register. -/
theorem setShadows_shadow (ws : List Word) {i : Nat} {w : Word} (h : ws[i]? = some w) :
    smGet (shadowKey (masterId m) (rkey page (off + 4 * i) 0)) (setShadows m page off ws s).shadow = some w := by
  induction ws generalizing off s i with
  | nil => simp at h
  | cons v ws ih =>
    cases i with
    | zero =>
      obtain rfl : v = w := by simpa using h
      rw [setShadows, setShadows_shadow_below ws (by omega)]
      exact smGet_insert_same _ _ _
    | succ i =>
      rw [setShadows, show off + 4 * (i + 1) = off + 4 + 4 * i by omega]
      exact ih (by simpa using h)

/-! ## Reads of the SRC page -/

theorem pSrc_lt : pSrc < 0x100 := by decide

/-- A read of the common header changes no shadow. -/
theorem liveRead_src_header (h : off < 0x40) : (liveRead m pSrc off s).2 = s := by
  simp only [liveRead, heldRead, frozenPage_src, Bool.false_and, Bool.false_eq_true, if_false, pageValue, h, if_true]
  split
  · rfl
  · split
    · rfl
    · split <;> rfl

theorem srcRead_ownShadowsOnly : OwnShadowsOnly m s (srcRead m off s).2 := by
  unfold srcRead
  dsimp only
  split
  -- the read of the low seconds captures; the reads of the three other registers use a capture up
  case h_8 => exact setShadows_ownShadowsOnly pSrc_lt _ (by simp)
  case h_9 | h_10 | h_11 => exact readShadow_ownShadowsOnly (by decide) _
  case h_12 => split <;> exact .refl m s
  all_goals exact .refl m s

theorem liveRead_src_ownShadowsOnly : OwnShadowsOnly m s (liveRead m pSrc off s).2 := by
  by_cases h : off < 0x40
  · rw [liveRead_src_header h]
    exact .refl m s
  · rw [liveRead_src (by omega)]
    exact srcRead_ownShadowsOnly

theorem readValue_src_ownShadowsOnly (ho : off < 0x1000) : OwnShadowsOnly m s (readValue m pSrc off s).2 := by
  cases hr : findRow pSrc off with
  | none =>
    rw [readValue_undefined hr]
    exact .refl m s
  | some r =>
    have key : ∀ o, o < 0x2000 → rkey pSrc o (winIdx r.win m s) < 2 ^ 36 :=
      fun o h => rkey_lt pSrc_lt h (winIdx_lt r.win m s)
    have live : ∀ {o : Nat} {u : State}, OwnShadowsOnly m u (liveRead m pSrc o u).2 := liveRead_src_ownShadowsOnly
    cases hpair : r.pair with
    | single => exact live.trans (.of_eq (readValue_single_shadow hr hpair))
    | low =>
      have stored := readValue_low_shadow (m := m) (s := s) hr hpair
      rw [canonPage_src] at stored
      exact (live.trans (live.trans (setShadow_ownShadowsOnly (key (off + 4) (by omega)) _))).trans (.of_eq stored)
    | high =>
      have stored := readValue_high_shadow (m := m) (s := s) hr hpair
      rw [canonPage_src] at stored
      exact (live.trans (readShadow_ownShadowsOnly (key off (by omega)) _)).trans (.of_eq stored)

/-- No read of the SRC page changes a shadow of another master. -/
theorem pageRead_src_ownShadowsOnly (ho : off < 0x1000) : OwnShadowsOnly m s (pageRead m pSrc off s) := by
  cases h : admitRead pSrc off s with
  | some c => exact .of_eq (pageRead_refused_shadow h)
  | none =>
    have waited : OwnShadowsOnly m s (drainFor (canonPage pSrc off) (masterId m) s) := .of_eq (drainFor_shadow ..)
    exact (waited.trans (readValue_src_ownShadowsOnly ho)).trans (.of_eq (pageRead_answered_shadow h))

/-! ## The capture time (R63) -/

/-- The offsets of SRC_LAST_CT_SEC_HI, SRC_LAST_CT_NS and SRC_LAST_CT_FRAC. -/
def IsCaptureRest (off : Nat) : Prop := off = 0x218 ∨ off = 0x21C ∨ off = 0x220

theorem readValue_captureSec (m : Master) (s : State) :
    readValue m pSrc 0x214 s
      = (s.regAt pSrc 0x214 (winIdx .ctx m s),
          setShadows m pSrc 0x218 [s.regAt pSrc 0x218 (winIdx .ctx m s), s.regAt pSrc 0x21C (winIdx .ctx m s),
            s.regAt pSrc 0x220 (winIdx .ctx m s)] s) := by
  rw [readValue_plain (r := { name := "SRC_LAST_CT_SEC_LO", off := 0x214, win := .ctx }) (by decide) rfl rfl,
    liveRead_src (by decide)]
  rfl

theorem readValue_captureRest (h : IsCaptureRest off) (m : Master) (s : State) :
    readValue m pSrc off s = readShadow m pSrc off 0 (s.regAt pSrc off (winIdx .ctx m s)) s := by
  have plain : ∃ r, findRow pSrc off = some r ∧ r.pair = .single ∧ r.rc = 0 := by
    rcases h with rfl | rfl | rfl <;> exact ⟨_, rfl, rfl, rfl⟩
  obtain ⟨r, row, single, rc⟩ := plain
  have above : 0x40 ≤ off := by unfold IsCaptureRest at h; omega
  rw [readValue_plain row single rc, liveRead_src above]
  rcases h with rfl | rfl | rfl <;> rfl

theorem pageRead_captureSec_resp (h : admitRead pSrc 0x214 s = none) :
    (pageRead m pSrc 0x214 s).resp = { ok := true, data := (s.regAt pSrc 0x214 (winIdx .ctx m s)).toNat } := by
  rw [pageRead_answered_resp h, readValue_captureSec]
  simp

/-- The read of the low seconds puts each of the three other registers, as it stands, into the reader's shadow of it. -/
theorem pageRead_captureSec_shadow (h : admitRead pSrc 0x214 s = none) (ho : IsCaptureRest off) :
    smGet (shadowKey (masterId m) (rkey pSrc off 0)) (pageRead m pSrc 0x214 s).shadow
      = some (s.regAt pSrc off (winIdx .ctx m s)) := by
  rw [pageRead_answered_shadow h, readValue_captureSec]
  simp only [drainFor_regAt, winIdx_ctx_drainFor]
  rcases ho with rfl | rfl | rfl
  · exact setShadows_shadow (i := 0) _ rfl
  · exact setShadows_shadow (i := 1) _ rfl
  · exact setShadows_shadow (i := 2) _ rfl

theorem pageRead_captureRest_resp {w : Word} (ho : IsCaptureRest off) (h : admitRead pSrc off s = none)
    (held : smGet (shadowKey (masterId m) (rkey pSrc off 0)) s.shadow = some w) :
    (pageRead m pSrc off s).resp = { ok := true, data := w.toNat } := by
  rw [pageRead_answered_resp h, readValue_captureRest ho, readShadow_held (by rwa [drainFor_shadow])]

/-- A read of one of the three registers uses up no shadow but its own. -/
theorem pageRead_captureRest_shadow_ne {o : Nat} (ho : IsCaptureRest o) (other : o ≠ off) :
    smGet (shadowKey (masterId m) (rkey pSrc off 0)) (pageRead m pSrc o s).shadow
      = smGet (shadowKey (masterId m) (rkey pSrc off 0)) s.shadow := by
  cases h : admitRead pSrc o s with
  | some c => rw [pageRead_refused_shadow h]
  | none =>
    rw [pageRead_answered_shadow h, readValue_captureRest ho,
      readShadow_shadow_ne (shadowKey_off_ne (Ne.symm other) _ _), drainFor_shadow]

/-- Settles O17: the read of the low seconds leaves the three other words in its master's shadows, and neither another
master nor a read of another of the three reaches such a shadow (R63). -/
theorem captureTimeIsReadThroughAShadow : Obligations.CaptureTimeIsReadThroughAShadow := by
  unfold Obligations.CaptureTimeIsReadThroughAShadow
  intro m s taken
  refine ⟨pageRead_captureSec_resp taken, fun off ho u => ⟨?_, ?_, ?_⟩⟩
  · intro same answered
    exact pageRead_captureRest_resp ho answered (same.trans (pageRead_captureSec_shadow taken ho))
  · intro m' o below other
    have key : rkey pSrc off 0 < 2 ^ 36 := rkey_lt pSrc_lt (by omega) (by decide)
    refine pageRead_src_ownShadowsOnly below _ ?_
    rw [shadowKey_div key]
    exact other.symm
  · exact fun o rest apart => pageRead_captureRest_shadow_ne rest apart

end Sys2Proof.Machine
end

section
/-! SUPPORT. The writes of the time base: what an accepted write and an error of a register page leave of the state, the
answer to a write that is issued in its turn, and the range of PTP_RATE_ADJ (R70). -/

namespace Sys2Proof.Machine

variable {s t : State} {m : Master} {page off : Nat} {v : Word}

/-! ## The crossing to the PIX domain leaves all but its own tables alone (R22 to R24) -/

/-- `t` is `s` but for the crossing queue and what it has brought to the PIX domain. -/
def CrossingOnly (s t : State) : Prop := ∃ p a x, t = { s with pix := p, arrived := a, xq := x }

theorem CrossingOnly.refl (s : State) : CrossingOnly s s := ⟨_, _, _, rfl⟩

theorem CrossingOnly.trans {s t u : State} : CrossingOnly s t → CrossingOnly t u → CrossingOnly s u := by
  rintro ⟨_, _, _, rfl⟩ ⟨p, a, x, rfl⟩
  exact ⟨p, a, x, rfl⟩

theorem arrive_crossingOnly (x : Xw) (s : State) : CrossingOnly s (arrive x s) := by
  unfold arrive
  dsimp only
  split <;> exact ⟨_, _, _, rfl⟩

theorem drainOne_crossingOnly (page : Nat) (s : State) : CrossingOnly s (drainOne page s) := by
  unfold drainOne
  split
  · exact .refl s
  · exact .trans ⟨_, _, _, rfl⟩ (arrive_crossingOnly _ _)

theorem drainN_crossingOnly (page n : Nat) (s : State) : CrossingOnly s (drainN page n s) := by
  induction n generalizing s with
  | zero => exact .refl s
  | succ n ih => exact (drainOne_crossingOnly page s).trans (ih _)

theorem cross_crossingOnly (page k : Nat) (words : List (Nat × Word)) (s : State) :
    CrossingOnly s (cross page k words s) := by
  unfold cross
  dsimp only
  split
  · exact (drainOne_crossingOnly page s).trans ⟨_, _, _, rfl⟩
  · exact ⟨_, _, _, rfl⟩

theorem crossIf_crossingOnly (r : RegRow) (page k : Nat) (words : List (Nat × Word)) (s : State) :
    CrossingOnly s (crossIf r page k words s) := by
  unfold crossIf
  split
  · exact cross_crossingOnly page k words s
  · exact drainN_crossingOnly page _ s

/-! ## An accepted write of a register that is no half of a pair (R6) -/

/-- A register of which every bit is writable, and none cleared or set by a written 1, takes the word written. -/
theorem RegRow.merge_of_writable {r : RegRow} (rw : r.rw = BitVec.allOnes 32) (w1c : r.w1c = 0) (w1s : r.w1s = 0)
    (old v : Word) : r.merge old v = v := by
  simp only [RegRow.merge, rw, w1c, w1s, BitVec.ofNat_eq_ofNat, BitVec.not_allOnes, BitVec.not_zero, BitVec.and_zero,
    BitVec.zero_or, BitVec.or_zero, BitVec.and_allOnes]

theorem storeReg_single_crossingOnly {r : RegRow} (hr : findRow page off = some r) (single : r.pair = .single) :
    CrossingOnly
      (s.setRegAt (canonPage page off) off (winIdx r.win m s)
        (r.merge (s.regAt (canonPage page off) off (winIdx r.win m s)) v))
      (storeReg m page off v s) := by
  simp only [storeReg, hr, single]
  exact crossIf_crossingOnly ..

/-! ## The first error since a clear (R18) -/

/-- The word of ERR_CODE holds its code in bits [15:0]. -/
theorem fld_errCode {code : Nat} (h : code < 2 ^ 16) (count k : Nat) :
    fld (BitVec.ofNat 32 (count * 2 ^ 24 + k * 2 ^ 16 + code)) 15 0 = code := by
  have split : count * 2 ^ 24 + k * 2 ^ 16 + code = code + 2 ^ 16 * (count * 2 ^ 8 + k) := by omega
  rw [fld, BitVec.extractLsb'_toNat, BitVec.toNat_ofNat, Nat.shiftRight_zero,
    Nat.mod_mod_of_dvd _ (Nat.pow_dvd_pow 2 (by decide)), split, Nat.add_mul_mod_self_left, Nat.mod_eq_of_lt h]

theorem recordErr_code {code : Nat} (hpage : page < 0x100) (h : code < 2 ^ 16) (k a : Nat)
    (first : s.rf page 0x01C 31 24 = 0) : (s.recordErr page code k a).rf page 0x01C 15 0 = code := by
  have apart : ∀ o', o' = 0x020 ∨ o' = 0x024 → rkey page 0x01C 0 ≠ rkey page o' 0 := by
    intro o' ho' e
    obtain ⟨-, _, -⟩ := rkey_inj hpage (by omega) hpage (by omega) e
    omega
  have clear : fld (s.reg page 0x01C) 31 24 = 0 := first
  unfold State.recordErr
  dsimp only
  rw [if_pos clear]
  simp only [State.setReg_def, State.rf_def]
  rw [State.regAt_setRegAt_ne _ (apart _ (by simp)), State.regAt_setRegAt_ne _ (apart _ (by simp)),
    State.regAt_setRegAt_same, fld_errCode h]

/-! ## The answer to an access that is issued in its turn (R28, R340, R341) -/

/-- What leaves the accesses in flight alone has put none of them there. -/
theorem flown_eq_nil (same : t.inflight = s.inflight) : flown m s t = [] := by
  simp only [flown, same, List.map_eq_nil_iff, List.filter_eq_nil_iff]
  intro x hx
  simp [hx]

/-- An access that stays out of flight is answered at once where no earlier one of its master holds the response back. -/
theorem settled_inTurn {kind : AccKind} {a : Nat} {f : State → State} (turn : inTurn m s)
    (same : (f s).inflight = s.inflight) : settled m kind a f s = reported m kind a (f s) := by
  have ready : ¬(keepsOrder m && outstanding m s.accId (f s)) = true := by
    have : outstanding m s.accId (f s) = outstanding m s.accId s := by simp only [outstanding, same]
    rw [this, Bool.and_eq_true, not_and, Bool.not_eq_true]
    exact turn
  unfold settled
  dsimp only
  rw [flown_eq_nil same, if_neg (not_not_intro rfl), delivered, if_neg ready]

theorem issue_admitted {f : State → State} (h : admitted m page off v s) (same : (f s).inflight = s.inflight) :
    issue m .write page off f s = reported m .write (pageAddr page off) (f s) := by
  obtain ⟨reached, -, turn⟩ := h
  exact (issueAt_admitted reached).trans (settled_inTurn turn same)

theorem reported_ok {kind : AccKind} {a : Nat} (h : s.resp.ok = true) : reported m kind a s = s := if_pos h

/-- No store to a register page is posted (R338). -/
theorem postedAt_pageAddr (hp : page < 0x8D) (ho : off < 0x1000) : postedAt (pageAddr page off) = false := by
  have regs : region (pageAddr page off) = .regs := by
    unfold region pageAddr
    iterate 4 rw [if_neg (by omega)]
    exact if_pos (by omega)
  simp [postedAt, regs]

/-- The report of a write's error response, where no store is posted, is at most an exception sent out. -/
theorem reported_write_frame {a : Nat} (h : postedAt a = false) (m : Master) (s : State) :
    ∃ o, reported m .write a s = { s with outbox := o } := by
  unfold reported
  split
  · exact ⟨_, rfl⟩
  · unfold reportErr
    split
    case h_1 =>
      rw [if_neg (by simp [h])]
      exact ⟨_, rfl⟩
    case h_3 => exact ⟨_, if_neg (by decide)⟩
    case h_2 | h_4 => exact ⟨_, rfl⟩

/-! ## PTP_RATE_ADJ (R70) -/

/-- The row of PTP_RATE_ADJ: a word of which every bit is writable. -/
def rateAdjRow : RegRow := { name := "PTP_RATE_ADJ", off := 0x068, rw := 0xFFFFFFFF }

theorem findRow_rateAdj : findRow pPtp 0x068 = some rateAdjRow := by decide

theorem storeReg_rateAdj_crossingOnly : CrossingOnly (s.setRegAt pPtp 0x068 0 v) (storeReg m pPtp 0x068 v s) := by
  have page : canonPage pPtp 0x068 = pPtp := by decide
  have stored := storeReg_single_crossingOnly (m := m) (v := v) (s := s) findRow_rateAdj rfl
  rwa [page, RegRow.merge_of_writable (by decide) rfl rfl] at stored

theorem exec_rateAdj (m : Master) (v : Word) (s : State) :
    exec (.ptpRateAdj m v) s = .next (issue m .write pPtp 0x068 (ptpWrite m 0x068 v) s) := rfl

theorem ptpCheck_rateAdj_inRange (h : -549755813 ≤ sW v ∧ sW v ≤ 549755813) : ptpCheck 0x068 v s = .ok :=
  if_neg (by omega)

theorem ptpCheck_rateAdj_outOfRange (h : sW v < -549755813 ∨ 549755813 < sW v) : ptpCheck 0x068 v s = .err 0x40 :=
  if_pos h

/-- A value in the range is stored, and the write has no further effect. -/
theorem exec_rateAdj_inRange (ha : admitted m pPtp 0x068 v s) (h : -549755813 ≤ sW v ∧ sW v ≤ 549755813) :
    exec (.ptpRateAdj m v) s = .next ((storeReg m pPtp 0x068 v s).respond true 0) := by
  have ⟨_, taken, _⟩ := ha
  have write : ptpWrite m 0x068 v s = (storeReg m pPtp 0x068 v s).respond true 0 :=
    regCommand_stored taken (ptpCheck_rateAdj_inRange h)
  have same : (ptpWrite m 0x068 v s).inflight = s.inflight := by
    obtain ⟨p, a, x, e⟩ := storeReg_rateAdj_crossingOnly (s := s) (m := m) (v := v)
    rw [write, e]
    rfl
  rw [exec_rateAdj, issue_admitted ha same, write, reported_ok rfl]

/-- A value outside the range is refused with code 0x40; the master may be told of an error. -/
theorem exec_rateAdj_outOfRange (ha : admitted m pPtp 0x068 v s) (h : sW v < -549755813 ∨ 549755813 < sW v) :
    ∃ o, exec (.ptpRateAdj m v) s = .next { refuse m pPtp 0x068 0x40 s with outbox := o } := by
  have ⟨_, taken, _⟩ := ha
  have write : ptpWrite m 0x068 v s = refuse m pPtp 0x068 0x40 s :=
    regCommand_checked taken (ptpCheck_rateAdj_outOfRange h)
  have same : (ptpWrite m 0x068 v s).inflight = s.inflight := by
    rw [write]
    exact s.recordErr_inflight ..
  obtain ⟨o, told⟩ := reported_write_frame (postedAt_pageAddr (page := pPtp) (off := 0x068) (by decide) (by decide)) m
    (refuse m pPtp 0x068 0x40 s)
  exact ⟨o, by rw [exec_rateAdj, issue_admitted ha same, write, told]⟩

/-- Settles O18: the page's check divides the values at ±549,755,813; a value that it takes reaches PTP_RATE_ADJ alone, and
one that it refuses reaches the error registers of the page alone (R70). -/
theorem rateAdjustmentRange : Obligations.RateAdjustmentRange := by
  unfold Obligations.RateAdjustmentRange
  intro m v s ha
  constructor
  · intro h
    obtain ⟨p, a, x, stored⟩ := storeReg_rateAdj_crossingOnly (s := s) (m := m) (v := v)
    refine ⟨_, exec_rateAdj_inRange ha h, ?_⟩
    rw [stored]
    refine ⟨s.regAt_setRegAt_same .., rfl, rfl, rfl, fun p o i ⟨hp, ho, _⟩ other => ?_⟩
    refine State.regAt_setRegAt_ne s (fun e => ?_) v
    obtain ⟨rfl, rfl, rfl⟩ := rkey_inj hp ho (by decide) (by decide) e
    simp at other
  · intro h
    obtain ⟨o, run⟩ := exec_rateAdj_outOfRange ha h
    refine ⟨_, run, fun first => ?_, refuse_mem .., s.recordErr_tm .., fun p o i ⟨hp, ho, _⟩ other => ?_⟩
    · exact recordErr_code (by decide) (by decide) _ _ first
    · exact refuse_regAt hp ho (by decide) other ..

end Sys2Proof.Machine
end

section
/-! SUPPORT. The withdrawal of the device (R31, R437 to R439): what events, self-test runs and the withdrawal itself
leave of the register file, the cause that it records, and a memory channel that fails in BOOT (R311, R328, R447). -/

namespace Sys2Proof.Machine

variable {s : State} {p o : Nat}

/-! ## A field of a word -/

theorem getLsbD_maskW {hi lo i : Nat} (h : hi < 32) (hl : lo ≤ i) (hr : i ≤ hi) : (maskW hi lo).getLsbD i = true := by
  have inside : 31 - hi + i < 32 ∧ i < 32 ∧ ¬ i < lo ∧ i - lo < 32 := by omega
  simp only [maskW, BitVec.getLsbD_and, BitVec.getLsbD_ushiftRight, BitVec.getLsbD_shiftLeft, BitVec.getLsbD_allOnes,
    inside, decide_true, decide_false, Bool.not_false, Bool.and_self]

/-- A field holds the value put into it. -/
theorem fld_putFld_same {hi lo v : Nat} (w : Word) (h : hi < 32) (hv : v < 2 ^ (hi + 1 - lo)) :
    fld (putFld w hi lo v) hi lo = v := by
  have word : (putFld w hi lo v).extractLsb' lo (hi + 1 - lo) = BitVec.ofNat (hi + 1 - lo) v := by
    refine BitVec.eq_of_getLsbD_eq fun j hj => ?_
    have inside := getLsbD_maskW h (show lo ≤ lo + j by omega) (by omega)
    have bounds : lo + j < 32 ∧ j < 32 ∧ ¬ lo + j < lo := by omega
    simp only [putFld, BitVec.getLsbD_extractLsb', BitVec.getLsbD_ofNat, BitVec.getLsbD_or, BitVec.getLsbD_and,
      BitVec.getLsbD_not, BitVec.getLsbD_shiftLeft, inside, hj, bounds, Nat.add_sub_cancel_left, decide_true,
      decide_false, Bool.not_true, Bool.not_false, Bool.and_false, Bool.and_true, Bool.true_and, Bool.false_or]
  rw [fld, word, BitVec.toNat_ofNat, Nat.mod_eq_of_lt hv]

theorem fld_ofNat {hi : Nat} (h : hi < 32) (lo v : Nat) :
    fld (BitVec.ofNat 32 v) hi lo = v / 2 ^ lo % 2 ^ (hi + 1 - lo) := by
  by_cases hl : lo ≤ hi
  · have split : 2 ^ 32 = 2 ^ lo * 2 ^ (32 - lo) := by rw [← Nat.pow_add]; congr 1; omega
    rw [fld, BitVec.extractLsb'_toNat, BitVec.toNat_ofNat, Nat.shiftRight_eq_div_pow, split, Nat.mod_mul_right_div_self,
      Nat.mod_mod_of_dvd _ (Nat.pow_dvd_pow 2 (by omega))]
  · have empty : hi + 1 - lo = 0 := by omega
    rw [fld, empty, Nat.pow_zero, Nat.mod_one, BitVec.toNat_of_zero_length rfl]

/-! ## Writes of other registers -/

theorem State.regAt_setRegAt_page_ne {page off idx : Nat} (hp : p < 0x100) (ho : o < 0x1000) (hpage : page < 0x100)
    (hoff : off < 0x1000) (h : p ≠ page) (s : State) (v : Word) :
    (s.setRegAt page off idx v).regAt p o 0 = s.regAt p o 0 :=
  s.regAt_setRegAt_ne (fun e => h (rkey_inj hp ho hpage hoff e).1) v

theorem State.regAt_setRegAt_off_ne {page off idx : Nat} (ho : o < 0x1000) (hoff : off < 0x1000) (h : o ≠ off)
    (s : State) (v : Word) : (s.setRegAt page off idx v).regAt p o 0 = s.regAt p o 0 :=
  s.regAt_setRegAt_ne (by unfold rkey; omega) v

/-- What changes no register at any one step changes none in all. -/
theorem foldl_regAt {β : Type} {f : State → β → State} (hf : ∀ s x, (f s x).regAt p o 0 = s.regAt p o 0)
    (l : List β) (s : State) : (l.foldl f s).regAt p o 0 = s.regAt p o 0 :=
  List.foldlRecOn l f (motive := fun t => t.regAt p o 0 = s.regAt p o 0) rfl fun t same x _ => (hf t x).trans same

/-- A register above the header of its page, on a page on which neither events, nor self-test runs, nor the end of duties
and pictures write: any but BST, the interrupt controllers, the dispatcher and KIB. -/
structure PlainReg (p o : Nat) : Prop where
  page : p < 0x100
  above : 0x40 ≤ o
  below : o < 0x1000
  apart : p ≠ pBst ∧ p ≠ 6 ∧ p ≠ 7 ∧ p ≠ pDsp ∧ p ≠ pKib

theorem plainReg_devState : PlainReg pSys 0x040 := ⟨by decide, by decide, by decide, by decide⟩

theorem plainReg_wdCause : PlainReg pSys 0x050 := ⟨by decide, by decide, by decide, by decide⟩

theorem plainReg_dmcStat {n : Nat} (hn : n < 6) : PlainReg (pDmc n) 0x044 := by
  refine ⟨?_, by decide, by decide, ?_⟩ <;> simp only [pDmc, pBst, pDsp, pKib] <;> omega

/-! ## Events (R17, R344, R346) -/

theorem setRaw_regAt (h : PlainReg p o) (page : Nat) (mask : Word) (s : State) :
    (setRaw page mask s).2.regAt p o 0 = s.regAt p o 0 :=
  State.regAt_setRegAt_off_ne h.below (by decide) (by have := h.above; omega) ..

theorem ctlPage_cases (c : Controller) : ctlPage c = 6 ∨ ctlPage c = 7 := by
  cases c
  · exact .inl rfl
  · exact .inr rfl

theorem countEvent_regAt (h : PlainReg p o) {src : Nat} (hsrc : src < 0x100) (s : State) :
    (countEvent src s).2.regAt p o 0 = s.regAt p o 0 := by
  unfold countEvent
  dsimp only
  split
  · rfl
  · obtain ⟨-, not6, not7, -⟩ := h.apart
    have ctl := ctlPage_cases (sourceOwner src s)
    exact State.regAt_setRegAt_page_ne h.page h.below (by omega) (by omega) (by omega) ..

theorem icEvent_regAt (h : PlainReg p o) {src : Nat} (hsrc : src < 0x100) (s : State) :
    (icEvent src s).regAt p o 0 = s.regAt p o 0 := by
  have ctl : ∀ c, ctlPage c < 0x100 := fun c => by have := ctlPage_cases c; omega
  unfold icEvent
  dsimp only
  split
  · split
    · split
      · rw [setRaw_regAt h, countEvent_regAt h (ctl _), setRaw_regAt h, countEvent_regAt h hsrc]
      · rw [countEvent_regAt h (ctl _), setRaw_regAt h, countEvent_regAt h hsrc]
    · rw [setRaw_regAt h, countEvent_regAt h hsrc]
  · exact countEvent_regAt h hsrc s

theorem raiseBit_regAt (h : PlainReg p o) {page : Nat} (hpage : page < 0x100) (i : Nat) (s : State) :
    (raiseBit page i s).regAt p o 0 = s.regAt p o 0 := by
  unfold raiseBit raise
  dsimp only
  split
  · rfl
  · split
    · rw [icEvent_regAt h hpage, setRaw_regAt h]
    · exact setRaw_regAt h ..

/-! ## Self-test runs end (R413, R414) -/

theorem releasePart_regAt (h : PlainReg p o) (part : Nat) (s : State) :
    (releasePart part s).regAt p o 0 = s.regAt p o 0 := by
  unfold releasePart
  split
  · rfl
  · exact foldl_regAt (fun t _ => t.regAt_setRegAt_off_ne h.below (by decide) (by have := h.above; omega) _) _ s

theorem setBst_regAt (f : BstSt → BstSt) (s : State) (p o i : Nat) : (setBst f s).regAt p o i = s.regAt p o i := rfl

theorem recordRun_regAt (h : PlainReg p o) (part start verdict cause : Nat) (exec sig : Word) (s : State) :
    (recordRun part start verdict cause exec sig s).regAt p o 0 = s.regAt p o 0 := by
  have other : ∀ off idx v (t : State), off < 0x1000 → (t.setRegAt pBst off idx v).regAt p o 0 = t.regAt p o 0 :=
    fun _ _ v t hoff => t.regAt_setRegAt_page_ne h.page h.below (by decide) hoff h.apart.1 v
  unfold recordRun
  dsimp only
  rw [releasePart_regAt h, setBst_regAt]
  iterate 4 rw [other _ _ _ _ (by decide)]

theorem bstInterrupt_regAt (h : PlainReg p o) (cause : Nat) (runs : List (Nat × Nat)) (s : State) :
    (bstInterrupt cause runs s).regAt p o 0 = s.regAt p o 0 := by
  induction runs generalizing s with
  | nil => rfl
  | cons run rest ih =>
    simp only [bstInterrupt]
    rw [ih, raiseBit_regAt h (by decide), recordRun_regAt h]
    rfl

/-! ## A new device state (R30) -/

theorem setDev_dev {new : Nat} (h : new < 8) (s : State) : (setDev new s).dev = new := by
  show fld ((setDev new s).regAt pSys 0x040 0) 2 0 = new
  unfold setDev
  rw [raiseBit_regAt plainReg_devState (by decide), State.setFld_def, State.regAt_setRegAt_same]
  exact fld_putFld_same _ (by decide) h

theorem setDev_regAt (h : PlainReg p o) (hp : p ≠ pSys) (new : Nat) (s : State) :
    (setDev new s).regAt p o 0 = s.regAt p o 0 := by
  have other : ∀ v (t : State), (t.setRegAt pSys 0x040 0 v).regAt p o 0 = t.regAt p o 0 :=
    fun v t => t.regAt_setRegAt_page_ne h.page h.below (by decide) (by decide) hp v
  unfold setDev
  simp only [State.setFld_def]
  rw [raiseBit_regAt h (by decide), other, other, bstInterrupt_regAt h]
  rfl

/-! ## The withdrawal (R31, R299, R437 to R439) -/

theorem ngWithdraw_regAt (h : PlainReg p o) (s : State) : (ngWithdraw s).regAt p o 0 = s.regAt p o 0 := by
  obtain ⟨-, -, -, notDsp, notKib⟩ := h.apart
  have dsp : ∀ idx v (t : State), (t.setRegAt 56 0x890 idx v).regAt p o 0 = t.regAt p o 0 :=
    fun _ v t => t.regAt_setRegAt_page_ne h.page h.below (by decide) (by decide) notDsp v
  have kib : ∀ idx v (t : State), (t.setRegAt 134 0x108 idx v).regAt p o 0 = t.regAt p o 0 :=
    fun _ v t => t.regAt_setRegAt_page_ne h.page h.below (by decide) (by decide) notKib v
  unfold ngWithdraw
  refine (foldl_regAt (fun t e => ?_) _ _).trans <| (foldl_regAt (fun t _ => dsp _ _ t) _ _).trans
    (foldl_regAt (fun t _ => kib _ _ t) _ _)
  split
  · exact dsp _ _ t
  · rfl

/-- The state in which a withdrawal has written SYS_DEV_STATE, SYS_WD_CAUSE and SYS_WD_TIME. -/
def wdRecorded (cls inst : Nat) (s : State) : State :=
  let s := setDev devWithdrawn s
  let s := { s with frozen := some (hold s) }
  (s.setReg pSys 0x050 (BitVec.ofNat 32 (cls * 0x1000 + inst))).setPairAt pSys 0x058 0 s.timer

/-- Past its record, a withdrawal writes no plain register but PMU_WATCH. -/
theorem withdraw_regAt_recorded (h : PlainReg p o) (hp : p ≠ pPmu) (taken : s.dev = devBoot ∨ s.dev = devRun)
    (cls inst : Nat) : (withdraw cls inst s).regAt p o 0 = (wdRecorded cls inst s).regAt p o 0 := by
  have stopped : (withdraw cls inst s).regAt p o 0
      = ((ngWithdraw (wdRecorded cls inst s)).setFld pPmu 0x054 0 0 0).regAt p o 0 := by
    unfold withdraw
    rw [if_pos (by simpa using taken)]
    rfl
  rw [stopped, State.setFld_def, State.regAt_setRegAt_page_ne h.page h.below (by decide) (by decide) hp,
    ngWithdraw_regAt h]

theorem withdraw_dev (taken : s.dev = devBoot ∨ s.dev = devRun) (cls inst : Nat) :
    (withdraw cls inst s).dev = devWithdrawn := by
  have recorded : (wdRecorded cls inst s).regAt pSys 0x040 0 = (setDev devWithdrawn s).regAt pSys 0x040 0 := by
    simp only [wdRecorded, State.setReg_def, State.setPairAt_def]
    iterate 3 rw [State.regAt_setRegAt_off_ne (by decide) (by decide) (by decide)]
    rfl
  show fld ((withdraw cls inst s).regAt pSys 0x040 0) 2 0 = devWithdrawn
  rw [withdraw_regAt_recorded plainReg_devState (by decide) taken, recorded]
  exact setDev_dev (by decide) s

theorem withdraw_wdCause (taken : s.dev = devBoot ∨ s.dev = devRun) (cls inst : Nat) :
    (withdraw cls inst s).regAt pSys 0x050 0 = BitVec.ofNat 32 (cls * 0x1000 + inst) := by
  rw [withdraw_regAt_recorded plainReg_wdCause (by decide) taken]
  simp only [wdRecorded, State.setReg_def, State.setPairAt_def]
  iterate 2 rw [State.regAt_setRegAt_off_ne (by decide) (by decide) (by decide)]
  exact State.regAt_setRegAt_same ..

/-- A withdrawal leaves the plain registers of pages other than SYS and PMU. -/
theorem withdraw_regAt (h : PlainReg p o) (hsys : p ≠ pSys) (hpmu : p ≠ pPmu)
    (taken : s.dev = devBoot ∨ s.dev = devRun) (cls inst : Nat) :
    (withdraw cls inst s).regAt p o 0 = s.regAt p o 0 := by
  have other : ∀ {off : Nat} v (t : State), off < 0x1000 → (t.setRegAt pSys off 0 v).regAt p o 0 = t.regAt p o 0 :=
    fun v t hoff => t.regAt_setRegAt_page_ne h.page h.below (by decide) hoff hsys v
  rw [withdraw_regAt_recorded h hpmu taken]
  simp only [wdRecorded, State.setReg_def, State.setPairAt_def]
  rw [other _ _ (by decide), other _ _ (by decide), other _ _ (by decide)]
  exact setDev_regAt h hsys devWithdrawn s

/-! ## A memory channel (R310, R311, R328) -/

variable {n : Nat}

theorem pDmc_lt (hn : n < 6) : pDmc n < 0x100 := by unfold pDmc; omega

theorem pDmc_ne_sys : pDmc n ≠ pSys := by unfold pSys pDmc; omega

theorem pDmc_ne_pmu : pDmc n ≠ pPmu := by unfold pPmu pDmc; omega

theorem dmcState_setDmcState {st : Nat} (h : st < 8) (s : State) : dmcState n (setDmcState n st s) = st := by
  simp only [dmcState, setDmcState, State.setFld_def, State.rf_def, State.regAt_setRegAt_same]
  exact fld_putFld_same _ (by decide) h

/-- An event does not change the state of a channel. -/
theorem dmcState_raiseBit (hn : n < 6) {page : Nat} (hpage : page < 0x100) (i : Nat) (s : State) :
    dmcState n (raiseBit page i s) = dmcState n s :=
  congrArg (fld · 2 0) (raiseBit_regAt (plainReg_dmcStat hn) hpage i s)

theorem dev_raiseBit {page : Nat} (hpage : page < 0x100) (i : Nat) (s : State) : (raiseBit page i s).dev = s.dev :=
  congrArg (fld · 2 0) (raiseBit_regAt plainReg_devState hpage i s)

/-- A write to a register of a channel does not change the device state. -/
theorem dev_setRegAt_dmc (hn : n < 6) {off idx : Nat} (hoff : off < 0x1000) (s : State) (v : Word) :
    (s.setRegAt (pDmc n) off idx v).dev = s.dev :=
  congrArg (fld · 2 0)
    (s.regAt_setRegAt_page_ne plainReg_devState.page plainReg_devState.below (pDmc_lt hn) hoff pDmc_ne_sys.symm v)

theorem dev_setDmcState (hn : n < 6) (st : Nat) (s : State) : (setDmcState n st s).dev = s.dev :=
  dev_setRegAt_dmc hn (by decide) ..

theorem dev_loseSpare (hn : n < 6) (s : State) : (loseSpare n s).dev = s.dev := by
  unfold loseSpare
  split
  · exact (dev_raiseBit (pDmc_lt hn) ..).trans (dev_setRegAt_dmc hn (by decide) ..)
  · rfl

theorem dev_initSpare (hn : n < 6) (rank : Nat) (s : State) : (initSpare n rank s).dev = s.dev := by
  have write : ∀ v (t : State), (t.setRegAt (pDmc n) 0x04C 0 v).dev = t.dev :=
    fun v t => dev_setRegAt_dmc hn (by decide) t v
  have lost := (dev_loseSpare hn (setPstate n rank rankRetired s)).trans (write _ s)
  unfold initSpare
  dsimp only
  split
  · exact (write _ _).trans ((write _ _).trans lost)
  · exact lost

theorem dev_initFails (hn : n < 6) (ws : List (Nat × Nat)) (s : State) : (initFails n ws s).2.dev = s.dev := by
  induction ws generalizing s with
  | nil => rfl
  | cons w ws ih =>
    simp only [initFails]
    split
    · exact ih s
    · split
      · rw [ih, dev_initSpare hn]
      · exact dev_setRegAt_dmc hn (by decide) ..

/-! ## A channel that fails in BOOT (R447) -/

/-- The channel reads FAILED, and the device is WITHDRAWN by it: CLASS 0x9, INSTANCE 0x10 + n. -/
def FailedAndWithdrawn (n : Nat) (t : State) : Prop :=
  dmcState n t = dmcFailed ∧ t.dev = devWithdrawn ∧ t.rf pSys 0x050 15 12 = 9 ∧ t.rf pSys 0x050 7 0 = 0x10 + n

/-- The channel that reads FAILED, with INIT_FAIL raised (R311, R328). -/
def markedFailed (n : Nat) (s : State) : State := raiseBit (pDmc n) 1 (setDmcState n dmcFailed s)

theorem dmcState_markedFailed (hn : n < 6) (s : State) : dmcState n (markedFailed n s) = dmcFailed :=
  (dmcState_raiseBit hn (pDmc_lt hn) ..).trans (dmcState_setDmcState (by decide) s)

theorem dev_markedFailed (hn : n < 6) (s : State) : (markedFailed n s).dev = s.dev :=
  (dev_raiseBit (pDmc_lt hn) ..).trans (dev_setDmcState hn ..)

theorem channelFails_boot (hn : n < 6) (boot : s.dev = devBoot) : FailedAndWithdrawn n (channelFails n s) := by
  have bootStill := (dev_markedFailed hn s).trans boot
  have withdrawn : channelFails n s = withdraw 0x9 (0x10 + n) (markedFailed n s) := if_pos bootStill
  have kept := withdraw_regAt (plainReg_dmcStat hn) pDmc_ne_sys pDmc_ne_pmu (.inl bootStill) 0x9 (0x10 + n)
  have cause := withdraw_wdCause (.inl bootStill) 0x9 (0x10 + n)
  rw [withdrawn]
  refine ⟨(congrArg (fld · 2 0) kept).trans (dmcState_markedFailed hn s), withdraw_dev (.inl bootStill) .., ?_, ?_⟩
  · rw [State.rf_def, cause, fld_ofNat (by decide)]
    omega
  · rw [State.rf_def, cause, fld_ofNat (by decide)]
    omega

theorem served_of_clocked (h : clocked s = true) : served s = true := (Bool.and_eq_true_iff.1 h).1

/-- What DMC_INIT_DONE leaves when every failing rank has been replaced by the spare (R310). -/
def initPassed (n : Nat) (s : State) : State :=
  raiseBit (pDmc n) 0 (setDmcState n dmcInService ((zeroFill n (setDmc n (fun t =>
    { t with winStart := s.clk, winCnt := [], winFired := [], sparePoison := [] }) s)).setReg (pDmc n) 0x050 0xF000))

/-- A rank that fails, and the word of DMC_TRAIN_STAT that says at which step and where. -/
def failureWord (f : TrainFailure) : Nat × Nat :=
  (f.rank.val, (f.step.val + 1) * 2 ^ 12 + f.rank.val * 2 ^ 10 + b2n f.subch * 2 ^ 9 + (f.lane.map (·.val)).getD 0x3F)

/-- Whether an initialisation with these failures passes, and the state to which they bring it. -/
def initJudged (n : Nat) (fails : List TrainFailure) (s : State) : Bool × State :=
  initFails n (fails.map failureWord) (s.setFld (pDmc n) 0x040 0 0 0)

/-- The end of an initialisation: the channel passes or it fails, by what its failing ranks came to. -/
theorem exec_dmcInitDone (n : Fin 6) (fails : List TrainFailure) (live : served s = true)
    (running : dmcState n.val s = dmcInitSt) :
    exec (.dmcInitDone n fails) s
      = .next (if (initJudged n.val fails s).1 then initPassed n.val (initJudged n.val fails s).2
          else channelFails n.val (initJudged n.val fails s).2) := by
  show execDmcInitDone n fails s = _
  unfold execDmcInitDone
  dsimp only
  rw [whenServed, if_pos live, if_pos running]
  rfl

theorem dev_initJudged (hn : n < 6) (fails : List TrainFailure) (s : State) : (initJudged n fails s).2.dev = s.dev :=
  (dev_initFails hn ..).trans (dev_setRegAt_dmc hn (by decide) ..)

theorem dmcState_initPassed (hn : n < 6) (s : State) : dmcState n (initPassed n s) = dmcInService :=
  (dmcState_raiseBit hn (pDmc_lt hn) ..).trans (dmcState_setDmcState (by decide) _)

theorem dev_initPassed (hn : n < 6) (s : State) : (initPassed n s).dev = s.dev :=
  (dev_raiseBit (pDmc_lt hn) ..).trans ((dev_setDmcState hn ..).trans (dev_setRegAt_dmc hn (by decide) ..))

/-- The commands that bring the ranks of a channel out of self-refresh (R328). -/
def exitCommands (n : Nat) (s : State) : State :=
  let ranks := (List.range 4).filter fun p => rankFitted n p s
  let s := ranks.foldl (fun s p => s.emit (.ddr n p .selfRefreshExit)) s
  ranks.foldl (fun s p => (s.emit (.ddr n p .zqCal)).emit (.ddr n p .dqsOsc)) s

theorem exitCommands_regAt (n : Nat) (s : State) (p o : Nat) : (exitCommands n s).regAt p o 0 = s.regAt p o 0 := by
  have one : ∀ (t : State) e, (t.emit e).regAt p o 0 = t.regAt p o 0 := fun _ _ => rfl
  unfold exitCommands
  exact (foldl_regAt (fun t _ => (one _ _).trans (one t _)) ..).trans (foldl_regAt (fun t _ => one t _) ..)

theorem dev_exitCommands (n : Nat) (s : State) : (exitCommands n s).dev = s.dev :=
  congrArg (fld · 2 0) (exitCommands_regAt n s pSys 0x040)

/-- A self-refresh exit whose verification fails: the ranks are brought out, and the channel fails. -/
theorem exec_selfRefreshExit_failed (n : Fin 6) (live : served s = true) (leaves : leavesSelfRefresh n.val s = true) :
    exec (.selfRefreshExit n false) s = .next (channelFails n.val (exitCommands n.val s)) := by
  show execSelfRefreshExit n false s = _
  unfold execSelfRefreshExit
  dsimp only
  rw [whenServed, if_pos live, if_pos leaves]
  rfl

/-- Settles O19: an initialisation whose failing ranks the spare does not cover, and a failed self-refresh exit, end in
`channelFails`, which withdraws a device in BOOT; an initialisation that passes leaves the channel in service (R447). -/
theorem failedChannelWithdrawsInBoot : Obligations.FailedChannelWithdrawsInBoot := by
  unfold Obligations.FailedChannelWithdrawsInBoot
  intro n s boot live
  constructor
  · intro fails running
    have bootStill := (dev_initJudged n.isLt fails s).trans boot
    refine ⟨_, exec_dmcInitDone n fails (served_of_clocked live) running, ?_⟩
    cases (initJudged n.val fails s).1 with
    | true =>
      have passed := dmcState_initPassed n.isLt (initJudged n.val fails s).2
      exact ⟨fun failed => absurd (passed.symm.trans failed) (by decide),
        fun _ => (dev_initPassed n.isLt _).trans bootStill⟩
    | false =>
      obtain ⟨failed, withdrawn⟩ := channelFails_boot n.isLt bootStill
      exact ⟨fun _ => withdrawn, fun other => absurd failed other⟩
  · intro leaves
    exact ⟨_, exec_selfRefreshExit_failed n (served_of_clocked live) leaves,
      channelFails_boot n.isLt ((dev_exitCommands n.val s).trans boot)⟩

end Sys2Proof.Machine
end
